-- ==== Sys2Proof/Word.lean ====
section
/-! DEFINITION. The words the BC416 works on: bytes of a frame and the 32-bit station timer (00_scope.md, Units). -/

namespace Sys2Proof

/-- One byte of a frame's payload. -/
abbrev Byte := BitVec 8

/-- A value of the station timer: milliseconds in 32 bits, wrapping (00_scope.md, Units). -/
abbrev Timer := BitVec 32

/-- The time from `start` to `now`, in milliseconds: the difference of two timer values, so that wrapping does not
disturb it (00_scope.md, Units). -/
def elapsedMs (now start : Timer) : Nat := (now - start).toNat

end Sys2Proof
end

