-- ==== Sys2Proof/Syntax.lean ====
section
/-! DEFINITION. The commands the BC416 takes: one constructor per row of spec/opcode_table.json, with its operands. -/

namespace Sys2Proof

/-- The 16-bit leading part of a frame: class, field and station number of the sender (R156, chapter 9.6). -/
structure Key where
  cls : BitVec 3
  field : BitVec 8
  station : BitVec 5
  deriving DecidableEq, Repr

/-- A frame of the aisle bus: its key and its payload bytes, whose number is the length part (R156). -/
structure Frame where
  key : Key
  payload : List Byte
  deriving DecidableEq, Repr

/-- This station's part in the frame now on the bus (R158, R159). -/
inductive BusRole
  | transmitter
  | receiver
  deriving DecidableEq, Repr

/-- The four kinds of bus error (R159). -/
inductive BusError
  | level
  | form
  | check
  | ack
  deriving DecidableEq, Repr

/-- The two levels the supply monitor compares SUPPLY_SENSE with (R33). -/
inductive SupplyLevel
  | warn
  | cut
  deriving DecidableEq, Repr

/-- The two directions of rotation, and the sign of an encoder count (2.1). -/
inductive Direction
  | forward
  | reverse
  deriving DecidableEq, Repr

/-- The commands. A frame handed to its owner (HALT to LANE_IDLE below) carries no operand: it stands at the head of
the receive queue (R160, log 6). Face lines are given as the electrical levels they show now (`high`), to which the part
applies the polarity of setup group 5 and the 10 ms debounce (R64, log 24). -/
inductive Instr
  /-- WARM_START: the straps as read, and the retained positions in which a bit has flipped since (one entry a bit). -/
  | warmStart (stnSel : BitVec 5) (rateSel : BitVec 2) (flips : List (Fin 512))
  /-- COLD_START: the straps as read. -/
  | coldStart (stnSel : BitVec 5) (rateSel : BitVec 2)
  | standby
  | resetAssert
  | markerLost
  /-- FRAME_HEARD: the frame that succeeded on the bus. -/
  | frameHeard (frame : Frame)
  /-- IDLE_BUS_CONTEND: the lowest key among the other stations' frames that start on the same idle bus. -/
  | idleBusContend (rival : Option Key)
  /-- BUS_ERROR: the kind of error this station detects, and its part in the frame. -/
  | busError (kind : BusError) (role : BusRole)
  | errorMarkSeen (role : BusRole)
  | frameHeld (role : BusRole)
  /-- OFF_RECOVERY: one run of consecutive recessive bit times seen in OFF. -/
  | offRecovery (recessiveBits : Nat)
  | txPlaceFreed
  | halt
  | resume
  | calendar
  | setup
  | setupEnd
  | joinTimeout
  | reportHeard
  | adjust
  | park
  | audit
  | order
  | inbound
  | bid
  | claim
  | computationResult
  | windowEnd
  | secondChance
  | relinquish
  | intent
  | bayClear
  | laneIdle
  | faultGraceTimeout
  /-- ENCODER_COUNT: the sign of the count. -/
  | encoderCount (direction : Direction)
  /-- INDEX_EDGE: the level of HOME_FLAG sampled at the edge. -/
  | indexEdge (homeFlag : Bool)
  | stallTimeout
  | settleRestTimeout
  | homingRestTimeout
  | holdRestTimeout
  | curtainClearTimeout
  | supplyClearTimeout
  /-- SUPPLY_LEVEL_CHANGE: a comparison as it reads SUPPLY_SENSE, in percent of nominal, its 2 ms filter applied by the
  monitor (R33, log 37). -/
  | supplyLevelChange (level : SupplyLevel) (sense : Nat)
  | doneHoldTimeout
  /-- SCAN_CYCLE: bit 4 r + c is COL_RETURN[c] under ROW_STROBE[r]; the word the load pin gives if a settle scan is
  handed over; the retained positions in which a bit has flipped since the last such command. A cycle is made on them where
  one is due (R61, log 55). -/
  | scanCycle (returns : BitVec 12) (loadPin : BitVec 16) (flips : List (Fin 512))
  /-- DONE_EDGE: the line DONE_IN at the level that makes the input active; at the other it is DONE_RELEASE, as
  `Machine.State.doneCommand` says (R64, log 24). -/
  | doneEdge
  | dwellTimeout
  | stopLevelChange (high : Bool)
  | curtainChange (high : Bool)
  | arrival (high : Bool)
  | inboundDeadline
  | pocketSenseChange (pocket : Fin 2) (high : Bool)
  | jamTimeout
  | auditScan
  | doneRelease
  deriving DecidableEq, Repr

end Sys2Proof
end

