-- ==== Sys2Proof/Config.lean ====
section
/-! DEFINITION. What the specification leaves open about a value: the model's free values, with no body. -/

namespace Sys2Proof

/-- Whether SUPPLY_SENSE exactly at a level reads below it. R33 gives the two readings, above and below, and does not
say which one equality is. A free value: nothing constrains it (DESIGN CHOICE, log 12, safe). -/
opaque Config.supplyEqualReadsBelow : SupplyLevel → Bool

/-- How many recessive bits the end part of a frame has. R156 says that it is a run of recessive bits and gives no number.
A free value: nothing constrains it (DESIGN CHOICE, log 49, safe). -/
opaque Config.endBits : Nat

/-- Where in its on and off times a lamp line begins to blink: R67 gives the two times and not where they begin. By the line
of SLOT_LAMP and the timer at which the lamp took its state. A free value: nothing constrains it (DESIGN CHOICE, log 56,
safe). -/
opaque Config.blinkPhase : Nat → Timer → Nat

end Sys2Proof
end

