-- ==== Sys2Proof/Machine/State.lean ====
section
/-! DEFINITION. The state of the BC416, block by block, and its value right after a cold start. Plain data. -/

namespace Sys2Proof.Machine

/-! ### Stock Record Store (01_stock_records.md) -/

/-- The seven slot states (R2). -/
inductive SlotState
  | empty
  | occupied
  | pickClaimed
  | outbound
  | reservedIn
  | suspect
  | retired
  deriving DecidableEq, Repr

/-- Why a slot is SUSPECT (R2, R4). -/
inductive SuspectReason
  | missing
  | unknown
  | corrupt
  | unverified
  deriving DecidableEq, Repr

/-- The five stock data fields, present together or absent together (R2). -/
structure StockData where
  article : Nat
  size : Nat
  weight : Nat
  dotWeek : Nat
  batch : Nat
  deriving DecidableEq, Repr

/-- A slot record: a state and up to three optional parts (R2). Its legality is `SlotRecord.legal` (R3). -/
structure SlotRecord where
  state : SlotState
  stock : Option StockData
  reason : Option SuspectReason
  inbound : Option Nat
  deriving DecidableEq, Repr

/-- A record as stored with its check code: the record last written and the number of bits of the record and its code
that have flipped since (R7, R9; log 4). -/
structure Cell where
  record : SlotRecord
  flipped : Nat
  deriving DecidableEq, Repr

/-- What a cold start writes in every position: SUSPECT(UNVERIFIED), no other part, a fresh check code (R19). -/
def Cell.unverified : Cell :=
  { record := { state := .suspect, stock := none, reason := some .unverified, inbound := none }, flipped := 0 }

/-- The geometry under which the table was laid out (R17). -/
structure Geometry where
  carriers : Nat
  rows : Nat
  columns : Nat
  deriving DecidableEq, Repr

/-- The retention marker: lost, or intact with the geometry recorded, if one has been given (R17). -/
inductive Marker
  | lost
  | intact (geometry : Option Geometry)
  deriving DecidableEq, Repr

/-- The retained store (R17). `table` lists the positions that differ from `Cell.unverified`, rising (log 32). -/
structure StockStore where
  table : List (Nat × Cell)
  corrections : Nat
  marker : Marker
  deriving DecidableEq, Repr

/-! ### Carousel Drive (02_carousel_drive.md) -/

/-- The seven motion states (2.3). -/
inductive DriveState
  | unhomed
  | homing
  | idle
  | moving
  | settling
  | holding
  | fault
  deriving DecidableEq, Repr

/-- The three phases of MOVING (R29). -/
inductive Phase
  | accel
  | cruise
  | decel
  deriving DecidableEq, Repr

/-- The two speed profiles (R32). -/
inductive Profile
  | normal
  | slow
  deriving DecidableEq, Repr

/-- The two kinds of drive fault (R39). -/
inductive FaultKind
  | positionLost
  | stall
  deriving DecidableEq, Repr

/-- What HOLDING holds (R35). -/
inductive HeldWork
  | move
  | homing
  deriving DecidableEq, Repr

/-- A duty ramp, linear in the counts covered in the direction of the move (R29, R32). -/
structure Ramp where
  start : Nat
  goal : Nat
  span : Nat
  covered : Int
  deriving DecidableEq, Repr

/-- The glitch filter of one comparison of the supply monitor: SUPPLY_SENSE as last read for it, in percent of nominal,
and since when it has read against the live level without a break (R33). -/
structure SupplyFilter where
  sense : Nat
  since : Option Timer
  deriving DecidableEq, Repr

/-- The Carousel Drive, with its supply monitor, its holding causes and its DONE timing. -/
structure Drive where
  state : DriveState
  phase : Phase
  /-- The move started with a remaining travel of P or less: no CRUISE (R29). -/
  shortMove : Bool
  /-- The count A along the loop (R22). -/
  position : Nat
  /-- The home edge of the running homing has been taken, so the position is known (R38). -/
  homeFound : Bool
  direction : Direction
  duty : Nat
  brake : Bool
  ramp : Option Ramp
  target : Option Nat
  /-- The remaining travel in the direction of the move, negative beyond the target (R29, R37, log 25). -/
  travel : Int
  held : Option HeldWork
  faultKind : Option FaultKind
  active : Profile
  /-- Index positions passed whose accepted edge is still expected, with the direction of passing (R23, log 15). -/
  expectations : List (Nat × Direction)
  /-- The direction of the count that brought A to the index position it stands at, unless an edge has been accepted there
  since (R23, log 15). -/
  arrived : Option Direction
  homingEdges : Nat
  homingSpacing : Option Int
  stallSince : Timer
  restSince : Timer
  lastCount : Option Timer
  warnBelow : Bool
  cutBelow : Bool
  warnFilter : SupplyFilter
  cutFilter : SupplyFilter
  stickyWarn : Bool
  stickyCut : Bool
  curtainCause : Bool
  curtainClearSince : Option Timer
  supplyCause : Bool
  supplyClearSince : Option Timer
  doneSince : Option Timer
  deriving DecidableEq, Repr

/-! ### Lines of orders, as several blocks name them -/

/-- An order line: lane, bay, line number and order id (R42, R96, R113). -/
structure LineRef where
  lane : Fin 8
  bay : Fin 4
  line : Nat
  order : Nat
  deriving DecidableEq, Repr

/-! ### Work Planner (03_work_queue_and_stop_planning.md) -/

/-- The kind of a task with the fields of its kind (R42). -/
inductive TaskWork
  | pick (line : LineRef)
  | load (inboundId : Nat)
  | restore (pocket : Fin 2)
  deriving DecidableEq, Repr

/-- The state of a task (R44). -/
inductive TaskState
  | waiting
  | atFace
  | deferred
  deriving DecidableEq, Repr

/-- A task record of the work queue (R42). -/
structure Task where
  work : TaskWork
  slot : Nat
  created : Timer
  deferrals : Nat
  state : TaskState
  /-- The slot the task named when it joined the queue, which it keeps when it is moved: the model's own mark of which task
  it is (R45, R57, log 31). -/
  joined : Nat := slot
  deriving DecidableEq, Repr

/-- The kinds of stop (R47). -/
inductive StopKind
  | sweep
  | aged
  | nearest
  | park
  deriving DecidableEq, Repr

/-- A stop in flight (R48). -/
structure Stop where
  target : Nat
  kind : StopKind
  deriving DecidableEq, Repr

/-- The Work Planner. -/
structure Planner where
  queue : List Task
  stopRun : Nat
  parkTarget : Option Nat
  inFlight : Option Stop
  bidHold : Bool
  graceSince : Option Timer
  deriving DecidableEq, Repr

/-! ### Face Unit (04_the_pick_face.md) -/

/-- A debounced presence (R62). -/
inductive Presence
  | present
  | absent
  | unknown
  deriving DecidableEq, Repr

/-- One position of the presence image: debounced presence, run count, latest sample (R62, R63). -/
structure SensorPos where
  debounced : Presence
  run : Nat
  last : Bool
  deriving DecidableEq, Repr

/-- A settle scan in progress: its carrier, the cycles since SETTLED, and whether the stop opened with due tasks. -/
structure SettleScan where
  carrier : Nat
  cycles : Nat
  hadDue : Bool
  deriving DecidableEq, Repr

/-- The phases of a dwell (R65). -/
inductive DwellPhase
  | scanning
  | working
  deriving DecidableEq, Repr

/-- A due task of the dwell, named by its slot, with its lit mark (R65). -/
structure Due where
  slot : Nat
  lit : Bool
  deriving DecidableEq, Repr

/-- The kinds of wrong event (R72). -/
inductive WrongKind
  | wrongPick
  | wrongPlace
  deriving DecidableEq, Repr

/-- A pending wrong event (R65, R72). -/
structure WrongEvent where
  slot : Nat
  kind : WrongKind
  deriving DecidableEq, Repr

/-- The dwell record (R65), with the settle-scan image it was entered with (log 18). -/
structure Dwell where
  carrier : Nat
  phase : DwellPhase
  due : List Due
  wrong : List WrongEvent
  elapsed : Nat
  scan : List Bool
  deriving DecidableEq, Repr

/-- A receiving record (R76). -/
structure Receiving where
  inboundId : Nat
  claimed : Nat
  arrived : Nat
  loaded : Nat
  deadline : Timer
  deriving DecidableEq, Repr

/-- The six debounced face inputs (R64). -/
inductive FaceInput
  | done
  | stop
  | curtain
  | arrival
  | pocket (p : Fin 2)
  deriving DecidableEq, Repr

/-- The debounce of one face input: the level its line shows, `none` until a first one is shown, and since when it has shown
a level other than the debounced one without a break (R64, log 24). -/
structure Debounce where
  line : Option Bool
  since : Option Timer
  deriving DecidableEq, Repr

/-- The debounces of the six face inputs (R64). -/
structure Debounces where
  done : Debounce
  stop : Debounce
  curtain : Debounce
  arrival : Debounce
  pockets : Vector Debounce 2
  deriving DecidableEq, Repr

/-- What the lines a scan cycle reads would give: bit 4 × row + column of the presence matrix, and the load pin's word
(R61, R150; log 55). -/
structure FaceView where
  returns : BitVec 12
  loadPin : BitVec 16
  deriving DecidableEq, Repr

/-- The Face Unit. A debounced input level is `none` until the input has adopted its level (R64). -/
structure FaceUnit where
  image : Vector SensorPos 12
  /-- What the matrix and the load pin were last shown to give, `none` until they are first shown (log 55). -/
  view : Option FaceView
  /-- When the last scan cycle was made, `none` where none has been made since scanning began (R61, log 55). -/
  lastScan : Option Timer
  settleScan : Option SettleScan
  dwell : Option Dwell
  done : Option Bool
  stop : Option Bool
  curtain : Option Bool
  arrival : Option Bool
  pocketSense : Vector (Option Bool) 2
  debounces : Debounces
  /-- For each line of SLOT_LAMP, the milliseconds into its on and off times where its lamp blinks, otherwise 0 (R67,
  log 56). -/
  blink : Vector Nat 12
  receiving : List Receiving
  deriving DecidableEq, Repr

/-! ### Contest Engine (06_contests.md) -/

/-- A contest reference (R96). -/
inductive Ref
  | pick (line : LineRef)
  | store (inboundId : Nat)
  deriving DecidableEq, Repr

/-- The transmit state of a frame in the transmit queue (R162). -/
inductive TxState
  | queued
  | sending
  deriving DecidableEq, Repr

/-- The states of a contest record (R97). -/
inductive ContestState
  | window
  | deciding
  | claiming
  | lost
  | closed
  deriving DecidableEq, Repr

/-- A contest record (R96). -/
structure Contest where
  ref : Ref
  round : Nat
  openedAt : Timer
  offered : Option StockData
  bid : Nat
  quantity : Nat
  slots : List Nat
  /-- The lowest key heard, as a number. -/
  lowest : Option Nat
  ownHeard : Bool
  secondChance : Bool
  /-- The moment of five windows after the opening has passed (R106). -/
  chancePassed : Bool
  bidFrame : Option TxState
  claimFrame : Option TxState
  state : ContestState
  deriving DecidableEq, Repr

/-- The states of an offer entry (R98); an entry that becomes FILLED or SHORT leaves the table. -/
inductive OfferState
  | opened
  | filled
  | short
  deriving DecidableEq, Repr

/-- An entry of the offer table (R98). -/
structure Offer where
  inboundId : Nat
  stock : StockData
  quantity : Nat
  claimed : Nat
  round : Nat
  state : OfferState
  deriving DecidableEq, Repr

/-- An entry of the relinquish list (R113, R114). -/
structure RelinquishEntry where
  line : LineRef
  quantity : Nat
  queued : Bool
  deriving DecidableEq, Repr

/-- A round that has opened and waits to be considered (R100, R101). -/
structure RoundOpen where
  ref : Ref
  round : Nat
  openedAt : Timer
  deriving DecidableEq, Repr

/-- What the Cost Unit hands back when it bids (R95). -/
structure BidResult where
  bid : Nat
  quantity : Nat
  slots : List Nat
  deriving DecidableEq, Repr

/-- A computation in progress: its round and the result it will hand over (R82, R95). -/
structure Computation where
  opening : RoundOpen
  result : Option BidResult
  deriving DecidableEq, Repr

/-- The Contest Engine. -/
structure ContestEngine where
  records : List Contest
  offers : List Offer
  relinquish : List RelinquishEntry
  computing : Option Computation
  considering : List RoundOpen
  deriving DecidableEq, Repr

/-! ### Lane Tracker (07_orders_lanes_and_outfeed.md) -/

/-- The modes of an order line (R119). -/
inductive LineMode
  | loose
  | set
  deriving DecidableEq, Repr

/-- A line record (R119). -/
structure OrderLine where
  article : Nat
  quantity : Nat
  mode : LineMode
  claimed : Nat
  delivered : Nat
  round : Nat
  short : Bool
  ownClaim : Nat
  ownDelivered : Nat
  deriving DecidableEq, Repr

/-- An OPEN bay record (R119); its total, delivered and outstanding counts are sums over its lines. -/
structure OpenBay where
  order : Nat
  lines : List OrderLine
  deriving DecidableEq, Repr

/-- A lane record with its four bays; `none` is FREE (R118, R119). Capacity and distance are setup values. -/
structure Lane where
  synced : Bool
  fill : Nat
  ageList : List (Fin 4)
  bays : Vector (Option OpenBay) 4
  deriving DecidableEq, Repr

/-- The states of a pocket entry (R133). -/
inductive EntryState
  | assigned
  | carried
  | loaded
  | granted
  | jammed
  | restore
  deriving DecidableEq, Repr

/-- The INTENT status of a pocket entry (R133). -/
inductive IntentStatus
  | none
  | queued
  | onBus
  | refused
  deriving DecidableEq, Repr

/-- A pocket entry (R133). `line` is absent in RESTORE; `grantedAt` is held in GRANTED and JAMMED; `number` orders the
entries by when their INTENTs were queued (R126, log 27). -/
structure PocketEntry where
  state : EntryState
  slot : Nat
  line : Option LineRef
  intent : IntentStatus
  grantedAt : Option Timer
  number : Nat
  deriving DecidableEq, Repr

/-- An outfeed pocket: free, foreign, or holding an entry (7.6). -/
inductive Pocket
  | free
  | foreign
  | entry (e : PocketEntry)
  deriving DecidableEq, Repr

/-- The Lane Tracker. -/
structure LaneTracker where
  lanes : Vector Lane 8
  pockets : Vector Pocket 2
  intentCount : Nat
  deriving DecidableEq, Repr

/-! ### Audit Unit (08_stock_audits.md) -/

/-- A carrier's weight mark (R151). -/
inductive WeightMark
  | ok
  | mismatch
  | notChecked
  deriving DecidableEq, Repr

/-- A settle scan handed over: carrier, one value per position, the load pin reading taken with it (R142), and whether
the stop opened with due tasks (R49). -/
structure Scan where
  carrier : Nat
  image : List Bool
  reading : Nat
  hadDue : Bool
  deriving DecidableEq, Repr

/-- A LOAD task handed over for relocation: the slot made SUSPECT, the inbound id and the expected data, absent when the
record could not be read (R148). -/
structure Relocation where
  slot : Nat
  inboundId : Nat
  expected : Option StockData
  deriving DecidableEq, Repr

/-- The Audit Unit. -/
structure AuditUnit where
  sweep : List Nat
  scanned : Nat
  found : Nat
  marks : Vector WeightMark 48
  scans : List Scan
  relocations : List Relocation
  deriving DecidableEq, Repr

/-! ### Aisle Bus Port (09_the_aisle_bus_port.md) -/

/-- A frame in the transmit queue (R162). -/
structure TxFrame where
  frame : Frame
  state : TxState
  retries : Nat
  deriving DecidableEq, Repr

/-- A frame in the receive queue with its arrival stamp (R160). -/
structure Heard where
  frame : Frame
  stamp : Timer
  deriving DecidableEq, Repr

/-- The confinement states (R166). -/
inductive Confinement
  | active
  | quiet
  | off
  deriving DecidableEq, Repr

/-- The Aisle Bus Port. `headBusy`: the owner of the frame at the head has not finished with it (R160, log 7). -/
structure BusPort where
  tx : List TxFrame
  rx : List Heard
  headBusy : Bool
  txErrors : Nat
  rxErrors : Nat
  confinement : Confinement
  warn : Bool
  stickyLevel : Bool
  stickyForm : Bool
  stickyCheck : Bool
  stickyAck : Bool
  gaps : Nat
  deriving DecidableEq, Repr

/-! ### Station Control (10_station_control_setup_and_standby.md) -/

/-- The service states (10.2). -/
inductive ServiceState
  | setupWait
  | joining
  | starting
  | inService
  | outOfService
  deriving DecidableEq, Repr

/-- The transmit policies (R162). -/
inductive TxPolicy
  | key
  | entry
  deriving DecidableEq, Repr

/-- The start kinds (R177). -/
inductive StartKind
  | warm
  | cold
  deriving DecidableEq, Repr

/-- Which face inputs are active low (R64, setup group 5). -/
structure Polarity where
  done : Bool
  stop : Bool
  curtain : Bool
  arrival : Bool
  pocket0 : Bool
  pocket1 : Bool
  deriving DecidableEq, Repr

/-- The setup values of the six groups (10.3). Times are in the units of the setup frames: ms for the bid window,
seconds for the others. -/
structure SetupValues where
  carriers : Nat
  rows : Nat
  columns : Nat
  rowClass : Vector Nat 3
  capacity : Vector Nat 8
  distance : Vector Nat 8
  wD : Nat
  wP : Nat
  wL : Nat
  wF : Nat
  wU : Nat
  stopMark : Nat
  resumeMark : Nat
  window : Nat
  saleLimit : Nat
  bidWindow : Nat
  dwellTimeout : Nat
  inboundTimeout : Nat
  agingLimit : Nat
  joinTime : Nat
  sweepEvery : Nat
  faultGrace : Nat
  bidRetryLimit : Nat
  countsPerPitch : Nat
  indexTolerance : Nat
  normalDuty : Nat
  slowDuty : Nat
  warnLevel : Nat
  cutLevel : Nat
  activeLow : Polarity
  weightTolerance : Nat
  tare : Nat
  policy : TxPolicy
  deriving DecidableEq, Repr

/-- The defaults of the setup values (10.3). -/
def SetupValues.default : SetupValues :=
  { carriers := 36, rows := 3, columns := 4, rowClass := Vector.replicate 3 3,
    capacity := Vector.replicate 8 12, distance := Vector.replicate 8 0,
    wD := 6, wP := 10, wL := 8, wF := 20, wU := 4, stopMark := 20, resumeMark := 12, window := 8, saleLimit := 260,
    bidWindow := 20, dwellTimeout := 90, inboundTimeout := 300, agingLimit := 120, joinTime := 5, sweepEvery := 4,
    faultGrace := 60, bidRetryLimit := 3,
    countsPerPitch := 512, indexTolerance := 16, normalDuty := 80, slowDuty := 35, warnLevel := 85, cutLevel := 75,
    activeLow := { done := false, stop := false, curtain := false, arrival := false, pocket0 := false, pocket1 := false },
    weightTolerance := 30, tare := 1200, policy := .key }

/-- The kinds of discrepancy record (R155). -/
inductive DiscrepancyKind
  | phantom
  | stray
  | double
  | early
  | wrongPick
  | wrongPlace
  | corrupt
  | weight
  | unverifiedFound
  | strayArrival
  | unknown
  deriving DecidableEq, Repr

/-- Where a discrepancy was found (R155). -/
inductive Location
  | slot (n : Nat)
  | carrier (n : Nat)
  | pocket (n : Nat)
  | nowhere
  deriving DecidableEq, Repr

/-- The book state before, of a discrepancy record (R155). -/
inductive BookState
  | read (state : SlotState) (reason : Option SuspectReason)
  | unreadable
  | absent
  deriving DecidableEq, Repr

/-- The targets of an ADJUST (R12). -/
inductive AdjustTarget
  | noChange
  | empty
  | occupied
  | retired
  deriving DecidableEq, Repr

/-- Why a batch is short (R80). -/
inductive ShortCause
  | timeout
  | claim
  | early
  deriving DecidableEq, Repr

/-- The contents of the records of the report log (R175). -/
inductive ReportBody
  /-- R155. -/
  | discrepancy (kind : DiscrepancyKind) (location : Location) (before : BookState) (applied : Bool)
      (measured expected : Option Nat)
  /-- R16. -/
  | adjustResult (slot : Nat) (target : AdjustTarget) (dataGiven stateApplied dataApplied locked badSlot : Bool)
      (after : BookState)
  /-- R70. -/
  | stockIn (slot inboundId : Nat)
  /-- R80. -/
  | inboundShort (inboundId short : Nat) (cause : ShortCause) (claimed arrived loaded : Nat)
  /-- R44. -/
  | deferredTask (work : TaskWork) (slot carrier deferrals : Nat)
  /-- R154. -/
  | auditDone (scanned found : Nat)
  deriving DecidableEq, Repr

/-- A record of the report log: its contents, the store week and the station timer (R175). -/
structure Report where
  body : ReportBody
  week : Nat
  timer : Timer
  deriving DecidableEq, Repr

/-- What the REPORT frame in the transmit queue carries (R175). -/
inductive ReportSource
  | towerState
  | logRecord
  deriving DecidableEq, Repr

/-- Station Control. -/
structure StationControl where
  stationNumber : BitVec 5
  rateCode : BitVec 2
  service : ServiceState
  received : SetupValues
  settled : SetupValues
  joinSince : Option Timer
  halt : Bool
  week : Nat
  log : List Report
  statePending : Bool
  lost : Nat
  startKind : StartKind
  reportOut : Option ReportSource
  deriving DecidableEq, Repr

/-! ### The whole part -/

/-- Whether the part runs: on the main supply, in standby, with RESET_IN asserted, or without any supply (R17, R177). -/
inductive Power
  | running
  | standby
  | resetHeld
  | unpowered
  deriving DecidableEq, Repr

/-- The state of the BC416. `pending` is the queue of commands waiting, first in, first out. -/
structure State where
  pending : List Instr
  power : Power
  timer : Timer
  store : StockStore
  drive : Drive
  planner : Planner
  face : FaceUnit
  contests : ContestEngine
  lanes : LaneTracker
  audit : AuditUnit
  port : BusPort
  control : StationControl
  deriving DecidableEq, Repr

/-- Why the machine could stop with a fault: never. Every trouble the specification describes (a drive fault, a bus
error, an uncorrectable record) is a state the part goes on from. -/
inductive Fault where
  deriving DecidableEq, Repr

/-- Why a command could be refused. -/
inductive Refusal
  /-- A command without a meaning yet, raised only by `exec`'s own arms; no arm does. Safe. -/
  | notModelled (mnemonic : String)
  deriving DecidableEq, Repr

/-! ### The start values of the blocks -/

/-- A filter at any start: SUPPLY_SENSE nominal, nothing timed (R33; log 37). -/
def SupplyFilter.start : SupplyFilter := { sense := 100, since := none }

/-- The drive at any start: UNHOMED, brake set, duty 0, forward (R41); the curtain cause is in force until the input
adopts a level (R64, log 13). -/
def Drive.start : Drive :=
  { state := .unhomed, phase := .accel, shortMove := false, position := 0, homeFound := false, direction := .forward,
    duty := 0, brake := true, ramp := none, target := none, travel := 0, held := none, faultKind := none,
    active := .normal, expectations := [], arrived := none, homingEdges := 0, homingSpacing := none,
    stallSince := 0, restSince := 0,
    lastCount := none, warnBelow := false, cutBelow := false, warnFilter := SupplyFilter.start,
    cutFilter := SupplyFilter.start, stickyWarn := false, stickyCut := false,
    curtainCause := true, curtainClearSince := none, supplyCause := false, supplyClearSince := none, doneSince := none }

/-- The planner at any start (R60). -/
def Planner.start : Planner :=
  { queue := [], stopRun := 0, parkTarget := none, inFlight := none, bidHold := false, graceSince := none }

/-- A position of the image at any start (R62). -/
def SensorPos.unknown : SensorPos := { debounced := .unknown, run := 0, last := false }

/-- A debounce at any start: no level shown yet (R64, log 24). -/
def Debounce.start : Debounce := { line := none, since := none }

/-- The debounces at any start. -/
def Debounces.start : Debounces :=
  { done := Debounce.start, stop := Debounce.start, curtain := Debounce.start, arrival := Debounce.start,
    pockets := Vector.replicate 2 Debounce.start }

/-- The Face Unit at any start (R61, R62, R64, R65, R67, R76). -/
def FaceUnit.start : FaceUnit :=
  { image := Vector.replicate 12 SensorPos.unknown, view := none, lastScan := none, settleScan := none, dwell := none,
    done := none, stop := none, curtain := none, arrival := none, pocketSense := Vector.replicate 2 none,
    debounces := Debounces.start, blink := Vector.replicate 12 0, receiving := [] }

/-- The Contest Engine at any start (R96, R98, R113). -/
def ContestEngine.start : ContestEngine :=
  { records := [], offers := [], relinquish := [], computing := none, considering := [] }

/-- A lane turned BLIND: no bay, no fill (R118, R131). -/
def Lane.blind : Lane := { synced := false, fill := 0, ageList := [], bays := Vector.replicate 4 none }

/-- The Lane Tracker at any start (R118, R119, R133). -/
def LaneTracker.start : LaneTracker :=
  { lanes := Vector.replicate 8 Lane.blind, pockets := Vector.replicate 2 Pocket.free, intentCount := 0 }

/-- The Audit Unit at any start (R142, R151, R152, R153). -/
def AuditUnit.start : AuditUnit :=
  { sweep := [], scanned := 0, found := 0, marks := Vector.replicate 48 WeightMark.notChecked, scans := [],
    relocations := [] }

/-- The Bus Port at any start (R168). -/
def BusPort.start : BusPort :=
  { tx := [], rx := [], headBusy := false, txErrors := 0, rxErrors := 0, confinement := .active, warn := false,
    stickyLevel := false, stickyForm := false, stickyCheck := false, stickyAck := false, gaps := 0 }

/-- Station Control at any start, after the straps are read, in SETUP_WAIT with a TOWER_STATE due (R169 to R177). -/
def StationControl.start (kind : StartKind) (stnSel : BitVec 5) (rateSel : BitVec 2) : StationControl :=
  { stationNumber := stnSel, rateCode := rateSel, service := .setupWait, received := SetupValues.default,
    settled := SetupValues.default, joinSince := none, halt := false, week := 0, log := [], statePending := true,
    lost := 0, startKind := kind, reportOut := none }

/-- The retained store as a cold start lays it out (R19). -/
def StockStore.cold : StockStore := { table := [], corrections := 0, marker := .intact none }

/-- The whole part at its start values, with the given retained store, start kind and straps (R177). The station timer
starts at 0 (DESIGN CHOICE, log 3). -/
def State.start (kind : StartKind) (stnSel : BitVec 5) (rateSel : BitVec 2) (store : StockStore)
    (pending : List Instr) : State :=
  { pending := pending, power := .running, timer := 0, store := store, drive := Drive.start,
    planner := Planner.start, face := FaceUnit.start, contests := ContestEngine.start, lanes := LaneTracker.start,
    audit := AuditUnit.start, port := BusPort.start, control := StationControl.start kind stnSel rateSel }

/-- The machine right after reset: a cold start (R19, R177) strapped as station 1 at rate code 0 (DESIGN CHOICE,
log 2), in SETUP_WAIT with its TOWER_STATE pending and no command waiting. -/
def State.reset : State := State.start .cold 1 0 StockStore.cold []

/-! ### One setter per block -/

def State.setPending (s : State) (x : List Instr) : State := { s with pending := x }
def State.setPower (s : State) (x : Power) : State := { s with power := x }
def State.setTimer (s : State) (x : Timer) : State := { s with timer := x }
def State.setStore (s : State) (x : StockStore) : State := { s with store := x }
def State.setDrive (s : State) (x : Drive) : State := { s with drive := x }
def State.setPlanner (s : State) (x : Planner) : State := { s with planner := x }
def State.setFace (s : State) (x : FaceUnit) : State := { s with face := x }
def State.setContests (s : State) (x : ContestEngine) : State := { s with contests := x }
def State.setLanes (s : State) (x : LaneTracker) : State := { s with lanes := x }
def State.setAudit (s : State) (x : AuditUnit) : State := { s with audit := x }
def State.setPort (s : State) (x : BusPort) : State := { s with port := x }
def State.setControl (s : State) (x : StationControl) : State := { s with control := x }

end Sys2Proof.Machine
end

