-- ==== Sys2Proof/Machine/Limits.lean ====
section
/-! DEFINITION. The fixed numbers of the specification: capacities, times and ranges, each with its rule. -/

namespace Sys2Proof.Machine

/-- Record positions of the retained store (R1). -/
def maxPositions : Nat := 512
/-- The correction count stays at 65,535 (R10). -/
def maxCorrections : Nat := 65535
/-- The work queue holds 24 tasks (R43). -/
def queueCapacity : Nat := 24
/-- At most 22 ordinary tasks (R43). -/
def ordinaryCapacity : Nat := 22
/-- The deferral count stops rising at 15 (R44). -/
def maxDeferrals : Nat := 15
/-- The deferral count at which DEFERRED_TASK is written (R44). -/
def reportedDeferral : Nat := 3
/-- The task-stop run stops rising at 15 (R49). -/
def maxStopRun : Nat := 15
/-- The receiving list holds 4 records (R76). -/
def receivingCapacity : Nat := 4
/-- The contest table holds 8 records (R96). -/
def contestCapacity : Nat := 8
/-- The offer table holds 4 entries (R98). -/
def offerCapacity : Nat := 4
/-- A reference has at most 6 rounds (chapter 6). -/
def maxRound : Nat := 6
/-- The relinquish list holds 32 entries (R113). -/
def relinquishCapacity : Nat := 32
/-- The transmit queue holds 8 frames (R162). -/
def txCapacity : Nat := 8
/-- The receive queue holds 16 frames (R160). -/
def rxCapacity : Nat := 16
/-- The report log holds 16 records (R175). -/
def logCapacity : Nat := 16
/-- The lost count and the sweep counters stay at 255 (R153, R175). -/
def maxByteCount : Nat := 255
/-- The transmit error counter stops at 160, where the port enters OFF (R165, R167). -/
def offErrors : Nat := 160
/-- Either counter at 96 or above makes the port QUIET (R166). -/
def quietErrors : Nat := 96
/-- Either counter at 64 or above sets the WARN flag (R166). -/
def warnErrors : Nat := 64
/-- A transmit error raises the transmit counter by 4 (R165). -/
def txErrorStep : Nat := 4
/-- Idle gaps to count in OFF (R167). -/
def recoveryGaps : Nat := 96
/-- Recessive bit times in one idle gap (R167). -/
def gapBits : Nat := 12
/-- Equal samples that change a debounced presence (R62). -/
def debounceRun : Nat := 3
/-- Cycles after which a settle scan is complete (R63). -/
def settleCycles : Nat := 20
/-- The clock pulses of one load pin reading (R150). -/
def loadPinPulses : Nat := 16
/-- The load pin word for no valid reading (R150). -/
def noReading : Nat := 65535
/-- Without a count in the direction of motion for 500 ms: STALL (R26). -/
def stallMs : Nat := 500
/-- A comparison of the supply monitor must hold for 2 ms (R33). -/
def filterMs : Nat := 2
/-- A debounced face input changes after 10 ms of the opposite level (R64). -/
def inputMs : Nat := 10
/-- One scan cycle every 5 ms (R61). -/
def scanMs : Nat := 5
/-- A FLASH lamp is on for 500 ms and off for 500 ms (R67). -/
def flashMs : Nat := 500
/-- A FAST lamp is on for 125 ms and off for 125 ms (R67). -/
def fastMs : Nat := 125
/-- At rest after 200 ms without counts (R30, R36, R38). -/
def restMs : Nat := 200
/-- The curtain clears after 1 s (R35). -/
def curtainClearMs : Nat := 1000
/-- The supply cause clears after 500 ms (R35). -/
def supplyClearMs : Nat := 500
/-- DONE held for 2 s in FAULT starts homing (R40). -/
def doneHoldMs : Nat := 2000
/-- A granted tyre still present after 10 s is JAMMED (R139). -/
def jamMs : Nat := 10000
/-- A second chance comes five windows after the opening (R106). -/
def secondChanceWindows : Nat := 5
/-- Milliseconds in the seconds of setup group 3. -/
def secondMs : Nat := 1000

/-- A value clamped to the nearest bound of its range (R171). -/
def clampTo (low high value : Nat) : Nat := max low (min high value)

/-- A counter raised by `step` that stops rising at `top`. -/
def raiseTo (top step count : Nat) : Nat := min top (count + step)

end Sys2Proof.Machine
end

