-- ==== Sys2Proof/Machine/Operands.lean ====
section
/-! DEFINITION. The operand forms: keys, the frame catalogue and the byte layouts of chapter 9.6. -/

namespace Sys2Proof.Machine

/-! ### Bits and bytes -/

/-- Bits `high` down to `low` of a number. -/
def bitField (value high low : Nat) : Nat := value / 2 ^ low % 2 ^ (high - low + 1)

/-- Byte `i` of a payload, as a number; 0 beyond its end. -/
def byteAt (payload : List Byte) (i : Nat) : Nat := (payload.getD i 0).toNat

/-- Bytes `i` and `i + 1`, most significant first (chapter 9.6). -/
def twoBytes (payload : List Byte) (i : Nat) : Nat := byteAt payload i * 256 + byteAt payload (i + 1)

/-- Bytes `i` to `i + 2`, most significant first (chapter 9.6). -/
def threeBytes (payload : List Byte) (i : Nat) : Nat := byteAt payload i * 65536 + twoBytes payload (i + 1)

/-- The `width` bits of a number, most significant first. -/
def bitsOf : Nat → Nat → List Bool
  | 0, _ => []
  | width + 1, value => decide (value / 2 ^ width % 2 = 1) :: bitsOf width value

/-- A number from its bits, most significant first. -/
def numberOf (bits : List Bool) : Nat := bits.foldl (fun n b => 2 * n + b.toNat) 0

/-- A number as one byte. -/
def byte (n : Nat) : Byte := BitVec.ofNat 8 n

/-- A number as two bytes, most significant first. -/
def bytes2 (n : Nat) : List Byte := [byte (n / 256), byte n]

/-- A number as three bytes, most significant first. -/
def bytes3 (n : Nat) : List Byte := [byte (n / 65536), byte (n / 256), byte n]

/-- A number as four bytes, most significant first. -/
def bytes4 (n : Nat) : List Byte := [byte (n / 16777216), byte (n / 65536), byte (n / 256), byte n]

/-- A flag as a number at bit `position`. -/
def flagBit (flag : Bool) (position : Nat) : Nat := if flag then 2 ^ position else 0

/-! ### The load pin (R150) -/

/-- What LOADPIN_DATA carries at the falling edge of each clock pulse, the first pulse first: after each rising edge the pin
places the next bit of its word there, most significant first (R150). -/
def loadPinSamples (word : BitVec 16) : List Bool := bitsOf loadPinPulses word.toNat

/-- The reading that samples of LOADPIN_DATA make, the first sample its most significant bit (R150). -/
def loadPinReading (samples : List Bool) : Nat := numberOf samples

/-! ### Keys -/

/-- A key as the number arbitration compares: class, field, station, most significant first (R156, R157). -/
def keyValue (k : Key) : Nat := k.cls.toNat * 8192 + k.field.toNat * 32 + k.station.toNat

/-- The key of a class, a field and a station number. -/
def makeKey (cls field : Nat) (station : BitVec 5) : Key :=
  { cls := BitVec.ofNat 3 cls, field := BitVec.ofNat 8 field, station := station }

/-! ### The frame catalogue -/

/-- The frame kinds of the catalogue (chapter 9.6). -/
inductive FrameKind
  | halt
  | resume
  | intent (lane : Fin 8)
  | bayClear (lane : Fin 8)
  | laneIdle (lane : Fin 8)
  | claim
  | relinquish
  | bid (bid : Nat)
  | order
  | inbound
  | calendar
  | adjust
  | audit
  | park
  | report (kind : Nat)
  | setup (group : Nat)
  | setupEnd
  deriving DecidableEq, Repr

/-- The kind of a frame by its class and field; none for those not in the catalogue (R160, chapter 9.6). -/
def frameKind (k : Key) : Option FrameKind :=
  let field := k.field.toNat
  match k.cls.toNat with
  | 0 => if field = 0 then some .halt else if field = 1 then some .resume else none
  | 1 =>
    if field < 8 then some (.intent (Fin.ofNat 8 field))
    else if 16 ≤ field ∧ field < 24 then some (.bayClear (Fin.ofNat 8 (field - 16)))
    else if 32 ≤ field ∧ field < 40 then some (.laneIdle (Fin.ofNat 8 (field - 32)))
    else none
  | 2 => if field = 0 then some .claim else if field = 1 then some .relinquish else none
  | 3 => some (.bid field)
  | 4 =>
    if field = 16 then some .order
    else if field = 32 then some .inbound
    else if field = 48 then some .calendar
    else if field = 64 then some .adjust
    else if field = 80 then some .audit
    else if field = 96 then some .park
    else none
  | 5 => if field < 7 then some (.report field) else none
  | 6 => if field < 6 then some (.setup field) else if field = 15 then some .setupEnd else none
  | _ => none

/-- The payload length of a REPORT of a kind (chapter 9.6). -/
def reportLength (kind : Nat) : Nat := [14, 14, 11, 10, 13, 13, 8].getD kind 0

/-- The payload length of a SETUP of a group (chapter 9.6). -/
def setupLength (group : Nat) : Nat := [7, 13, 11, 13, 8, 6].getD group 0

/-- The line count an ORDER carries: byte 0, bits 1 to 0. -/
def orderLineCount (payload : List Byte) : Nat := bitField (byteAt payload 0) 1 0

/-- The payload length a frame's kind requires (R160, chapter 9.6). -/
def requiredLength (kind : FrameKind) (payload : List Byte) : Nat :=
  match kind with
  | .halt => 0
  | .resume => 0
  | .intent _ => 3
  | .bayClear _ => 3
  | .laneIdle _ => 0
  | .claim => 6
  | .relinquish => 5
  | .bid _ => 5
  | .order => 3 + 4 * orderLineCount payload
  | .inbound => 12
  | .calendar => 2
  | .adjust => 13
  | .audit => 3
  | .park => 2
  | .report k => reportLength k
  | .setup g => setupLength g
  | .setupEnd => 1

/-- Whether the station a frame names in its payload, for the kinds that name one, lets it through to this station
(R160). A REPORT passes only when this station sent it. -/
def stationPasses (own : BitVec 5) (kind : FrameKind) (f : Frame) : Bool :=
  match kind with
  | .adjust => decide (byteAt f.payload 0 = own.toNat)
  | .park => decide (byteAt f.payload 0 = own.toNat)
  | .setup _ => decide (byteAt f.payload 0 = own.toNat)
  | .setupEnd => decide (byteAt f.payload 0 = own.toNat)
  | .audit => decide (byteAt f.payload 0 = own.toNat) || decide (byteAt f.payload 0 = 0)
  | .report _ => decide (f.key.station = own)
  | .halt => true
  | .resume => true
  | .intent _ => true
  | .bayClear _ => true
  | .laneIdle _ => true
  | .claim => true
  | .relinquish => true
  | .bid _ => true
  | .order => true
  | .inbound => true
  | .calendar => true

/-- Whether a frame heard joins the receive queue: of the catalogue, of the required length, and not addressed to
another station (R160). -/
def frameJoins (own : BitVec 5) (f : Frame) : Bool :=
  match frameKind f.key with
  | none => false
  | some kind => stationPasses own kind f && decide (f.payload.length = requiredLength kind f.payload)

/-! ### Payloads received -/

/-- The PICK form of a contest reference in bytes 0 to 2 (chapter 9.6). -/
def pickRefOf (payload : List Byte) : LineRef :=
  let b := byteAt payload 0
  { lane := Fin.ofNat 8 (bitField b 6 4), bay := Fin.ofNat 4 (bitField b 3 2), line := bitField b 1 0,
    order := twoBytes payload 1 }

/-- A contest reference: bit 7 of byte 0 says STORE (chapter 9.6). -/
def refOf (payload : List Byte) : Ref :=
  if bitField (byteAt payload 0) 7 7 = 1 then .store (twoBytes payload 1) else .pick (pickRefOf payload)

/-- What a CLAIM carries: reference, round, quantity (chapter 9.6). -/
structure ClaimFields where
  ref : Ref
  round : Nat
  quantity : Nat
  deriving DecidableEq, Repr

def claimOf (payload : List Byte) : ClaimFields :=
  { ref := refOf payload, round := byteAt payload 3, quantity := byteAt payload 4 }

/-- The line an INTENT names: the lane is the key's field (chapter 9.6). -/
def intentLineOf (lane : Fin 8) (payload : List Byte) : LineRef :=
  let b := byteAt payload 0
  { lane := lane, bay := Fin.ofNat 4 (bitField b 3 2), line := bitField b 1 0, order := twoBytes payload 1 }

/-- Stock data within the ranges of R2. -/
def stockInRange (d : StockData) : Bool :=
  decide (d.article ≤ 16777215) && decide (d.size ≤ 3) && decide (30 ≤ d.weight) && decide (d.weight ≤ 600) &&
    decide (d.dotWeek ≤ 65535) && decide (d.batch ≤ 4095)

/-- What an INBOUND carries (chapter 9.6). -/
structure InboundFields where
  inboundId : Nat
  quantity : Nat
  stock : StockData
  deriving DecidableEq, Repr

def inboundOf (p : List Byte) : InboundFields :=
  { inboundId := twoBytes p 0, quantity := bitField (byteAt p 5) 3 0,
    stock := { article := threeBytes p 2, size := bitField (byteAt p 5) 5 4, weight := twoBytes p 6,
               dotWeek := twoBytes p 8, batch := twoBytes p 10 } }

/-- What an ADJUST carries, after the judgements of R12: an unknown target is NO_CHANGE, and data out of range is not
given. -/
structure AdjustFields where
  slot : Nat
  target : AdjustTarget
  data : Option StockData
  deriving DecidableEq, Repr

def adjustTargetOf (code : Nat) : AdjustTarget :=
  match code with
  | 1 => .empty
  | 2 => .occupied
  | 3 => .retired
  | _ => .noChange

def adjustOf (p : List Byte) : AdjustFields :=
  let data : StockData :=
    { article := threeBytes p 4, size := bitField (byteAt p 3) 5 4, weight := twoBytes p 7, dotWeek := twoBytes p 9,
      batch := twoBytes p 11 }
  { slot := twoBytes p 1, target := adjustTargetOf (bitField (byteAt p 3) 2 0),
    data := if bitField (byteAt p 3) 7 7 = 1 && stockInRange data then some data else none }

/-- Line `n` of an ORDER as it is opened: nothing claimed, round 1 (R121, chapter 9.6). -/
def orderLineOf (p : List Byte) (n : Nat) : OrderLine :=
  let b := byteAt p (6 + 4 * n)
  { article := threeBytes p (3 + 4 * n), quantity := bitField b 3 0,
    mode := if bitField b 4 4 = 1 then .set else .loose, claimed := 0, delivered := 0, round := 1, short := false,
    ownClaim := 0, ownDelivered := 0 }

/-- What an ORDER carries (chapter 9.6). -/
structure OrderFields where
  lane : Fin 8
  bay : Fin 4
  order : Nat
  lines : List OrderLine
  deriving DecidableEq, Repr

def orderOf (p : List Byte) : OrderFields :=
  { lane := Fin.ofNat 8 (bitField (byteAt p 0) 7 5), bay := Fin.ofNat 4 (bitField (byteAt p 0) 4 3),
    order := twoBytes p 1, lines := (List.range (orderLineCount p)).map (orderLineOf p) }

/-! ### Payloads sent -/

/-- The bytes of a contest reference in PICK form. -/
def pickRefBytes (l : LineRef) : List Byte :=
  byte (l.lane.val * 16 + l.bay.val * 4 + l.line) :: bytes2 l.order

/-- The bytes of a contest reference. -/
def refBytes : Ref → List Byte
  | .pick l => pickRefBytes l
  | .store id => byte 128 :: bytes2 id

/-- The BID frame of a contest record: key class 3, the bid as field (R102). -/
def bidFrameOf (own : BitVec 5) (c : Contest) : Frame :=
  { key := makeKey 3 c.bid own, payload := refBytes c.ref ++ [byte c.round, byte c.quantity] }

/-- The CLAIM frame of a contest record: key class 2, field 0 (R105). -/
def claimFrameOf (own : BitVec 5) (c : Contest) : Frame :=
  { key := makeKey 2 0 own, payload := refBytes c.ref ++ [byte c.round, byte c.quantity, byte c.bid] }

/-- The RELINQUISH frame of an entry: key class 2, field 1 (R114). -/
def relinquishFrameOf (own : BitVec 5) (e : RelinquishEntry) : Frame :=
  { key := makeKey 2 1 own, payload := pickRefBytes e.line ++ [byte e.quantity, byte 0] }

/-- The INTENT frame of a line: key class 1, the lane as field (R125). -/
def intentFrameOf (own : BitVec 5) (l : LineRef) : Frame :=
  { key := makeKey 1 l.lane.val own, payload := byte (l.bay.val * 4 + l.line) :: bytes2 l.order }

end Sys2Proof.Machine
end

