-- ==== Sys2Proof/Machine/Ops.lean ====
section
/-! DEFINITION. The named operations over the state that several families share: the retained table, geometry and
distance, timers, queues of the bus port, lane and bay records, the task queue, pocket entries and the report log. -/

namespace Sys2Proof.Machine

/-! ### Lists -/

/-- Insertion before the first element the new one does not follow. -/
def insertSorted {α : Type} (before : α → α → Bool) (x : α) : List α → List α
  | [] => [x]
  | y :: rest => if before y x then y :: insertSorted before x rest else x :: y :: rest

/-- Sorting that keeps the order of elements neither of which is before the other. -/
def sortBy {α : Type} (before : α → α → Bool) (xs : List α) : List α :=
  xs.foldl (fun acc x => insertSorted (fun y z => !before z y) x acc) []

/-- The first element with the least measure. -/
def leastBy {α : Type} (measure : α → Nat) : List α → Option α
  | [] => none
  | x :: rest =>
    match leastBy measure rest with
    | none => some x
    | some y => if measure x ≤ measure y then some x else some y

/-- Remove the first element that satisfies a test. -/
def removeFirst {α : Type} (test : α → Bool) : List α → List α
  | [] => []
  | x :: rest => if test x then rest else x :: removeFirst test rest

/-- Remove the first element that satisfies a test and stands behind `ahead` others that do. -/
def removeBehind {α : Type} (test : α → Bool) : Nat → List α → List α
  | _, [] => []
  | 0, x :: rest => if test x then rest else x :: removeBehind test 0 rest
  | ahead + 1, x :: rest =>
    if test x then x :: removeBehind test ahead rest else x :: removeBehind test (ahead + 1) rest

/-- The sum of a measure over a list. -/
def sumBy {α : Type} (measure : α → Nat) (xs : List α) : Nat := (xs.map measure).sum

/-! ### The retained table (R1, R17, R19; log 32) -/

/-- What a position holds: an unlisted position reads as `Cell.unverified`. -/
def Memory.get : List (Nat × Cell) → Nat → Cell
  | [], _ => Cell.unverified
  | (k, c) :: rest, n => if k = n then c else Memory.get rest n

/-- Write a position, keeping the list rising and without an entry equal to `Cell.unverified`. -/
def Memory.set (p : Nat) (cell : Cell) : List (Nat × Cell) → List (Nat × Cell)
  | [] => if cell = Cell.unverified then [] else [(p, cell)]
  | (k, c) :: rest =>
    if p < k then (if cell = Cell.unverified then (k, c) :: rest else (p, cell) :: (k, c) :: rest)
    else if p = k then (if cell = Cell.unverified then rest else (p, cell) :: rest)
    else (k, c) :: Memory.set p cell rest

/-- The canonical form above a bound: positions strictly rising from `low`, below 512, no entry `Cell.unverified`. -/
def Memory.wfFrom (low : Nat) : List (Nat × Cell) → Bool
  | [] => true
  | (k, c) :: rest =>
    decide (low ≤ k) && decide (k < maxPositions) && decide (c ≠ Cell.unverified) && Memory.wfFrom (k + 1) rest

/-- The canonical form of the retained table. -/
def Memory.wf (table : List (Nat × Cell)) : Bool := Memory.wfFrom 0 table

/-- One more flipped bit in a position (R9, log 4). -/
def Memory.flip (table : List (Nat × Cell)) (p : Nat) : List (Nat × Cell) :=
  let c := Memory.get table p
  Memory.set p { c with flipped := c.flipped + 1 } table

/-! ### Setup values, geometry and distance -/

/-- The settled setup values, which every block works with (R171). -/
def State.values (s : State) : SetupValues := s.control.settled

/-- The record of a position without a check, for views that read nothing. -/
def State.recordAt (s : State) (slot : Nat) : SlotRecord := (Memory.get s.store.table slot).record

/-- Slots on one carrier (00_scope, Conventions). -/
def SetupValues.slotsPerCarrier (v : SetupValues) : Nat := v.rows * v.columns

/-- Slots of the table (R1). -/
def SetupValues.slots (v : SetupValues) : Nat := v.carriers * v.slotsPerCarrier

/-- The carrier of a slot (00_scope, Conventions). -/
def SetupValues.carrierOf (v : SetupValues) (slot : Nat) : Nat := slot / v.slotsPerCarrier

/-- The position of a slot on its carrier, which is its lamp line too (4.1). -/
def SetupValues.placeOf (v : SetupValues) (slot : Nat) : Nat := slot % v.slotsPerCarrier

/-- The row of a slot. -/
def SetupValues.rowOf (v : SetupValues) (slot : Nat) : Nat := v.placeOf slot / v.columns

/-- The row class of a slot's row (R1). -/
def SetupValues.rowClassOf (v : SetupValues) (slot : Nat) : Nat := v.rowClass.toList.getD (v.rowOf slot) 0

/-- The carriers to go forward from `a` to `b`. -/
def SetupValues.forwardTo (v : SetupValues) (a b : Nat) : Nat := (b + v.carriers - a % v.carriers) % v.carriers

/-- The distance between carriers (00_scope, Conventions). -/
def SetupValues.distanceBetween (v : SetupValues) (a b : Nat) : Nat := min (v.forwardTo a b) (v.forwardTo b a)

/-- The direction of the shorter way from `a` to `b`, forward on a tie (00_scope, Conventions). -/
def SetupValues.directionTo (v : SetupValues) (a b : Nat) : Direction :=
  if v.forwardTo a b ≤ v.forwardTo b a then .forward else .reverse

/-- Whether the straps were accepted: station 1 to 30 and rate code 0 to 2 (R169). -/
def StationControl.strapsAccepted (c : StationControl) : Bool :=
  decide (1 ≤ c.stationNumber.toNat) && decide (c.stationNumber.toNat ≤ 30) && decide (c.rateCode.toNat ≤ 2)

/-- Whether an interval that began at `start` has reached `ms` milliseconds. -/
def State.reached (s : State) (start : Timer) (ms : Nat) : Bool := decide (ms ≤ elapsedMs s.timer start)

/-- Whether the station timer has reached a deadline (R79): the difference of the two is not negative. -/
def State.deadlinePassed (s : State) (deadline : Timer) : Bool := !(s.timer - deadline).msb

/-! ### Report log and lost count (R175) -/

/-- Raise the lost count by one, staying at 255 (R175). -/
def State.countLost (s : State) : State :=
  s.setControl { s.control with lost := raiseTo maxByteCount 1 s.control.lost }

/-- Write a record to the report log with the store week and the station timer, or drop it and count it (R175). -/
def State.writeReport (s : State) (body : ReportBody) : State :=
  if s.control.log.length < logCapacity then
    s.setControl { s.control with log := s.control.log ++ [{ body := body, week := s.control.week, timer := s.timer }] }
  else s.countLost

/-! ### Transmit queue (R162, R163) -/

/-- Whether the transmit queue has room. -/
def State.txRoom (s : State) : Bool := decide (s.port.tx.length < txCapacity)

/-- Put a frame in the transmit queue, QUEUED, with no retry counted (R162). The caller has looked for room. -/
def State.queueFrame (s : State) (f : Frame) : State :=
  s.setPort { s.port with tx := s.port.tx ++ [{ frame := f, state := .queued, retries := 0 }] }

/-- Withdraw a frame: a QUEUED one is removed, a SENDING one stands (R163). Of frames that are alike, it is the one that was
queued behind `ahead` others. -/
def State.withdrawNth (s : State) (f : Frame) (ahead : Nat) : State :=
  s.setPort { s.port with tx := removeBehind (fun t => decide (t.frame = f ∧ t.state = .queued)) ahead s.port.tx }

/-- Withdraw a frame that is the only one of its kind in the queue (R163). -/
def State.withdrawFrame (s : State) (f : Frame) : State :=
  s.setPort { s.port with tx := removeFirst (fun t => decide (t.frame = f ∧ t.state = .queued)) s.port.tx }

/-! ### Lanes, bays and lines (R118, R119) -/

/-- A lane record. -/
def State.lane (s : State) (l : Fin 8) : Lane := s.lanes.lanes[l]

/-- Replace a lane record. -/
def State.setLane (s : State) (l : Fin 8) (x : Lane) : State :=
  s.setLanes { s.lanes with lanes := s.lanes.lanes.set l x }

/-- The tyres released of a bay: the sum over its lines (R119). -/
def OpenBay.delivered (b : OpenBay) : Nat := sumBy OrderLine.delivered b.lines

/-- The total of a bay (R119). -/
def OpenBay.total (b : OpenBay) : Nat := sumBy OrderLine.quantity b.lines

/-- The outstanding count of a bay (R119). -/
def OpenBay.outstanding (b : OpenBay) : Nat := b.total - b.delivered

/-- The outstanding count of a bay of a lane; a FREE bay has none. -/
def Lane.outstanding (l : Lane) (bay : Fin 4) : Nat :=
  match l.bays[bay] with
  | none => 0
  | some b => b.outstanding

/-- The bay a line reference names, when its lane is SYNCED and the bay OPEN with that order id (R122, R125, R134). -/
def State.openBay (s : State) (l : LineRef) : Option OpenBay :=
  if (s.lane l.lane).synced then
    match (s.lane l.lane).bays[l.bay] with
    | none => none
    | some b => if b.order = l.order then some b else none
  else none

/-- The line record a reference names, under the conditions of R122. -/
def State.lineAt (s : State) (l : LineRef) : Option OrderLine :=
  match s.openBay l with
  | none => none
  | some b => b.lines[l.line]?

/-- Change one line record, if the reference names one. -/
def State.updateLine (s : State) (l : LineRef) (f : OrderLine → OrderLine) : State :=
  match s.openBay l with
  | none => s
  | some b =>
    match b.lines[l.line]? with
    | none => s
    | some line =>
      let lane := s.lane l.lane
      s.setLane l.lane { lane with bays := lane.bays.set l.bay (some { b with lines := b.lines.set l.line (f line) }) }

/-- Whether the order of a line is the anchor of its lane (R120). -/
def State.isAnchor (s : State) (l : LineRef) : Bool :=
  match (s.lane l.lane).ageList with
  | [] => false
  | bay :: _ => decide (bay = l.bay) && (s.openBay l).isSome

/-! ### Pockets (7.6) -/

/-- Whether a pocket holds an entry, in any state (R90, R134). -/
def Pocket.hasEntry : Pocket → Bool
  | .free => false
  | .foreign => false
  | .entry _ => true

/-- Whether a pocket is free: no entry and no unknown tyre (7.6). -/
def Pocket.isFree : Pocket → Bool
  | .free => true
  | .foreign => false
  | .entry _ => false

/-- A pocket. -/
def State.pocket (s : State) (p : Fin 2) : Pocket := s.lanes.pockets[p]

/-- Replace a pocket. -/
def State.setPocket (s : State) (p : Fin 2) (x : Pocket) : State :=
  s.setLanes { s.lanes with pockets := s.lanes.pockets.set p x }

/-- The two pockets, in order. -/
def bothPockets : List (Fin 2) := [0, 1]

/-- The other pocket. -/
def otherPocket (p : Fin 2) : Fin 2 := 1 - p

/-- Whether the release gate of a pocket is driven open: in GRANTED and JAMMED (R133). -/
def State.gateOpen (s : State) (p : Fin 2) : Bool :=
  match s.pocket p with
  | .free => false
  | .foreign => false
  | .entry e => decide (e.state = .granted) || decide (e.state = .jammed)

/-- The pocket holding the ASSIGNED entry of a slot (R65, R133). -/
def State.assignedPocket (s : State) (slot : Nat) : Option (Fin 2) :=
  bothPockets.find? fun p => match s.pocket p with
    | .free => false
    | .foreign => false
    | .entry e => decide (e.state = .assigned) && decide (e.slot = slot)

/-- Whether a pocket could be assigned to a pick of a line now: the pocket rule (R134). -/
def State.pocketRule (s : State) (l : LineRef) : Bool :=
  (s.openBay l).isSome &&
    (if s.isAnchor l then (s.pocket 0).isFree || (s.pocket 1).isFree else (s.pocket 0).isFree && (s.pocket 1).isFree)

/-! ### Tasks (R42, R43, R54) -/

/-- A PICK or LOAD task is ordinary, a RESTORE is not (R42). -/
def TaskWork.ordinary : TaskWork → Bool
  | .pick _ => true
  | .load _ => true
  | .restore _ => false

/-- The ordinary tasks in a queue. -/
def ordinaryCount (queue : List Task) : Nat := (queue.filter fun t => t.work.ordinary).length

/-- The bidding hold after the queue has become `queue`: held at the stop mark, clear at the resume mark, else as it
was (R54). -/
def bidHoldAfter (v : SetupValues) (held : Bool) (queue : List Task) : Bool :=
  if v.stopMark ≤ ordinaryCount queue then true else if ordinaryCount queue ≤ v.resumeMark then false else held

/-- Replace the work queue and re-examine the bidding hold (R54). -/
def State.setQueue (s : State) (queue : List Task) : State :=
  s.setPlanner { s.planner with queue := queue, bidHold := bidHoldAfter s.values s.planner.bidHold queue }

/-- The task on a slot; there is at most one (R43). -/
def State.taskOn (s : State) (slot : Nat) : Option Task := s.planner.queue.find? fun t => decide (t.slot = slot)

/-- Whether the planner takes an addition: R43's three conditions. -/
def State.taskFits (s : State) (work : TaskWork) (slot : Nat) : Bool :=
  (s.taskOn slot).isNone &&
    (!work.ordinary || decide (ordinaryCount s.planner.queue < ordinaryCapacity)) &&
    decide (s.planner.queue.length < queueCapacity)

/-- Add a task at the tail of the queue, WAITING, created now (R43). The caller has asked `taskFits`. -/
def State.addTask (s : State) (work : TaskWork) (slot : Nat) : State :=
  s.setQueue (s.planner.queue ++ [{ work := work, slot := slot, created := s.timer, deferrals := 0, state := .waiting }])

/-- The slot of a RESTORE entry for which no RESTORE task is in the queue (R43, R140). -/
def State.restoreWaiting (s : State) (p : Fin 2) : Option Nat :=
  match s.pocket p with
  | .free => none
  | .foreign => none
  | .entry e =>
    if e.state = .restore ∧ (s.planner.queue.any fun t => decide (t.work = .restore p)) = false then some e.slot
    else none

/-- Ask for the RESTORE task of a RESTORE entry; a refusal leaves the entry waiting (R43, R140). -/
def State.requestRestore (s : State) (p : Fin 2) : State :=
  match s.restoreWaiting p with
  | none => s
  | some slot => if s.taskFits (.restore p) slot then s.addTask (.restore p) slot else s

/-- Take the task on a slot out of the queue; those behind close up (R42), and a RESTORE waiting for room is asked for
again (R43). -/
def State.dropTask (s : State) (slot : Nat) : State :=
  if (s.taskOn slot).isSome then
    bothPockets.foldl State.requestRestore (s.setQueue (removeFirst (fun t => decide (t.slot = slot)) s.planner.queue))
  else s

/-- Change the task on a slot. -/
def State.updateTask (s : State) (slot : Nat) (f : Task → Task) : State :=
  s.setPlanner { s.planner with queue := s.planner.queue.map fun t => if t.slot = slot then f t else t }

/-! ### The dwell (R65, R73) -/

/-- Replace the dwell record. -/
def State.setDwell (s : State) (d : Option Dwell) : State := s.setFace { s.face with dwell := d }

/-- Take a slot out of the due tasks of the dwell; its lamp follows (R67, R68). -/
def State.dropDue (s : State) (slot : Nat) : State :=
  match s.face.dwell with
  | none => s
  | some d => s.setDwell (some { d with due := d.due.filter fun x => decide (x.slot ≠ slot) })

/-- The test for completion: in phase WORKING, with no due task and no pending wrong event, the dwell ends (R73). There
is then nothing to resolve, free or defer, so R74 leaves only its step 4. -/
def State.testCompletion (s : State) : State :=
  match s.face.dwell with
  | none => s
  | some d =>
    if d.phase = .working ∧ d.due = [] ∧ d.wrong = [] then s.setDwell none else s

/-- Whether the part runs, so that commands have an effect (R177). -/
def State.isRunning (s : State) : Bool := decide (s.power = .running)

end Sys2Proof.Machine
end

