-- ==== Sys2Proof/Machine/Flags.lean ====
section
/-! DEFINITION. The flags the specification computes: confinement and WARN from the counters (R166), the sticky error
flags (R159), the jam flag (R139), the TOWER_STATE pending flag (R176), FAULT_LAMP (R169), the supply comparisons (R33),
the face input levels (R64), and what the port drives on the bus (R158, R159, R166 to R168). -/

namespace Sys2Proof.Machine

/-- The confinement state the two counters give (R166, R167). -/
def confinementOf (tx rx : Nat) : Confinement :=
  if offErrors ≤ tx then .off else if quietErrors ≤ tx ∨ quietErrors ≤ rx then .quiet else .active

/-- The WARN flag the two counters give (R166). -/
def warnOf (tx rx : Nat) : Bool := decide (warnErrors ≤ tx) || decide (warnErrors ≤ rx)

/-- The port with its counters changed and its state and flag judged again (R166). -/
def BusPort.withCounters (p : BusPort) (tx rx : Nat) : BusPort :=
  { p with txErrors := tx, rxErrors := rx, confinement := confinementOf tx rx, warn := warnOf tx rx }

/-- Set the sticky flag of an error kind (R159). -/
def BusPort.stick (p : BusPort) (kind : BusError) : BusPort :=
  match kind with
  | .level => { p with stickyLevel := true }
  | .form => { p with stickyForm := true }
  | .check => { p with stickyCheck := true }
  | .ack => { p with stickyAck := true }

/-- A JAMMED entry. -/
def Pocket.isJammed : Pocket → Bool
  | .free => false
  | .foreign => false
  | .entry e => decide (e.state = .jammed)

/-- The jam flag: set while any entry is JAMMED (R139). -/
def State.jamFlag (s : State) : Bool := (s.pocket 0).isJammed || (s.pocket 1).isJammed

/-- FAULT_LAMP: lit with a refused strap setting, else only in OUT_OF_SERVICE (R169); not driven, and so not lit, by a
part that does not run (R177). -/
def State.faultLamp (s : State) : Bool :=
  s.isRunning && (!s.control.strapsAccepted || decide (s.control.service = .outOfService))

/-- Set the TOWER_STATE pending flag (R176). -/
def State.setPendingFlag (s : State) : State := s.setControl { s.control with statePending := true }

/-- Whether a step from `before` to `s` changed something whose change sets the TOWER_STATE pending flag: the service
state, being in FAULT, the confinement state or the WARN flag, the jam flag (R176). A sticky supply flag sets it where
it is set (R34). -/
def stateNews (before s : State) : Bool :=
  decide (before.control.service ≠ s.control.service) ||
    decide (decide (before.drive.state = .fault) ≠ decide (s.drive.state = .fault)) ||
    decide (before.port.confinement ≠ s.port.confinement) || decide (before.port.warn ≠ s.port.warn) ||
    decide (before.jamFlag ≠ s.jamFlag)

/-- Set the pending flag if the step brought news (R176). -/
def State.noteNews (before s : State) : State := if stateNews before s then s.setPendingFlag else s

/-! ### The supply comparisons (R33) -/

/-- A supply reading against a level: equality is the free value of log 12 (R33). -/
def readsBelow (level : SupplyLevel) (sense threshold : Nat) : Bool :=
  decide (sense < threshold) || (decide (sense = threshold) && Config.supplyEqualReadsBelow level)

/-- The live level of a comparison (R33). -/
def Drive.liveBelow (d : Drive) (level : SupplyLevel) : Bool :=
  match level with
  | .warn => d.warnBelow
  | .cut => d.cutBelow

/-- The filter of a comparison (R33). -/
def Drive.filterOf (d : Drive) (level : SupplyLevel) : SupplyFilter :=
  match level with
  | .warn => d.warnFilter
  | .cut => d.cutFilter

/-- Replace the filter of a comparison. -/
def Drive.setFilter (d : Drive) (level : SupplyLevel) (f : SupplyFilter) : Drive :=
  match level with
  | .warn => { d with warnFilter := f }
  | .cut => { d with cutFilter := f }

/-- The setup value a comparison compares SUPPLY_SENSE with (R33). -/
def SetupValues.supplyThreshold (v : SetupValues) (level : SupplyLevel) : Nat :=
  match level with
  | .warn => v.warnLevel
  | .cut => v.cutLevel

/-- Whether the filter of a comparison has run: the opposite reading has held for 2 ms (R33). -/
def State.filterDue (s : State) (level : SupplyLevel) : Bool :=
  match (s.drive.filterOf level).since with
  | none => false
  | some t => s.reached t filterMs

/-- Whether SUPPLY_SENSE reads below the level of a comparison (R33). -/
def State.senseBelow (s : State) (level : SupplyLevel) (sense : Nat) : Bool :=
  readsBelow level sense (s.values.supplyThreshold level)

/-- Whether a reading is opposite to the live level of its comparison (R33). -/
def State.readsOpposite (s : State) (level : SupplyLevel) (sense : Nat) : Bool :=
  s.senseBelow level sense != s.drive.liveBelow level

/-- A comparison holds a reading: one that agrees with the live level stops the filter, an opposite one starts it or leaves
it running (R33). -/
def State.holdReading (s : State) (level : SupplyLevel) (sense : Nat) : State :=
  s.setDrive (s.drive.setFilter level {
    sense := sense,
    since := if s.readsOpposite level sense then some ((s.drive.filterOf level).since.getD s.timer) else none })

/-- Both comparisons compare the readings they hold anew: their levels may have changed (R33, log 37). -/
def State.compareAnew (s : State) : State :=
  (s.holdReading .warn s.drive.warnFilter.sense).holdReading .cut s.drive.cutFilter.sense

/-! ### Face input levels (R64) -/

/-- An input is active when its line is at the level its polarity names (R64). -/
def inputActive (activeLow high : Bool) : Bool := if activeLow then !high else high

/-- The polarity of a pocket sensor (R64). -/
def Polarity.pocket (a : Polarity) (p : Fin 2) : Bool := if p = 0 then a.pocket0 else a.pocket1

/-- Whether a face input is active low (R64). -/
def Polarity.lowOf (a : Polarity) (i : FaceInput) : Bool :=
  match i with
  | .done => a.done
  | .stop => a.stop
  | .curtain => a.curtain
  | .arrival => a.arrival
  | .pocket p => a.pocket p

/-- The debounced level of a face input (R64). -/
def FaceUnit.levelOf (f : FaceUnit) (i : FaceInput) : Option Bool :=
  match i with
  | .done => f.done
  | .stop => f.stop
  | .curtain => f.curtain
  | .arrival => f.arrival
  | .pocket p => f.pocketSense[p]

/-- The debounce of a face input (R64). -/
def Debounces.of (d : Debounces) (i : FaceInput) : Debounce :=
  match i with
  | .done => d.done
  | .stop => d.stop
  | .curtain => d.curtain
  | .arrival => d.arrival
  | .pocket p => d.pockets[p]

/-- Replace the debounce of a face input. -/
def Debounces.set (d : Debounces) (i : FaceInput) (x : Debounce) : Debounces :=
  match i with
  | .done => { d with done := x }
  | .stop => { d with stop := x }
  | .curtain => { d with curtain := x }
  | .arrival => { d with arrival := x }
  | .pocket p => { d with pockets := d.pockets.set p x }

/-- Whether a level of its line makes a face input active (R64). -/
def State.activeAt (s : State) (i : FaceInput) (high : Bool) : Bool := inputActive (s.values.activeLow.lowOf i) high

/-- Whether a level of its line is another than the debounced level of a face input; any level is, until one has been
adopted (R64). -/
def State.levelDiffers (s : State) (i : FaceInput) (high : Bool) : Bool :=
  decide (s.face.levelOf i ≠ some (s.activeAt i high))

/-- Replace the debounce of a face input. -/
def State.setDebounce (s : State) (i : FaceInput) (x : Debounce) : State :=
  s.setFace { s.face with debounces := s.face.debounces.set i x }

/-- The line of a face input shows a level: one other than the debounced level is timed from when the line came to it, and
one that is the debounced level stops the timing (R64). -/
def State.showLevel (s : State) (i : FaceInput) (high : Bool) : State :=
  let d := s.face.debounces.of i
  s.setDebounce i {
    line := some high,
    since := if s.levelDiffers i high then some (if d.line = some high then d.since.getD s.timer else s.timer) else none }

/-- Whether the line of a face input has shown its level for 10 ms (R64). -/
def State.levelHeld (s : State) (i : FaceInput) : Bool :=
  match (s.face.debounces.of i).since with
  | none => false
  | some t => s.reached t inputMs

/-- The line of a face input shows a level: the debounced level changes, with what `change` makes of its new value, once the
line has shown this other level for 10 ms without a break; until then it stays as it was (R64, log 24). -/
def State.debounced (s : State) (i : FaceInput) (high : Bool) (change : State → Bool → State) : State :=
  if s.levelDiffers i high ∧ (s.face.debounces.of i).line = some high ∧ s.levelHeld i then
    change (s.setDebounce i { line := some high, since := none }) (s.activeAt i high)
  else s.showLevel i high

/-- The debounce of a line whose level is to be adopted anew: the level it shows is timed from now (R64, log 24). -/
def Debounce.anew (d : Debounce) (now : Timer) : Debounce := { d with since := d.line.map fun _ => now }

/-- All debounces anew (R64). -/
def Debounces.anew (d : Debounces) (now : Timer) : Debounces :=
  { done := d.done.anew now, stop := d.stop.anew now, curtain := d.curtain.anew now, arrival := d.arrival.anew now,
    pockets := d.pockets.map fun x => x.anew now }

/-- DONE is taken as inactive until it has adopted a level (R64). -/
def FaceUnit.doneActive (f : FaceUnit) : Bool := f.done.getD false

/-- STOP is taken as active until it has adopted a level (R64). -/
def FaceUnit.stopActive (f : FaceUnit) : Bool := f.stop.getD true

/-- The curtain is taken as broken until it has adopted a level (R64). -/
def FaceUnit.curtainBroken (f : FaceUnit) : Bool := f.curtain.getD true

/-- A pocket sensor is taken as absent until it has adopted a level (R64). -/
def State.sensed (s : State) (p : Fin 2) : Bool := (s.face.pocketSense[p]).getD false

/-- Whether some holding cause is in force: HALT, STOP, curtain, supply (R35). -/
def State.causeInForce (s : State) : Bool :=
  s.control.halt || s.face.stopActive || s.drive.curtainCause || s.drive.supplyCause

/-- Whether the port is in listen-only (R168). -/
def State.listenOnly (s : State) : Bool := decide (s.control.service = .joining)

/-! ### What the port does on the bus (R158, R159, R166 to R168) -/

/-- The two levels of the bus (9.1). -/
inductive BusLevel
  | dominant
  | recessive
  deriving DecidableEq, Repr

/-- The error mark of a confinement state (R166). -/
def Confinement.errorMark : Confinement → Option BusLevel
  | .active => some .dominant
  | .quiet => some .recessive
  | .off => none

/-- Whether the port takes part in the bus at all, and delivers: straps accepted (R168) and not OFF (R166, R167). -/
def State.onBus (s : State) : Bool := s.control.strapsAccepted && decide (s.port.confinement ≠ .off)

/-- Whether the port sends and drives the bus: on it, and not in listen-only (R166 to R168). -/
def State.drivesBus (s : State) : Bool := s.isRunning && s.onBus && !s.listenOnly

/-- The error mark the port sends on an error it detects, in the confinement state it has then; none in listen-only, in
OFF, with refused straps, or without running (R159, R166 to R168, R177). -/
def State.errorMark (s : State) : Option BusLevel := if s.drivesBus then s.port.confinement.errorMark else none

/-- Whether the port drives the acknowledge slot dominant: it receives the frame, drives the bus, and has found no error
in the frame so far (R158, R166 to R168). -/
def State.acknowledges (s : State) (role : BusRole) (errorFound : Bool) : Bool :=
  s.drivesBus && decide (role = .receiver) && !errorFound

end Sys2Proof.Machine
end

