-- ==== Sys2Proof/Machine/Reports.lean ====
section
/-! DEFINITION. The report payloads of chapter 9.6, the TOWER_STATE contents (R176), and the offering of RELINQUISH and
REPORT frames (R114, R175). -/

namespace Sys2Proof.Machine

/-- The code of a book state in the DISCREPANCY and ADJUST_RESULT payloads (chapter 9.6). -/
def bookStateCode : BookState → Nat
  | .read .empty _ => 0
  | .read .occupied _ => 1
  | .read .pickClaimed _ => 2
  | .read .outbound _ => 3
  | .read .reservedIn _ => 4
  | .read .suspect (some .missing) => 5
  | .read .suspect (some .unknown) => 6
  | .read .suspect (some .corrupt) => 7
  | .read .suspect (some .unverified) => 8
  | .read .suspect none => 15
  | .read .retired _ => 9
  | .unreadable => 10
  | .absent => 15

def discrepancyCode : DiscrepancyKind → Nat
  | .phantom => 0
  | .stray => 1
  | .double => 2
  | .early => 3
  | .wrongPick => 4
  | .wrongPlace => 5
  | .corrupt => 6
  | .weight => 7
  | .unverifiedFound => 8
  | .strayArrival => 9
  | .unknown => 10

def locationTypeCode : Location → Nat
  | .slot _ => 0
  | .carrier _ => 1
  | .pocket _ => 2
  | .nowhere => 3

def locationNumber : Location → Nat
  | .slot n => n
  | .carrier n => n
  | .pocket n => n
  | .nowhere => 0

def targetCode : AdjustTarget → Nat
  | .noChange => 0
  | .empty => 1
  | .occupied => 2
  | .retired => 3

def causeCode : ShortCause → Nat
  | .timeout => 0
  | .claim => 1
  | .early => 2

def workCode : TaskWork → Nat
  | .pick _ => 0
  | .load _ => 1
  | .restore _ => 2

/-- The contest reference a DEFERRED_TASK report carries (chapter 9.6). -/
def workRefBytes : TaskWork → List Byte
  | .pick l => pickRefBytes l
  | .load id => refBytes (.store id)
  | .restore _ => [byte 0, byte 0, byte 0]

/-- The report kind, which is the field of the REPORT key (chapter 9.6). -/
def reportKind : ReportBody → Nat
  | .discrepancy _ _ _ _ _ _ => 1
  | .adjustResult _ _ _ _ _ _ _ _ => 2
  | .stockIn _ _ => 3
  | .inboundShort _ _ _ _ _ _ => 4
  | .deferredTask _ _ _ _ => 5
  | .auditDone _ _ => 6

/-- The payload bytes of a record before its store week and timer (chapter 9.6). -/
def reportBodyBytes : ReportBody → List Byte
  | .discrepancy kind location before applied measured expected =>
    byte (discrepancyCode kind) ::
      byte (locationTypeCode location * 64 + flagBit applied 5 + flagBit measured.isSome 4 + bookStateCode before) ::
      (bytes2 (locationNumber location) ++ bytes2 (measured.getD 0) ++ bytes2 (expected.getD 0))
  | .adjustResult slot target given stateApplied dataApplied locked bad after =>
    bytes2 slot ++
      [byte (targetCode target),
       byte (flagBit given 4 + flagBit stateApplied 3 + flagBit dataApplied 2 + flagBit locked 1 + flagBit bad 0),
       byte (bookStateCode after)]
  | .stockIn slot id => bytes2 slot ++ bytes2 id
  | .inboundShort id short cause claimed arrived loaded =>
    bytes2 id ++ [byte short, byte (causeCode cause), byte claimed, byte arrived, byte loaded]
  | .deferredTask work slot carrier deferrals =>
    byte (workCode work * 64 + deferrals) :: (bytes2 slot ++ byte carrier :: workRefBytes work)
  | .auditDone scanned found => [byte scanned, byte found]

/-- The payload of a record: its contents, then the store week and the station timer (chapter 9.6). -/
def reportPayload (r : Report) : List Byte := reportBodyBytes r.body ++ bytes2 r.week ++ bytes4 r.timer.toNat

def serviceCode : ServiceState → Nat
  | .setupWait => 0
  | .joining => 1
  | .starting => 2
  | .inService => 3
  | .outOfService => 4

def driveCode : DriveState → Nat
  | .unhomed => 0
  | .homing => 1
  | .idle => 2
  | .moving => 3
  | .settling => 4
  | .holding => 5
  | .fault => 6

def faultCode : Option FaultKind → Nat
  | none => 0
  | some .positionLost => 1
  | some .stall => 2

def confinementCode : Confinement → Nat
  | .active => 0
  | .quiet => 1
  | .off => 2

def startCode : StartKind → Nat
  | .warm => 0
  | .cold => 1

/-- The payload of a TOWER_STATE report, with the contents as they stand (R176, chapter 9.6). -/
def State.towerStatePayload (s : State) : List Byte :=
  [byte (serviceCode s.control.service * 32 + driveCode s.drive.state * 4 + faultCode s.drive.faultKind),
   byte (confinementCode s.port.confinement * 64 + flagBit s.port.warn 5 + flagBit s.jamFlag 4 +
     flagBit s.port.stickyLevel 3 + flagBit s.port.stickyForm 2 + flagBit s.port.stickyCheck 1 +
     flagBit s.port.stickyAck 0),
   byte (startCode s.control.startKind * 16 + flagBit s.drive.warnBelow 3 + flagBit s.drive.cutBelow 2 +
     flagBit s.drive.stickyWarn 1 + flagBit s.drive.stickyCut 0),
   byte s.port.txErrors, byte s.port.rxErrors] ++ bytes2 s.store.corrections ++ [byte s.control.lost] ++
    bytes2 s.control.week ++ bytes4 s.timer.toNat

/-- Taking the contents clears the pending flag, the four sticky error flags, both sticky supply flags and the lost
count (R176, R34, R159). -/
def State.clearTaken (s : State) : State :=
  ((s.setPort { s.port with stickyLevel := false, stickyForm := false, stickyCheck := false, stickyAck := false }).setDrive
    { s.drive with stickyWarn := false, stickyCut := false }).setControl
    { s.control with statePending := false, lost := 0 }

/-- A REPORT frame: key class 5, the report kind as field. -/
def reportFrameOf (own : BitVec 5) (kind : Nat) (payload : List Byte) : Frame :=
  { key := makeKey 5 kind own, payload := payload }

/-- Whether a REPORT is due and none is in the transmit queue: a TOWER_STATE pending, or a record in the log (R175). With
refused straps none is offered (R169). -/
def State.reportWaits (s : State) : Bool :=
  s.control.strapsAccepted && decide (s.control.reportOut = none) &&
    (s.control.statePending || decide (s.control.log ≠ []))

/-- The TOWER_STATE joins the transmit queue, and its contents are taken (R175, R176). -/
def State.queueTowerState (s : State) : State :=
  let t := (s.queueFrame (reportFrameOf s.control.stationNumber 0 s.towerStatePayload)).clearTaken
  t.setControl { t.control with reportOut := some .towerState }

/-- The REPORT of a log record joins the transmit queue (R175). -/
def State.queueLogRecord (s : State) (r : Report) : State :=
  let t := s.queueFrame (reportFrameOf s.control.stationNumber (reportKind r.body) (reportPayload r))
  t.setControl { t.control with reportOut := some .logRecord }

/-- Offer the REPORT that is due: a TOWER_STATE if its flag is pending, otherwise the oldest record of the log. At most
one REPORT is in the transmit queue, and with refused straps none is offered (R169, R175, R176). -/
def State.offerReport (s : State) : State :=
  if s.control.strapsAccepted ∧ s.control.reportOut = none ∧ s.txRoom then
    if s.control.statePending then s.queueTowerState
    else
      match s.control.log with
      | [] => s
      | r :: _ => s.queueLogRecord r
  else s

/-- Whether a RELINQUISH of this station is in the transmit queue or on its way to being handed over (R114). -/
def ContestEngine.relinquishQueued (c : ContestEngine) : Bool := c.relinquish.any RelinquishEntry.queued

/-- Whether an entry of the relinquish list waits for a place (R114). -/
def State.relinquishWaits (s : State) : Bool :=
  decide (s.contests.relinquish ≠ []) && !s.contests.relinquishQueued

/-- Queue the RELINQUISH of the oldest entry, when none is queued and the transmit queue has room; the entry stays in
the list, marked (R114). -/
def State.queueRelinquish (s : State) : State :=
  match s.contests.relinquish with
  | [] => s
  | e :: rest =>
    if s.contests.relinquishQueued then s
    else if s.txRoom then
      let t := s.queueFrame (relinquishFrameOf s.control.stationNumber e)
      t.setContests { t.contests with relinquish := { e with queued := true } :: rest }
    else s

end Sys2Proof.Machine
end

