-- ==== Sys2Proof/Machine/Tasks.lean ====
section
/-! DEFINITION. Ending tasks and giving work back, without touching a slot record: relinquish entries (R113), freeing of
ASSIGNED pocket entries (R135), a failed PICK task (R56) and a task handed on for relocation (R148). -/

namespace Sys2Proof.Machine

/-- Merge a quantity into the newest entry of a line whose frame has not been queued; none when there is no such entry
(R113). -/
def mergeNewest (line : LineRef) (quantity : Nat) : List RelinquishEntry → Option (List RelinquishEntry)
  | [] => none
  | e :: rest =>
    match mergeNewest line quantity rest with
    | some merged => some (e :: merged)
    | none =>
      if e.line = line ∧ e.queued = false then some ({ e with quantity := e.quantity + quantity } :: rest) else none

/-- Enter a relinquish of a quantity of a line: the own claim falls at once; the entry joins the list, is merged into a
full one, or is dropped and counted lost (R113). -/
def State.addRelinquish (s : State) (line : LineRef) (quantity : Nat) : State :=
  let t := s.updateLine line fun l => { l with ownClaim := l.ownClaim - quantity }
  if t.contests.relinquish.length < relinquishCapacity then
    t.setContests { t.contests with
      relinquish := t.contests.relinquish ++ [{ line := line, quantity := quantity, queued := false }] }
  else
    match mergeNewest line quantity t.contests.relinquish with
    | some merged => t.setContests { t.contests with relinquish := merged }
    | none => t.countLost

/-- Free the ASSIGNED entry of a slot, if one stands (R135). -/
def State.freeAssigned (s : State) (slot : Nat) : State :=
  match s.assignedPocket slot with
  | none => s
  | some p => s.setPocket p .free

/-- A PICK task fails: it leaves the queue and the due tasks, its ASSIGNED entry is freed, and a relinquish of 1 is
entered for its line (R56). -/
def State.failPick (s : State) (slot : Nat) (line : LineRef) : State :=
  ((((s.dropTask slot).dropDue slot).freeAssigned slot).addRelinquish line 1).testCompletion

/-- A slot was made SUSPECT: the Work Planner ends or hands on its task (R6, R11). A PICK task fails (R56); a LOAD task
is handed to the Audit Unit with the inbound id and data kept, where the record could be read (R148); a RESTORE task
runs on. -/
def State.handOn (s : State) (slot : Nat) (expected : Option StockData) : State :=
  match s.taskOn slot with
  | none => s
  | some t =>
    match t.work with
    | .pick line => s.failPick slot line
    | .load id =>
      s.setAudit { s.audit with
        relocations := s.audit.relocations ++ [{ slot := slot, inboundId := id, expected := expected }] }
    | .restore _ => s

/-- Free a receiving record whose tyres are all loaded (R76). -/
def State.freeReceived (s : State) : State :=
  s.setFace { s.face with receiving := s.face.receiving.filter fun r => decide (r.loaded ≠ r.claimed) }

/-- Change the receiving record of an inbound id, then free it if loaded equals claimed (R76, R78, R79). -/
def State.updateReceiving (s : State) (id : Nat) (f : Receiving → Receiving) : State :=
  (s.setFace { s.face with
    receiving := s.face.receiving.map fun r => if r.inboundId = id then f r else r }).freeReceived

/-- The receiving record of an inbound id. -/
def State.receivingOf (s : State) (id : Nat) : Option Receiving :=
  s.face.receiving.find? fun r => decide (r.inboundId = id)

/-- Whether the receiving list has room for an inbound id (R89). -/
def State.receivingRoom (s : State) (id : Nat) : Bool :=
  (s.receivingOf id).isSome || decide (s.face.receiving.length < receivingCapacity)

/-- Write an INBOUND_SHORT report with the counts of a receiving record, or zeros where there is none (R80). -/
def State.reportShort (s : State) (id short : Nat) (cause : ShortCause) (counts : Option Receiving) : State :=
  match counts with
  | none => s.writeReport (.inboundShort id short cause 0 0 0)
  | some r => s.writeReport (.inboundShort id short cause r.claimed r.arrived r.loaded)

end Sys2Proof.Machine
end

