-- ==== Sys2Proof/Machine/Stock.lean ====
section
/-! DEFINITION. The Stock Record Store: legal records (R3), reads with the integrity check (R9 to R11), requests (R5),
the two starts (R18, R19), the geometry comparison (R20) and ADJUST (R12 to R16). -/

namespace Sys2Proof.Machine

/-! ### Records -/

/-- Whether a state with its reason carries stock data (R3). -/
def carriesStock (state : SlotState) (reason : Option SuspectReason) : Bool :=
  match state with
  | .empty => false
  | .occupied => true
  | .pickClaimed => true
  | .outbound => true
  | .reservedIn => true
  | .suspect => decide (reason = some .missing)
  | .retired => false

/-- A legal record: its parts present exactly as R3 says, its fields in the ranges of R2. -/
def SlotRecord.legal (r : SlotRecord) : Bool :=
  decide (r.stock.isSome = carriesStock r.state r.reason) &&
    decide (r.reason.isSome = decide (r.state = .suspect)) &&
    decide (r.inbound.isSome = decide (r.state = .reservedIn)) &&
    (match r.stock with
     | none => true
     | some d => stockInRange d) &&
    decide (r.inbound.getD 0 ≤ 65535)

def SlotRecord.empty : SlotRecord := { state := .empty, stock := none, reason := none, inbound := none }

def SlotRecord.retired : SlotRecord := { state := .retired, stock := none, reason := none, inbound := none }

def SlotRecord.suspect (reason : SuspectReason) : SlotRecord :=
  { state := .suspect, stock := none, reason := some reason, inbound := none }

def SlotRecord.reserved (id : Nat) (d : StockData) : SlotRecord :=
  { state := .reservedIn, stock := some d, reason := none, inbound := some id }

/-- The record with another state that keeps its stock data; reason and inbound id are dropped (R3). -/
def SlotRecord.keeping (state : SlotState) (r : SlotRecord) : SlotRecord :=
  { state := state, stock := r.stock, reason := none, inbound := none }

/-- SUSPECT(MISSING) with the stock data kept (R4). -/
def SlotRecord.missing (r : SlotRecord) : SlotRecord :=
  { state := .suspect, stock := r.stock, reason := some .missing, inbound := none }

/-- The book state of a record, for a report. -/
def SlotRecord.book (r : SlotRecord) : BookState := .read r.state r.reason

/-! ### Reads and writes -/

/-- Write a whole record with a fresh check code (R5, R7). There are 512 positions and no more (R1). -/
def State.writeRecord (s : State) (slot : Nat) (r : SlotRecord) : State :=
  if slot < maxPositions then
    s.setStore { s.store with table := Memory.set slot { record := r, flipped := 0 } s.store.table }
  else s

/-- What a read gives: the record handed to the reader, the state after it, and whether the read converted the record
to SUSPECT(CORRUPT). -/
structure ReadResult where
  record : SlotRecord
  state : State
  converted : Bool

/-- Read a record with its integrity check (R9): intact; corrected, when one bit is wrong and the contents are legal
(R10); otherwise uncorrectable, rewritten as SUSPECT(CORRUPT), with a CORRUPT record written and the slot passed to the
planner (R11). -/
def State.readSlot (s : State) (slot : Nat) : ReadResult :=
  let c := Memory.get s.store.table slot
  if c.flipped = 0 then { record := c.record, state := s, converted := false }
  else if c.flipped = 1 ∧ c.record.legal then
    let t := s.writeRecord slot c.record
    { record := c.record, converted := false,
      state := t.setStore { t.store with corrections := raiseTo maxCorrections 1 t.store.corrections } }
  else
    let t := (s.writeRecord slot (.suspect .corrupt)).writeReport
      (.discrepancy .corrupt (.slot slot) .unreadable true none none)
    { record := .suspect .corrupt, state := t.handOn slot none, converted := true }

/-- What a request gives: the record found, whether it was applied, and the state after it (R5). -/
structure RequestResult where
  found : SlotRecord
  applied : Bool
  state : State

/-- Whether a slot in this state is passed on when it becomes SUSPECT (R6). -/
def SlotState.passedOn : SlotState → Bool
  | .pickClaimed => true
  | .reservedIn => true
  | .empty => false
  | .occupied => false
  | .outbound => false
  | .suspect => false
  | .retired => false

/-- A request for one whole record update: read, compare the state found with those named, write the new record if it
is one of them (R5), and pass a PICK_CLAIMED or RESERVED_IN slot made SUSPECT to the planner (R6). -/
def State.request (s : State) (slot : Nat) (applies : SlotRecord → Bool) (new : SlotRecord → SlotRecord) :
    RequestResult :=
  let r := s.readSlot slot
  if applies r.record then
    let t := r.state.writeRecord slot (new r.record)
    { found := r.record, applied := true,
      state := if (new r.record).state = .suspect ∧ r.record.state.passedOn then t.handOn slot r.record.stock else t }
  else { found := r.record, applied := false, state := r.state }

/-- The test 'the state found is one of these' (R5). -/
def inStates (states : List SlotState) (r : SlotRecord) : Bool := states.contains r.state

/-- Read a list of slots in order, each with its integrity check. -/
def State.readSlots (s : State) (slots : List Nat) : State :=
  slots.foldl (fun t slot => (t.readSlot slot).state) s

/-- Read every record of the table in order of slot number (R9, R81). -/
def State.readTable (s : State) : State := s.readSlots (List.range s.values.slots)

/-! ### Ending tasks with their slot requests (R57) -/

/-- Take a task out of the queue, the due tasks and its ASSIGNED entry (R57). -/
def State.removeTask (s : State) (slot : Nat) : State := ((s.dropTask slot).dropDue slot).freeAssigned slot

/-- Cancel a PICK task: its slot returns from PICK_CLAIMED to OCCUPIED (R57). -/
def State.cancelPick (s : State) (slot : Nat) : State :=
  (((s.removeTask slot).request slot (inStates [.pickClaimed]) (.keeping .occupied)).state).testCompletion

/-- Cancel a LOAD task of a tyre that has not arrived: its slot returns from RESERVED_IN to EMPTY (R57, R79). -/
def State.cancelLoad (s : State) (slot : Nat) : State :=
  (((s.removeTask slot).request slot (inStates [.reservedIn]) fun _ => .empty).state).testCompletion

/-- Cancel every PICK task whose line satisfies a test, in queue order (R57). -/
def State.cancelPicks (s : State) (test : LineRef → Bool) : State :=
  (s.planner.queue.filter fun t => match t.work with
    | .pick l => test l
    | .load _ => false
    | .restore _ => false).foldl (fun u t => u.cancelPick t.slot) s

/-! ### The starts and the geometry (R18 to R20) -/

/-- The geometry of the settled setup values. -/
def SetupValues.geometry (v : SetupValues) : Geometry :=
  { carriers := v.carriers, rows := v.rows, columns := v.columns }

/-- The slots a warm start reads: those of the recorded geometry, or all 512 positions (R18). -/
def Marker.slots : Marker → Nat
  | .lost => maxPositions
  | .intact none => maxPositions
  | .intact (some g) => g.carriers * (g.rows * g.columns)

/-- A record brought to rest at a warm start (R18). -/
def SlotRecord.atRest (r : SlotRecord) : SlotRecord :=
  match r.state with
  | .pickClaimed => .keeping .occupied r
  | .reservedIn => .empty
  | .outbound => r.missing
  | .empty => r
  | .occupied => r
  | .suspect => r
  | .retired => r

/-- Bring one record to rest. -/
def State.restSlot (s : State) (slot : Nat) : State :=
  let r := s.recordAt slot
  if r.atRest = r then s else s.writeRecord slot r.atRest

/-- The normalization of a warm start: the check pass over the table, then the pass that brings bound records to rest
(R18). -/
def State.normalize (s : State) : State :=
  let slots := List.range s.store.marker.slots
  slots.foldl State.restSlot (s.readSlots slots)

/-- The geometry comparison at SETUP END (R20): the same geometry keeps the table, another one rewrites all 512
positions as SUSPECT(UNVERIFIED); the setup geometry is recorded. -/
def StockStore.compareGeometry (st : StockStore) (g : Geometry) : StockStore :=
  match st.marker with
  | .lost => st
  | .intact none => { st with marker := .intact (some g) }
  | .intact (some h) => if h = g then st else { st with table := [], marker := .intact (some g) }

/-! ### ADJUST (R13 to R16) -/

/-- Whether a slot in this state is bound to work in progress, so that an ADJUST is locked out (R13). -/
def SlotState.bound : SlotState → Bool
  | .pickClaimed => true
  | .outbound => true
  | .reservedIn => true
  | .empty => false
  | .occupied => false
  | .suspect => false
  | .retired => false

/-- The state part of an ADJUST that takes effect: the record it leaves and whether it is applied (R14). -/
def adjustState (target : AdjustTarget) (data : Option StockData) (r : SlotRecord) : SlotRecord × Bool :=
  match target with
  | .noChange => (r, false)
  | .empty => (.empty, true)
  | .retired => (.retired, true)
  | .occupied =>
    match data with
    | some d => ({ state := .occupied, stock := some d, reason := none, inbound := none }, true)
    | none => if r.stock.isSome then (.keeping .occupied r, true) else (r, false)

/-- The data part, judged after the state part: given data replaces the stock data where the record carries any (R15). -/
def adjustData (data : Option StockData) (r : SlotRecord) : SlotRecord × Bool :=
  match data with
  | none => (r, false)
  | some d => if carriesStock r.state r.reason then ({ r with stock := some d }, true) else (r, false)

/-- An ADJUST that is taken: bad slot, locked, or its two parts written back as one record, then one ADJUST_RESULT
(R13 to R16). -/
def State.applyAdjust (s : State) (a : AdjustFields) : State :=
  let given := a.data.isSome
  if s.values.slots ≤ a.slot then
    s.writeReport (.adjustResult a.slot a.target given false false false true .absent)
  else
    let r := s.readSlot a.slot
    if r.record.state.bound then
      r.state.writeReport (.adjustResult a.slot a.target given false false true false r.record.book)
    else
      let st := adjustState a.target a.data r.record
      let dt := adjustData a.data st.1
      (r.state.writeRecord a.slot dt.1).writeReport
        (.adjustResult a.slot a.target given st.2 dt.2 false false dt.1.book)

end Sys2Proof.Machine
end

