-- ==== Sys2Proof/Machine/Records.lean ====
section
/-! DEFINITION. The contest records as other blocks reach them: withdrawing frames (R97, R163), ending and freeing
records (R100, R115, R116), claiming (R105, R162), and rounds that open (R100). -/

namespace Sys2Proof.Machine

/-- Visit every contest record in order: each is kept, changed or freed, and the state is passed along. The visitor
leaves the records themselves alone. -/
def State.walkRecords (s : State) (visit : State → Contest → State × Option Contest) : State :=
  let r := s.contests.records.foldl
    (fun acc c => ((visit acc.1 c).1, acc.2 ++ (visit acc.1 c).2.toList)) (s, ([] : List Contest))
  r.1.setContests { r.1.contests with records := r.2 }

/-- This station's number, as read from the straps. -/
def State.own (s : State) : BitVec 5 := s.control.stationNumber

/-- The key of a record's BID, as the number arbitration compares (R94, R102). -/
def State.bidKey (s : State) (c : Contest) : Nat := keyValue (bidFrameOf s.own c).key

/-- Withdraw the BID of a record if it is QUEUED (R97). -/
def State.withdrawBid (s : State) (c : Contest) : State :=
  if c.bidFrame = some .queued then s.withdrawFrame (bidFrameOf s.own c) else s

/-- Withdraw the CLAIM of a record if it is QUEUED (R97). -/
def State.withdrawClaim (s : State) (c : Contest) : State :=
  if c.claimFrame = some .queued then s.withdrawFrame (claimFrameOf s.own c) else s

/-- Withdraw whatever frames of a record are QUEUED. -/
def State.withdrawOwn (s : State) (c : Contest) : State := (s.withdrawBid c).withdrawClaim c

/-- A frame that stands after a withdrawal: SENDING stays, QUEUED is gone (R97). -/
def standing : Option TxState → Option TxState
  | some .sending => some .sending
  | some .queued => none
  | none => none

/-- End a record as the opening of a later round does: CLOSED records stay; with its CLAIM on the bus it becomes CLOSED;
otherwise its frames are withdrawn and it is freed (R100). -/
def State.endRecord (s : State) (c : Contest) : State × Option Contest :=
  if c.state = .closed then (s, some c)
  else if c.claimFrame = some .sending then (s, some { c with state := .closed })
  else (s.withdrawOwn c, none)

/-- End every record that satisfies a test (R100, R108, R129). -/
def State.endRecords (s : State) (test : Contest → Bool) : State :=
  s.walkRecords fun t c => if test c then t.endRecord c else (t, some c)

/-- Free every record that satisfies a test, CLOSED ones included, withdrawing QUEUED frames (R115, R116). -/
def State.freeRecords (s : State) (test : Contest → Bool) : State :=
  s.walkRecords fun t c => if test c then (t.withdrawOwn c, none) else (t, some c)

/-- Discard the computation in progress if its reference satisfies a test (R115, R116; log 7). -/
def State.discardComputation (s : State) (test : Ref → Bool) : State :=
  match s.contests.computing with
  | none => s
  | some c => if test c.opening.ref then s.setContests { s.contests with computing := none } else s

/-- The exit from every contest (R115). -/
def State.contestExit (s : State) : State :=
  (s.freeRecords fun _ => true).discardComputation fun _ => true

/-- Whether a reference is a line of a lane. -/
def Ref.inLane (lane : Fin 8) : Ref → Bool
  | .pick l => decide (l.lane = lane)
  | .store _ => false

/-- Whether a reference is a line of a bay. -/
def Ref.inBay (lane : Fin 8) (bay : Fin 4) : Ref → Bool
  | .pick l => decide (l.lane = lane) && decide (l.bay = bay)
  | .store _ => false

/-- A record becomes CLAIMING and offers its CLAIM. A full transmit queue leaves a record without its second chance in
LOST, and one with it waiting in CLAIMING (R105, R162). -/
def State.claimRecord (s : State) (c : Contest) : State × Contest :=
  if s.txRoom then
    (s.queueFrame (claimFrameOf s.own c), { c with state := .claiming, claimFrame := some .queued })
  else if c.secondChance then (s, { c with state := .claiming, claimFrame := none })
  else (s, { c with state := .lost })

/-- The decision of a record: CLAIMING if no lower key has been heard, else LOST (R105). -/
def State.decideRecord (s : State) (c : Contest) : State × Contest :=
  match c.lowest with
  | none => s.claimRecord c
  | some k => if k < s.bidKey c then (s, { c with state := .lost }) else s.claimRecord c

/-- A record CLAIMING by its second chance that waits for a place in the transmit queue (R162). -/
def Contest.waiting (c : Contest) : Bool :=
  decide (c.state = .claiming) && c.secondChance && decide (c.claimFrame = none)

/-- A round opens: this station's earlier record of the reference is ended, and the round waits to be considered
(R100, R101). -/
def State.openRound (s : State) (o : RoundOpen) : State :=
  let t := s.endRecords fun c => decide (c.ref = o.ref)
  t.setContests { t.contests with considering := t.contests.considering ++ [o] }

/-- Empty the offer table (R98). -/
def State.emptyOffers (s : State) : State := s.setContests { s.contests with offers := [] }

end Sys2Proof.Machine
end

