-- ==== Sys2Proof/Machine/Outfeed.lean ====
section
/-! DEFINITION. The outfeed pockets: INTENT frames (R126, R127, R137), releases (R138), restores (R140), foreign pockets
(R141) and the assignment of a pocket to a pick (R134). -/

namespace Sys2Proof.Machine

/-- The entry of a pocket, in any state. -/
def Pocket.entryOf : Pocket → Option PocketEntry
  | .free => none
  | .foreign => none
  | .entry e => some e

/-- A pocket's entry in a given state. -/
def State.entryIn (s : State) (p : Fin 2) (state : EntryState) : Option PocketEntry :=
  match (s.pocket p).entryOf with
  | none => none
  | some e => if e.state = state then some e else none

/-- Replace a pocket's entry. -/
def State.setEntry (s : State) (p : Fin 2) (e : PocketEntry) : State := s.setPocket p (.entry e)

/-- Whether a pocket's entry would queue its INTENT: LOADED, status NONE, the halt flag clear (R137). -/
def State.intentWaiting (s : State) (p : Fin 2) : Bool :=
  match s.pocket p with
  | .free => false
  | .foreign => false
  | .entry e => decide (e.state = .loaded) && decide (e.intent = .none) && e.line.isSome && !s.control.halt

/-- Queue the INTENT of a LOADED entry with status NONE, if the halt flag is clear and the transmit queue has room
(R137). -/
def State.queueIntent (s : State) (p : Fin 2) : State :=
  match s.pocket p with
  | .free => s
  | .foreign => s
  | .entry e =>
    match e.line with
    | none => s
    | some line =>
      if s.intentWaiting p ∧ s.txRoom then
        let t := (s.queueFrame (intentFrameOf s.own line)).setEntry p
          { e with intent := .queued, number := s.lanes.intentCount }
        t.setLanes { t.lanes with intentCount := t.lanes.intentCount + 1 }
      else s

/-- How many entries of a line had their INTENT queued before a given one and wait with it still (R126, R137). -/
def State.intentsAhead (s : State) (line : LineRef) (number : Nat) : Nat :=
  (bothPockets.filter fun p => (s.pocket p).entryOf.any fun e =>
    decide (e.line = some line ∧ e.intent = .queued ∧ e.number < number)).length

/-- Withdraw the INTENT of an entry if it is QUEUED; its status becomes NONE (R137). Of two like INTENTs it is the entry's
own that leaves the queue (R163). -/
def State.withdrawIntent (s : State) (p : Fin 2) : State :=
  match s.pocket p with
  | .free => s
  | .foreign => s
  | .entry e =>
    match e.line with
    | none => s
    | some line =>
      if e.intent = .queued then
        (s.withdrawNth (intentFrameOf s.own line) (s.intentsAhead line e.number)).setEntry p { e with intent := .none }
      else s

/-- An entry in CARRIED or LOADED becomes RESTORE: a QUEUED INTENT is withdrawn, the line is dropped, the slot kept, and
a RESTORE task asked for (R140). -/
def State.turnRestore (s : State) (p : Fin 2) : State :=
  let t := s.withdrawIntent p
  match t.pocket p with
  | .free => t
  | .foreign => t
  | .entry e =>
    (t.setEntry p { e with state := .restore, line := none, intent := .none, grantedAt := none }).requestRestore p

/-- Turn RESTORE every entry in CARRIED or LOADED whose line satisfies a test, pocket 0 first (R129, R130, R132;
log 41). -/
def State.restoreEntries (s : State) (test : LineRef → Bool) : State :=
  bothPockets.foldl (fun t p =>
    match (t.pocket p).entryOf with
    | none => t
    | some e =>
      match e.line with
      | none => t
      | some l => if (e.state = .carried ∨ e.state = .loaded) ∧ test l then t.turnRestore p else t) s

/-- A pocket becomes foreign, with its UNKNOWN record (R141). -/
def State.becomeForeign (s : State) (p : Fin 2) : State :=
  (s.setPocket p .foreign).writeReport (.discrepancy .unknown (.pocket p.val) .absent false none none)

/-- The completion of a granted entry whose sensor reads absent: gate closed, own delivered counted if the bay is still
OPEN with the order id, the slot asked OUTBOUND → EMPTY, the pocket free (R138). -/
def State.completeGrant (s : State) (p : Fin 2) (e : PocketEntry) : State :=
  let t := match e.line with
    | none => s
    | some l => s.updateLine l fun x => { x with ownDelivered := x.ownDelivered + 1 }
  ((t.request e.slot (inStates [.outbound]) fun _ => .empty).state).setPocket p .free

/-- An entry's INTENT is granted: the gate opens; where the sensor already reads absent, the entry completes at once
(R126, R138). -/
def State.grantEntry (s : State) (p : Fin 2) (e : PocketEntry) : State :=
  let g := { e with state := .granted, intent := .none, grantedAt := some s.timer }
  if s.sensed p then s.setEntry p g else s.completeGrant p g

/-- An entry's INTENT is refused: LOADED keeps REFUSED, CARRIED takes NONE (R126). -/
def State.refuseEntry (s : State) (p : Fin 2) (e : PocketEntry) : State :=
  s.setEntry p { e with intent := if e.state = .loaded then .refused else .none }

/-- The pocket entries with a line and a given INTENT status, each with its pocket, the one queued first first. -/
def State.entriesWith (s : State) (line : LineRef) (status : IntentStatus) : List (Fin 2 × PocketEntry) :=
  sortBy (fun a b => decide (a.2.number < b.2.number)) (bothPockets.filterMap fun p =>
    match (s.pocket p).entryOf with
    | none => none
    | some e => if e.line = some line ∧ e.intent = status then some (p, e) else none)

/-- Each REFUSED entry of a lane takes NONE and queues its INTENT again, pocket 0 first (R127; log 46). -/
def State.resendRefused (s : State) (lane : Fin 8) : State :=
  bothPockets.foldl (fun t p =>
    match (t.pocket p).entryOf with
    | none => t
    | some e =>
      match e.line with
      | none => t
      | some l =>
        if e.intent = .refused ∧ l.lane = lane then (t.setEntry p { e with intent := .none }).queueIntent p else t) s

/-- The pocket a pick of a line is given now: pocket 0 if it is free, else pocket 1, under the pocket rule (R134). -/
def State.pocketFor (s : State) (line : LineRef) : Option (Fin 2) :=
  if s.pocketRule line then (if (s.pocket 0).isFree then some 0 else some 1) else none

/-- Set a pocket aside for a pick: an ASSIGNED entry (R134). -/
def State.assignPocket (s : State) (p : Fin 2) (slot : Nat) (line : LineRef) : State :=
  s.setEntry p { state := .assigned, slot := slot, line := some line, intent := .none, grantedAt := none, number := 0 }

/-- A tyre of a CARRIED entry stands in pocket `p`: the entry becomes LOADED there, and its INTENT is queued unless it
is ON_BUS (R136, R137). -/
def State.loadEntry (s : State) (p : Fin 2) (e : PocketEntry) : State :=
  (s.setEntry p { e with state := .loaded }).queueIntent p

/-- A RESTORE entry is freed at the restore's confirmation; a tyre still in the pocket makes it foreign (R140). -/
def State.freeRestore (s : State) (p : Fin 2) : State :=
  match s.entryIn p .restore with
  | none => s
  | some _ => if s.sensed p then s.becomeForeign p else s.setPocket p .free

end Sys2Proof.Machine
end

