-- ==== Sys2Proof/Machine/Accounts.lean ====
section
/-! DEFINITION. The accounts of lanes, bays and lines: ORDER acceptance (R121), claims and relinquishes (R122, R123), the
release rule (R125), clears (R128 to R130) and blindness (R131, R132). -/

namespace Sys2Proof.Machine

/-! ### Orders (R121) -/

/-- The conditions of R121 that the frame's layout does not already give. -/
def State.orderAccepted (s : State) (o : OrderFields) : Bool :=
  let lane := s.lane o.lane
  decide (1 ≤ o.lines.length) && lane.synced && (lane.bays[o.bay]).isNone &&
    (o.lines.all fun l => decide (1 ≤ l.quantity) && decide (l.quantity ≤ 8)) &&
    decide (sumBy OrderLine.quantity o.lines ≤ s.values.capacity[o.lane])

/-- The references of an order's lines, in line order. -/
def OrderFields.refs (o : OrderFields) : List Ref :=
  (List.range o.lines.length).map fun n => .pick { lane := o.lane, bay := o.bay, line := n, order := o.order }

/-- Open a bay for an accepted order; the bay joins the tail of the age list (R121). -/
def State.openOrder (s : State) (o : OrderFields) : State :=
  let lane := s.lane o.lane
  s.setLane o.lane { lane with
    bays := lane.bays.set o.bay (some { order := o.order, lines := o.lines }), ageList := lane.ageList ++ [o.bay] }

/-! ### Claims and relinquishes (R122, R123) -/

/-- The line after its remainder is judged, and the round that opens, if one does (R122, R123). -/
def OrderLine.judge (l : OrderLine) : OrderLine × Option Nat :=
  if l.quantity ≤ l.claimed ∨ l.short then (l, none)
  else if l.round < maxRound then ({ l with round := l.round + 1 }, some (l.round + 1))
  else ({ l with short := true }, none)

/-- A line's remainder (R122). -/
def OrderLine.remainder (l : OrderLine) : Nat := l.quantity - l.claimed

/-- A line after a CLAIM of `k` (R122). -/
def OrderLine.claim (l : OrderLine) (k : Nat) (own : Bool) : OrderLine :=
  { l with claimed := l.claimed + min k l.remainder,
           ownClaim := if own then l.ownClaim + min k l.remainder else l.ownClaim }

/-- What the application of a CLAIM or RELINQUISH gives: the applied quantity, the round opened and the state. -/
structure Applied where
  quantity : Nat
  opened : Option Nat
  state : State

/-- Apply a CLAIM to its line: the applied quantity k′, the round it opens, and the accounts (R122). -/
def State.applyClaim (s : State) (line : LineRef) (k : Nat) (own : Bool) : Applied :=
  match s.lineAt line with
  | none => { quantity := 0, opened := none, state := s }
  | some l =>
    { quantity := min k l.remainder, opened := (l.claim k own).judge.2,
      state := s.updateLine line fun x => (x.claim k own).judge.1 }

/-- A line after a RELINQUISH of `q` (R123). -/
def OrderLine.giveBack (l : OrderLine) (q : Nat) : OrderLine := { l with claimed := max l.delivered (l.claimed - q) }

/-- Apply a RELINQUISH to its line (R123). -/
def State.applyRelinquish (s : State) (line : LineRef) (q : Nat) : Applied :=
  match s.lineAt line with
  | none => { quantity := 0, opened := none, state := s }
  | some l =>
    { quantity := l.claimed - (l.giveBack q).claimed, opened := (l.giveBack q).judge.2,
      state := s.updateLine line fun x => (x.giveBack q).judge.1 }

/-! ### Releases (R125) -/

/-- The bays ahead of a bay in its lane's age list. -/
def Lane.ahead (l : Lane) (bay : Fin 4) : List (Fin 4) := l.ageList.takeWhile fun b => decide (b ≠ bay)

/-- Condition 2 of R125: room in the lane for this tyre and for every order ahead of it. -/
def Lane.hasRoom (l : Lane) (capacity : Nat) (bay : Fin 4) : Bool :=
  decide (l.fill + 1 + sumBy l.outstanding (l.ahead bay) ≤ capacity)

/-- Whether an INTENT is granted (R125). -/
def State.intentGranted (s : State) (line : LineRef) : Bool :=
  match s.lineAt line with
  | none => false
  | some l => decide (l.delivered < l.claimed) && (s.lane line.lane).hasRoom s.values.capacity[line.lane] line.bay

/-- The accounts of a grant: one more in the lane, and one more delivered of the line (R125). -/
def State.countGrant (s : State) (line : LineRef) : State :=
  let t := s.updateLine line fun l => { l with delivered := l.delivered + 1 }
  t.setLane line.lane { t.lane line.lane with fill := (t.lane line.lane).fill + 1 }

/-! ### Clears (R128 to R130) -/

/-- The station's stake in a bay being cleared: records ended, PICK tasks cancelled, entries restored (R129, steps 1 to
3; GRANTED and JAMMED entries run on). -/
def State.giveUpBay (s : State) (lane : Fin 8) (bay : Fin 4) : State :=
  ((s.endRecords fun c => c.ref.inBay lane bay).cancelPicks fun l => decide (l.lane = lane) && decide (l.bay = bay)).restoreEntries
    fun l => decide (l.lane = lane) && decide (l.bay = bay)

/-- Free a bay: fill falls by its delivered count, not below 0, and it leaves the age list (R128). -/
def State.freeBay (s : State) (lane : Fin 8) (bay : Fin 4) : State :=
  match (s.lane lane).bays[bay] with
  | none => s
  | some b =>
    s.setLane lane { s.lane lane with
      fill := (s.lane lane).fill - b.delivered, bays := (s.lane lane).bays.set bay none,
      ageList := (s.lane lane).ageList.filter fun x => decide (x ≠ bay) }

/-- A bay cleared, with the station's own stake given up; REFUSED INTENTs of the lane are then sent again, except under
a LANE IDLE (R128 to R130). -/
def State.clearBay (s : State) (lane : Fin 8) (bay : Fin 4) (resend : Bool) : State :=
  let t := (s.freeBay lane bay).giveUpBay lane bay
  if resend then t.resendRefused lane else t

/-- A LANE IDLE: every OPEN bay cleared in age order, fill 0, the lane SYNCED (R130). -/
def State.idleLane (s : State) (lane : Fin 8) : State :=
  let t := (s.lane lane).ageList.foldl (fun u bay => u.clearBay lane bay false) s
  t.setLane lane { t.lane lane with fill := 0, synced := true }

/-! ### Blindness (R131, R132) -/

/-- Entries of a line in GRANTED and JAMMED. -/
def State.releasing (s : State) (line : LineRef) : Nat :=
  (bothPockets.filter fun p => match (s.pocket p).entryOf with
    | none => false
    | some e => decide (e.line = some line) && (decide (e.state = .granted) || decide (e.state = .jammed))).length

/-- A line's unreleased claim (R132, step 1). -/
def State.unreleased (s : State) (line : LineRef) : Nat :=
  match s.lineAt line with
  | none => 0
  | some l => l.ownClaim - s.releasing line - l.ownDelivered

/-- The lines of the OPEN bays of a lane, oldest bay first, in line order. -/
def Lane.lineRefs (l : Lane) (lane : Fin 8) : List LineRef :=
  l.ageList.flatMap fun bay =>
    match l.bays[bay] with
    | none => []
    | some b => (List.range b.lines.length).map fun n => { lane := lane, bay := bay, line := n, order := b.order }

/-- Enter one relinquish for a line's unreleased claim (R132, step 1). -/
def State.giveBackLine (s : State) (line : LineRef) : State :=
  if s.unreleased line = 0 then s else s.addRelinquish line (s.unreleased line)

/-- A lane turns BLIND: the station gives up its stake, then its records of the lane are discarded (R131, R132). -/
def State.blindLane (s : State) (lane : Fin 8) : State :=
  if (s.lane lane).synced then
    let t := ((s.lane lane).lineRefs lane).foldl State.giveBackLine s
    let u := (t.freeRecords fun c => c.ref.inLane lane).discardComputation (Ref.inLane lane)
    let v := (u.cancelPicks fun l => decide (l.lane = lane)).restoreEntries fun l => decide (l.lane = lane)
    v.setLane lane Lane.blind
  else s

/-- Every lane turns BLIND, lane 0 first (R131, log 45). -/
def State.blindAll (s : State) : State := (List.finRange 8).foldl State.blindLane s

end Sys2Proof.Machine
end

