-- ==== Sys2Proof/Machine/Drive.lean ====
section
/-! DEFINITION. The Carousel Drive on its own: position (R22 to R25), phases and ramps (R29), move requests and
retargets (R28, R31), profiles (R32), holding and resuming (R35 to R37), homing (R38). What a fault or a settled carrier
means for the other blocks stands in Motion.lean. -/

namespace Sys2Proof.Machine

/-! ### Position (R22) -/

/-- Counts around the loop: N × P (R22). -/
def SetupValues.loop (v : SetupValues) : Nat := v.carriers * v.countsPerPitch

/-- The carrier whose index position is nearest to a count; exactly halfway, the one most recently passed going forward
(R22). -/
def SetupValues.carrierNear (v : SetupValues) (a : Nat) : Nat :=
  if 2 * (a % v.countsPerPitch) ≤ v.countsPerPitch then a / v.countsPerPitch % v.carriers
  else (a / v.countsPerPitch + 1) % v.carriers

/-- The signed offset of a count from the index position of the carrier nearest to it (R22). -/
def SetupValues.offsetAt (v : SetupValues) (a : Nat) : Int :=
  if 2 * (a % v.countsPerPitch) ≤ v.countsPerPitch then ((a % v.countsPerPitch : Nat) : Int)
  else ((a % v.countsPerPitch : Nat) : Int) - (v.countsPerPitch : Int)

/-- The carrier at the face (R22). -/
def State.faceCarrier (s : State) : Nat := s.values.carrierNear s.drive.position

/-- The offset (R22). -/
def State.offset (s : State) : Int := s.values.offsetAt s.drive.position

/-- Whether the offset is within the index tolerance. -/
def State.offsetWithin (s : State) : Bool := decide (s.offset.natAbs ≤ s.values.indexTolerance)

/-- Whether the position is known: in IDLE, MOVING, SETTLING and HOLDING of a move, and in HOMING from the home edge on
(R22, R38). -/
def Drive.positionKnown (d : Drive) : Bool :=
  match d.state with
  | .unhomed => false
  | .homing => d.homeFound
  | .idle => true
  | .moving => true
  | .settling => true
  | .holding => decide (d.held = some .move)
  | .fault => false

/-- A count after one encoder count: forward adds, reverse subtracts, wrapping at N × P (R22). -/
def SetupValues.countOn (v : SetupValues) (a : Nat) (dir : Direction) : Nat :=
  match dir with
  | .forward => (a + 1) % v.loop
  | .reverse => (a + v.loop - 1) % v.loop

/-- The counts from `a` to the index position of carrier `k` in a direction (R29). -/
def SetupValues.countsTo (v : SetupValues) (a : Nat) (dir : Direction) (k : Nat) : Nat :=
  match dir with
  | .forward => (k * v.countsPerPitch + v.loop - a % v.loop) % v.loop
  | .reverse => (a + v.loop - k * v.countsPerPitch % v.loop) % v.loop

/-- The opposite direction. -/
def oppositeDirection : Direction → Direction
  | .forward => .reverse
  | .reverse => .forward

/-- The planning position (R27, R53). -/
def State.planningPosition (s : State) : Option Nat :=
  match s.drive.state with
  | .idle => some s.faceCarrier
  | .settling => some s.faceCarrier
  | .moving => s.drive.target
  | .holding => if s.drive.held = some .move then s.drive.target else none
  | .unhomed => none
  | .homing => none
  | .fault => none

/-! ### Expected edges (R23) -/

/-- The expectations after a count. One that goes on the way A came to the index position it stands at passes that
position: a fresh expectation takes the place of an older one there. One that turns back there passes nothing (R23,
log 15). -/
def State.expectOn (s : State) (dir : Direction) : List (Nat × Direction) :=
  if s.drive.arrived = some dir then
    let k := s.drive.position / s.values.countsPerPitch
    (s.drive.expectations.filter fun e => decide (e.1 ≠ k)) ++ [(k, dir)]
  else s.drive.expectations

/-- The counts from the index position of an expectation to `a`, going the way it was passed (R23). -/
def SetupValues.beyond (v : SetupValues) (a : Nat) (e : Nat × Direction) : Nat :=
  v.countsTo a (oppositeDirection e.2) e.1

/-- Whether a flag is missing: A stands the tolerance plus one count or more beyond an index position whose edge is still
expected (R23). Beyond is the half of the loop that lies the way the position was passed (log 15). -/
def State.flagMissing (s : State) : Bool :=
  s.drive.expectations.any fun e =>
    let b := s.values.beyond s.drive.position e
    decide (s.values.indexTolerance < b) && decide (2 * b ≤ s.values.loop)

/-! ### Duty, brake and profiles -/

/-- The duty of a ramp after the counts it has covered, any fraction of a percent discarded (R29, R32). -/
def Ramp.duty (r : Ramp) : Nat :=
  let c := min r.span r.covered.toNat
  if r.span = 0 then r.goal else (r.start * (r.span - c) + r.goal * c) / r.span

/-- The cruise duty of a profile (R32). -/
def SetupValues.cruiseDuty (v : SetupValues) (p : Profile) : Nat :=
  match p with
  | .normal => v.normalDuty
  | .slow => v.slowDuty

/-- The requested profile: SLOW while the live WARN level reads below (R32). -/
def Drive.requested (d : Drive) : Profile := if d.warnBelow then .slow else .normal

/-- Remove the duty and set the brake; the loop is stationary, so the active profile takes the requested value (R21,
R32, log 14). -/
def Drive.braked (d : Drive) : Drive := { d with duty := 0, brake := true, ramp := none, active := d.requested }

/-- The counts ACCEL spans in the long form: to the first index position more than the tolerance ahead (R29). -/
def SetupValues.accelSpan (v : SetupValues) (a : Nat) (dir : Direction) : Nat :=
  let ahead := match dir with
    | .forward => v.countsPerPitch - a % v.countsPerPitch
    | .reverse => if a % v.countsPerPitch = 0 then v.countsPerPitch else a % v.countsPerPitch
  if v.indexTolerance < ahead then ahead else ahead + v.countsPerPitch

/-- Start the motion of a move from rest: MOT_DIR set, brake released, MOVING in ACCEL, the stall interval anew (R26,
R28, R29, R37). Of a short move's odd travel the middle count falls to DECEL (log 39). -/
def State.beginMotion (s : State) (dir : Direction) (travel : Nat) : State :=
  let d := s.drive
  let short := decide (travel ≤ s.values.countsPerPitch)
  let span := if short then travel / 2 else s.values.accelSpan d.position dir
  s.setDrive { d with
    state := .moving, phase := .accel, shortMove := short, direction := dir, brake := false, duty := 0,
    active := d.requested, held := none, travel := (travel : Int), stallSince := s.timer,
    ramp := some { start := 0, goal := s.values.cruiseDuty d.requested, span := span, covered := 0 } }

/-- Enter DECEL: ramp from the duty in force to 0 over the remaining travel (R29). -/
def Drive.enterDecel (d : Drive) : Drive :=
  { d with phase := .decel, ramp := some { start := d.duty, goal := 0, span := d.travel.toNat, covered := 0 } }

/-- Enter SETTLING at the target: brake set, the rest interval starts (R29, R30), at a resume too (log 40). -/
def State.enterSettling (s : State) : State :=
  s.setDrive { s.drive.braked with state := .settling, held := none, restSince := s.timer }

/-! ### Move requests (R28, R31) -/

/-- The reasons for which a move request is refused (R28, R31). -/
inductive MoveRefusal
  | badTarget
  | busy
  | notHomed
  | phase
  | afterTarget
  | tooClose
  deriving DecidableEq, Repr

/-- The drive's answer to a move request. -/
inductive MoveAnswer
  /-- The move, held move or retarget is taken. -/
  | accepted
  /-- A move of distance 0: SETTLED is reported at once (R28). -/
  | settledAtOnce
  | refused (reason : MoveRefusal)
  deriving DecidableEq, Repr

/-- The answer to a retarget while MOVING (R31). The reason for a target on whose index position A stands exactly, and for
one of N or above, is log 50's. -/
def State.retargetAnswer (s : State) (target : Nat) : MoveAnswer :=
  let t := s.values.countsTo s.drive.position s.drive.direction target
  if s.drive.phase = .decel then .refused .phase
  else if s.values.carriers ≤ target ∨ t = 0 ∨ s.drive.travel ≤ (t : Int) then .refused .afterTarget
  else if t < s.values.countsPerPitch then .refused .tooClose
  else .accepted

/-- The answer to a move request, by the drive's state (R28). -/
def State.moveAnswer (s : State) (target : Nat) : MoveAnswer :=
  match s.drive.state with
  | .idle =>
    if s.values.carriers ≤ target then .refused .badTarget
    else if target = s.faceCarrier then .settledAtOnce
    else .accepted
  | .moving => s.retargetAnswer target
  | .settling => .refused .busy
  | .holding => .refused .busy
  | .unhomed => .refused .notHomed
  | .homing => .refused .notHomed
  | .fault => .refused .notHomed

/-- Take an accepted move from IDLE: the shorter way, held if a cause is in force (R28). A held move's direction is taken
at once (log 38). -/
def State.takeMove (s : State) (target : Nat) : State :=
  let dir := s.values.directionTo s.faceCarrier target
  let travel := s.values.countsTo s.drive.position dir target
  if s.causeInForce then
    s.setDrive { s.drive with state := .holding, held := some .move, target := some target, direction := dir,
                              travel := (travel : Int) }
  else
    (s.setDrive { s.drive with target := some target }).beginMotion dir travel

/-- Take an accepted retarget: direction, phase and ramp continue (R31). -/
def State.takeRetarget (s : State) (target : Nat) : State :=
  s.setDrive { s.drive with target := some target,
                            travel := (s.values.countsTo s.drive.position s.drive.direction target : Int) }

/-- The drive after a move request; a refused one changes nothing, and a move of distance 0 leaves it as it is (R28). -/
def State.moveRequest (s : State) (target : Nat) : State :=
  match s.moveAnswer target with
  | .accepted => if s.drive.state = .moving then s.takeRetarget target else s.takeMove target
  | .settledAtOnce => s
  | .refused _ => s

/-! ### Homing (R38) -/

/-- Turn forward at the SLOW cruise duty, the count of index edges and the spacing check anew (R36, R38). -/
def State.turnHoming (s : State) : State :=
  s.setDrive { s.drive with
    state := .homing, homeFound := false, held := none, direction := .forward, brake := false,
    duty := s.values.slowDuty, ramp := none, homingEdges := 0, homingSpacing := none, stallSince := s.timer,
    active := s.drive.requested }

/-- Start homing from UNHOMED or FAULT: HOMING, or HOLDING with a homing held while a cause is in force (R38). Outside
those two states the request finds nothing to start. -/
def State.startHoming (s : State) : State :=
  if s.drive.state = .unhomed ∨ s.drive.state = .fault then
    let d := { s.drive with faultKind := none, doneSince := none, homeFound := false, target := none,
                            expectations := [], arrived := none, homingEdges := 0, homingSpacing := none }
    if s.causeInForce then s.setDrive { d with state := .holding, held := some .homing }
    else (s.setDrive d).turnHoming
  else s

/-! ### Holding (R35 to R37) -/

/-- A cause has come into force: MOVING, in any phase, and HOMING while it turns, go to HOLDING with their work held
(R35). In every other state a cause changes no motion. -/
def State.holdIfTurning (s : State) : State :=
  if s.causeInForce then
    match s.drive.state with
    | .moving => s.setDrive { s.drive.braked with state := .holding, held := some .move }
    | .homing =>
      if s.drive.homeFound then s
      else s.setDrive { s.drive.braked with state := .holding, held := some .homing }
    | .unhomed => s
    | .idle => s
    | .settling => s
    | .holding => s
    | .fault => s
  else s

/-- Whether the loop is at rest: no encoder count for 200 ms (R36). -/
def State.atRest (s : State) : Bool :=
  match s.drive.lastCount with
  | none => true
  | some t => s.reached t restMs

/-- Resume a held move from where the loop stands (R37): within the tolerance of the target, SETTLING without duty; the
target ahead, the same direction; the target passed, the opposite direction. -/
def State.resumeMove (s : State) : State :=
  if s.drive.travel.natAbs ≤ s.values.indexTolerance then s.enterSettling
  else if 0 < s.drive.travel then s.beginMotion s.drive.direction s.drive.travel.toNat
  else s.beginMotion (oppositeDirection s.drive.direction) s.drive.travel.natAbs

/-- Leave HOLDING when every cause has cleared and the loop is at rest (R36). -/
def State.tryResume (s : State) : State :=
  if s.drive.state = .holding ∧ s.causeInForce = false ∧ s.atRest = true then
    match s.drive.held with
    | some .move => s.resumeMove
    | some .homing => s.turnHoming
    | none => s
  else s

/-! ### Encoder counts (R22, R25, R26, R29, R38) -/

/-- The remaining travel after a count (R29). -/
def Drive.travelAfter (d : Drive) (dir : Direction) : Int := if dir = d.direction then d.travel - 1 else d.travel + 1

/-- A ramp one count on: a count in the direction of the move raises the counts covered by one (R29). A count against it
lowers them by one, so that the counts covered are net (DESIGN CHOICE, log 52, unsafe). -/
def Ramp.count (r : Ramp) (along : Bool) : Ramp := { r with covered := if along then r.covered + 1 else r.covered - 1 }

/-- A known position moved by one count, with the last-count stamp and the expectation that passing an index position
raises (R22, R23). -/
def State.countPosition (s : State) (dir : Direction) : State :=
  let a := s.values.countOn s.drive.position dir
  s.setDrive { s.drive with
    position := a, expectations := s.expectOn dir, lastCount := some s.timer, travel := s.drive.travelAfter dir,
    arrived := if a % s.values.countsPerPitch = 0 then some dir else none }

/-- The duty side of a count while MOVING: the ramp advances, a count in the direction of motion restarts the stall
interval, and a short move goes to DECEL after the first half of its travel (R26, R29). -/
def State.countMoving (s : State) (dir : Direction) : State :=
  let along : Bool := decide (dir = s.drive.direction)
  let ramp : Option Ramp := s.drive.ramp.map fun r => r.count along
  let duty : Nat := match ramp with
    | none => s.drive.duty
    | some r => r.duty
  let d : Drive := { s.drive with
    ramp := ramp, duty := duty,
    stallSince := if along then s.timer else s.drive.stallSince }
  let halfDone : Bool := match ramp with
    | none => false
    | some r => decide ((r.span : Int) ≤ r.covered)
  s.setDrive (if d.phase = .accel ∧ d.shortMove ∧ halfDone then d.enterDecel else d)

/-- The turning part of HOMING on a count: A moves, with the spacing counter and the stall interval (R22, R26, R38). -/
def State.countHoming (s : State) (dir : Direction) : State :=
  s.setDrive { s.drive with
    position := s.values.countOn s.drive.position dir, lastCount := some s.timer,
    homingSpacing := s.drive.homingSpacing.map fun c => if dir = .forward then c + 1 else c - 1,
    stallSince := if dir = .forward then s.timer else s.drive.stallSince }

/-- A count while a homing is held: A moves, and its position stays unknown (R22, R35). -/
def State.countUnknown (s : State) (dir : Direction) : State :=
  s.setDrive { s.drive with position := s.values.countOn s.drive.position dir, lastCount := some s.timer }

/-- Whether the homing spacing has passed P plus the tolerance without an edge (R38). -/
def State.spacingPassed (s : State) : Bool :=
  match s.drive.homingSpacing with
  | none => false
  | some c => decide (((s.values.countsPerPitch + s.values.indexTolerance : Nat) : Int) < c)

/-- The drive after an encoder count, and whether the count reveals POSITION_LOST. -/
def State.driveCount (s : State) (dir : Direction) : State × Bool :=
  match s.drive.state with
  | .unhomed => (s.setDrive { s.drive with lastCount := some s.timer }, false)
  | .fault => (s, false)
  | .homing =>
    if s.drive.homeFound then
      let t := s.countPosition dir
      let u := t.setDrive { t.drive with restSince := t.timer }
      (u, u.flagMissing || !u.offsetWithin)
    else
      let t := s.countHoming dir
      (t, t.spacingPassed)
  | .idle =>
    let t := s.countPosition dir
    (t, t.flagMissing || !t.offsetWithin)
  | .moving =>
    let t := (s.countPosition dir).countMoving dir
    (t, t.flagMissing)
  | .settling =>
    let t := s.countPosition dir
    let u := t.setDrive { t.drive with restSince := t.timer }
    (u, u.flagMissing || !u.offsetWithin)
  | .holding =>
    if s.drive.held = some .move then
      let t := s.countPosition dir
      (t, t.flagMissing)
    else (s.countUnknown dir, false)

/-! ### Index edges (R23, R24, R29, R32, R38) -/

/-- Realign A to the index position of the carrier at the face, clear its expectation and correct the remaining travel
(R23). -/
def State.realign (s : State) : State :=
  let k := s.faceCarrier
  let shift := -s.offset
  s.setDrive { s.drive with
    position := k * s.values.countsPerPitch,
    expectations := s.drive.expectations.filter fun e => decide (e.1 ≠ k), arrived := none,
    travel := match s.drive.direction with
      | .forward => s.drive.travel - shift
      | .reverse => s.drive.travel + shift }

/-- The phases at an accepted edge that is not the target's (R29, R32). A profile ramp that this edge finds unfinished ends
at its goal (log 51). In the ACCEL of a short move, which no CRUISE follows, the active profile takes the requested value and
the ramp goes on to its old goal (DESIGN CHOICE, log 53, unsafe). -/
def State.phaseAtEdge (s : State) : State :=
  let old := s.drive.active
  let d := { s.drive with active := s.drive.requested }
  let cruise := s.values.cruiseDuty d.active
  let near := decide (d.travel ≤ (s.values.countsPerPitch : Int))
  s.setDrive (match d.phase with
    | .accel =>
      if d.shortMove then d
      else
        let e := { d with duty := cruise, phase := .cruise, ramp := none }
        if near then e.enterDecel else e
    | .cruise =>
      if near then d.enterDecel
      else if s.values.cruiseDuty old = cruise then { d with duty := cruise, ramp := none }
      else
        { d with duty := s.values.cruiseDuty old,
                 ramp := some { start := s.values.cruiseDuty old, goal := cruise, span := s.values.countsPerPitch,
                                covered := 0 } }
    | .decel => d)

/-- An index edge while the position is known: accepted within the tolerance and realigned (R23), the home flag checked
(R24), and, while MOVING, SETTLING at the target's edge or the phases (R29). The flag of another index position is missing
where the realignment takes A beyond its tolerance with its edge still expected (R23). -/
def State.edgeKnown (s : State) (homeFlag : Bool) : State × Bool :=
  if s.offsetWithin then
    let t := s.realign
    if homeFlag = decide (s.faceCarrier = 0) ∧ t.flagMissing = false then
      if t.drive.state = .moving then
        (if t.drive.target = some s.faceCarrier then t.enterSettling else t.phaseAtEdge, false)
      else (t, false)
    else (t, true)
  else (s, true)

/-- An index edge in the turning part of HOMING: the spacing check, the home edge, and the bound of N + 1 edges (R38). -/
def State.edgeHoming (s : State) (homeFlag : Bool) : State × Bool :=
  let inSpacing := match s.drive.homingSpacing with
    | none => true
    | some c => decide ((c - (s.values.countsPerPitch : Int)).natAbs ≤ s.values.indexTolerance)
  if inSpacing then
    if homeFlag then
      (s.setDrive { s.drive.braked with position := 0, homeFound := true, expectations := [], arrived := none,
                                        travel := 0, restSince := s.timer, homingEdges := 0, homingSpacing := none }, false)
    else
      let edges := s.drive.homingEdges + 1
      (s.setDrive { s.drive with homingEdges := edges, homingSpacing := some 0 },
        decide (s.values.carriers + 1 ≤ edges))
  else (s, true)

/-- The drive after an index edge, and whether the edge reveals POSITION_LOST. Where the position is unknown and no
homing turns, edges are not examined (R36, R38, R39). -/
def State.driveEdge (s : State) (homeFlag : Bool) : State × Bool :=
  if s.drive.positionKnown then s.edgeKnown homeFlag
  else if s.drive.state = .homing then s.edgeHoming homeFlag
  else (s, false)

end Sys2Proof.Machine
end

