-- ==== Sys2Proof/Machine/Planning.lean ====
section
/-! DEFINITION. The Work Planner: readiness and candidacy (R45), the stop choice (R46 to R50), retargets (R51), and the
lighting of the due tasks of a dwell (R52, R66, R68). -/

namespace Sys2Proof.Machine

/-! ### Readiness (R45) -/

/-- The LOAD tasks of an inbound id, in queue order. -/
def State.loadTasks (s : State) (id : Nat) : List Task := s.planner.queue.filter fun t => decide (t.work = .load id)

/-- The LOAD tasks of an inbound id that are ready: as many of the oldest as tyres have arrived and are not loaded
(R45). -/
def State.readyLoads (s : State) (id : Nat) : List Task :=
  match s.receivingOf id with
  | none => []
  | some r => (s.loadTasks id).take (r.arrived - r.loaded)

/-- Whether a task is ready (R45). -/
def State.ready (s : State) (t : Task) : Bool :=
  match t.work with
  | .pick l => (s.lane l.lane).synced
  | .load id => (s.readyLoads id).any fun x => decide (x.slot = t.slot)
  | .restore _ => true

/-- Whether a task is a candidate for a stop (R45). -/
def State.candidate (s : State) (t : Task) : Bool :=
  s.ready t && match t.work with
    | .pick l => s.pocketRule l
    | .load _ => true
    | .restore _ => true

/-- The candidate tasks, in queue order. -/
def State.candidates (s : State) : List Task := s.planner.queue.filter s.candidate

/-- The carrier of a task. -/
def State.taskCarrier (s : State) (t : Task) : Nat := s.values.carrierOf t.slot

/-! ### The due tasks and their lamps (R52, R65 to R68) -/

/-- Make a task AT_FACE (R44). -/
def Task.atFace (t : Task) : Task := { t with state := .atFace }

/-- The ready tasks of a carrier that are not among some due tasks, in queue order. -/
def State.joining (s : State) (carrier : Nat) (due : List Due) : List Task :=
  s.planner.queue.filter fun t =>
    decide (s.taskCarrier t = carrier) && s.ready t && !(due.any fun d => decide (d.slot = t.slot))

/-- Ready tasks on the dwell's carrier join the end of the due tasks, unlit, and become AT_FACE (R52, R68). -/
def State.joinDue (s : State) : State :=
  match s.face.dwell with
  | none => s
  | some d =>
    let new := s.joining d.carrier d.due
    let t := new.foldl (fun u x => u.updateTask x.slot Task.atFace) s
    t.setDwell (some { d with due := d.due ++ new.map fun x => { slot := x.slot, lit := false } })

/-- Whether a due task is lit: a PICK is while a pocket is assigned to it (R66, R68); others by their mark. -/
def State.isLit (s : State) (d : Due) : Bool :=
  match s.taskOn d.slot with
  | none => false
  | some t =>
    match t.work with
    | .pick _ => (s.assignedPocket d.slot).isSome
    | .load _ => d.lit
    | .restore _ => d.lit

/-- Light one due task: a LOAD or RESTORE always, a PICK if a pocket is assigned to it now (R66). -/
def State.lightOne (s : State) (d : Due) : State × Due :=
  match s.taskOn d.slot with
  | none => (s, d)
  | some t =>
    match t.work with
    | .load _ => (s, { d with lit := true })
    | .restore _ => (s, { d with lit := true })
    | .pick l =>
      if (s.assignedPocket d.slot).isSome then (s, { d with lit := true })
      else
        match s.pocketFor l with
        | none => (s, { d with lit := false })
        | some p => (s.assignPocket p d.slot l, { d with lit := true })

/-- Light the due tasks in order; a pocket assigned to one counts as taken for the next (R66). -/
def State.lightAll (s : State) (due : List Due) : State × List Due :=
  due.foldl (fun acc d => ((acc.1.lightOne d).1, acc.2 ++ [(acc.1.lightOne d).2])) (s, [])

/-- In phase WORKING, ask for every unlit due task in queue order (R66, R68). -/
def State.lightDue (s : State) : State :=
  match s.face.dwell with
  | none => s
  | some d =>
    if d.phase = .working then
      let r := s.lightAll d.due
      r.1.setDwell (some { d with due := r.2 })
    else s

/-- Ready tasks join the open dwell, and what is unlit is asked for (R52, R68). -/
def State.refreshDwell (s : State) : State := s.joinDue.lightDue

/-! ### A carrier settled (R48, R50, R52, R63, R65) -/

/-- SETTLED at a carrier: the stop in flight ends, the park target at that carrier is cleared, the image turns UNKNOWN
and a settle scan begins, and a dwell opens in SCANNING with the ready tasks as due. -/
def State.settledAt (s : State) (carrier : Nat) : State :=
  let p := s.planner
  let t := s.setPlanner { p with
    inFlight := none, parkTarget := if p.parkTarget = some carrier then none else p.parkTarget }
  let u := (t.setFace { t.face with
    image := Vector.replicate 12 SensorPos.unknown,
    dwell := some { carrier := carrier, phase := .scanning, due := [], wrong := [], elapsed := 0, scan := [] } }).joinDue
  u.setFace { u.face with
    settleScan := some { carrier := carrier, cycles := 0, hadDue := decide (u.joining carrier [] ≠ []) } }

/-! ### The stop choice (R46 to R48) -/

/-- The order of nearness: distance first, forward before backward at the same distance (R47). -/
def State.nearness (s : State) (carrier : Nat) : Nat :=
  let v := s.values
  v.distanceBetween s.faceCarrier carrier * 2 + (if v.directionTo s.faceCarrier carrier = .forward then 0 else 1)

/-- The nearest of some carriers to the carrier at the face (R47). -/
def State.nearest (s : State) (carriers : List Nat) : Option Nat := leastBy s.nearness carriers

/-- Whether a task has aged past the aging limit (R47). -/
def State.aged (s : State) (t : Task) : Bool := s.reached t.created (s.values.agingLimit * secondMs)

/-- The first three steps of the stop choice (R47). -/
def State.workStop (s : State) : Option Stop :=
  let cands := s.candidates
  if s.audit.sweep ≠ [] ∧ (s.values.sweepEvery ≤ s.planner.stopRun ∨ cands = []) then
    (s.nearest s.audit.sweep).map fun c => { target := c, kind := .sweep }
  else
    match cands.find? s.aged with
    | some t => some { target := s.taskCarrier t, kind := .aged }
    | none => (s.nearest (cands.map s.taskCarrier)).map fun c => { target := c, kind := .nearest }

/-- The stop choice (R47); step 4 is PARK. -/
def State.chooseStop (s : State) : Option Stop :=
  match s.workStop with
  | some st => some st
  | none =>
    match s.planner.parkTarget with
    | none => none
    | some c => if c = s.faceCarrier then none else some { target := c, kind := .park }

/-- Clear a park target that step 4 finds at the face (R47, R50). -/
def State.clearParked (s : State) : State :=
  if s.planner.parkTarget = some s.faceCarrier then s.setPlanner { s.planner with parkTarget := none } else s

/-- Whether the planner chooses a stop (R46). -/
def State.mayChoose (s : State) : Bool :=
  decide (s.control.service = .inService) && decide (s.drive.state = .idle) && s.face.dwell.isNone &&
    s.planner.inFlight.isNone

/-- Record the stop in flight and send its move request; a refusal discards the stop, and a move of distance 0 is
SETTLED at once (R48). -/
def State.startStop (s : State) (st : Stop) : State :=
  match s.moveAnswer st.target with
  | .accepted =>
    let t := s.takeMove st.target
    t.setPlanner { t.planner with inFlight := some st }
  | .settledAtOnce => s.settledAt st.target
  | .refused _ => s

/-- Choose a stop, if the planner may (R46 to R48). -/
def State.chooseNext (s : State) : State :=
  if s.mayChoose then
    match s.chooseStop with
    | some st => s.startStop st
    | none => s.clearParked
  else s

/-! ### Retargets (R51) -/

/-- Whether two entries of the queue, at two moments, are one task: what a move leaves as it is (R57, log 31). -/
def Task.same (t u : Task) : Bool :=
  decide (t.work = u.work) && decide (t.created = u.created) && decide (t.joined = u.joined)

/-- What a retarget could go to, a carrier with the kind the stop would take: a task that was not a candidate before, or a
carrier not in the sweep set before (R45, R51). -/
def State.newTargets (before s : State) : List Stop :=
  let tasks := s.candidates.filter fun t => !before.candidates.any t.same
  let swept := s.audit.sweep.filter fun c => !(before.audit.sweep.contains c)
  tasks.map (fun t => { target := s.taskCarrier t, kind := .nearest }) ++
    swept.map fun c => { target := c, kind := .sweep }

/-- Whether a stop of a kind may be retargeted to a stop of another (R51). -/
def StopKind.mayBecome (old new : StopKind) : Bool :=
  match old with
  | .nearest => decide (new = .nearest)
  | .sweep => decide (new = .sweep)
  | .park => true
  | .aged => false

/-- The counts to a carrier in the direction of the move. -/
def State.countsAhead (s : State) (carrier : Nat) : Nat :=
  s.values.countsTo s.drive.position s.drive.direction carrier

/-- Whether a carrier lies ahead of the loop and before the target (R51). -/
def State.onPath (s : State) (carrier : Nat) : Bool :=
  decide (0 < s.countsAhead carrier) && decide ((s.countsAhead carrier : Int) < s.drive.travel)

/-- The retarget request, if the new candidates call for one: the one the loop reaches first (R51). -/
def State.retargetStop (before s : State) : Option Stop :=
  match s.planner.inFlight with
  | none => none
  | some st =>
    leastBy (fun x => s.countsAhead x.target)
      ((newTargets before s).filter fun x => st.kind.mayBecome x.kind && s.onPath x.target)

/-- Send the retarget; on acceptance the stop in flight takes the new target and kind (R51). -/
def State.retarget (before s : State) : State :=
  if before.drive.state = .moving ∧ s.drive.state = .moving then
    match retargetStop before s with
    | none => s
    | some st =>
      match s.retargetAnswer st.target with
      | .accepted =>
        let t := s.takeRetarget st.target
        t.setPlanner { t.planner with inFlight := some st }
      | .settledAtOnce => s
      | .refused _ => s
  else s

end Sys2Proof.Machine
end

