-- ==== Sys2Proof/Machine/Relocation.lean ====
section
/-! DEFINITION. The relocation of LOAD tasks whose slot was made SUSPECT (R57, R78, R148, R149). -/

namespace Sys2Proof.Machine

/-- The expected data of a LOAD task whose record could not be read: that of any other slot reserved for the same inbound
id, by slot number (R148). -/
def State.dataOfBatch (s : State) (id : Nat) : Option StockData :=
  (List.range s.values.slots).findSome? fun n =>
    let r := s.recordAt n
    if r.state = .reservedIn ∧ r.inbound = some id then r.stock else none

/-- Whether the debounced presence lets a slot be used: on the carrier at the face it must read ABSENT (R149). -/
def State.clearAtFace (s : State) (slot : Nat) : Bool :=
  if s.drive.positionKnown ∧ s.values.carrierOf slot = s.faceCarrier then
    match s.face.image.toList[s.values.placeOf slot]? with
    | none => false
    | some p => decide (p.debounced = .absent)
  else true

/-- A fitting slot for a tyre (R149); a slot that another task names is passed over (R43, log 17). -/
def State.fitting (s : State) (size slot : Nat) : Bool :=
  decide ((s.recordAt slot).state = .empty) && decide (size ≤ s.values.rowClassOf slot) && s.clearAtFace slot &&
    (s.taskOn slot).isNone

/-- The distance of a slot's carrier from the planning position, 0 while there is none (R149). -/
def State.planningDistance (s : State) (slot : Nat) : Nat :=
  match s.planningPosition with
  | none => 0
  | some c => s.values.distanceBetween c (s.values.carrierOf slot)

/-- Waste first, then distance, then slot number: the order of R89 and R149 as one number. -/
def State.storeOrder (s : State) (size slot : Nat) : Nat :=
  ((s.values.rowClassOf slot - size) * 64 + s.planningDistance slot) * maxPositions + slot

/-- The first fitting slot in the order of R149. -/
def State.fittingSlot (s : State) (size : Nat) : Option Nat :=
  leastBy (s.storeOrder size) ((List.range s.values.slots).filter (s.fitting size))

/-- The LOAD task on a slot moves to another slot. It keeps its place, creation time, deferral count and state; one that
leaves the carrier of the dwell leaves the due tasks and becomes WAITING, and one that stays on it stays due (R52, R57,
R149; at the close of a dwell see `State.dropMoved`, log 42). -/
def State.moveTask (s : State) (old new : Nat) : State :=
  match s.face.dwell with
  | none => s.updateTask old fun t => { t with slot := new }
  | some d =>
    if d.due.any fun x => decide (x.slot = old) then
      if s.values.carrierOf new = d.carrier then
        (s.updateTask old fun t => { t with slot := new }).setDwell (some { d with
          due := d.due.map fun x => if x.slot = old then { slot := new, lit := x.lit } else x })
      else
        ((s.updateTask old fun t => { t with slot := new, state := .waiting }).dropDue old).testCompletion
    else s.updateTask old fun t => { t with slot := new }

/-- A LOAD task for which no slot was found is cancelled: its record is one claimed the less, and the shortage is
reported (R57, R78, R149). -/
def State.cancelRelocated (s : State) (r : Relocation) : State :=
  let t := s.removeTask r.slot
  let u := t.setFace { t.face with
    receiving := t.face.receiving.map fun x =>
      if x.inboundId = r.inboundId then { x with claimed := x.claimed - 1, arrived := min x.arrived (x.claimed - 1) }
      else x }
  ((u.reportShort r.inboundId 1 .early (u.receivingOf r.inboundId)).freeReceived).testCompletion

/-- Take a LOAD task to the fitting slot found, if the request for it is applied and no other task has come to name it
(R43); otherwise cancel it (R149). -/
def State.placeTask (s : State) (r : Relocation) (data : StockData) : State :=
  match s.fittingSlot data.size with
  | none => s.cancelRelocated r
  | some slot =>
    let q := s.request slot (inStates [.empty]) fun _ => .reserved r.inboundId data
    if q.applied ∧ (q.state.taskOn slot).isNone then q.state.moveTask r.slot slot else q.state.cancelRelocated r

/-- Relocate one LOAD task, if it is still in the queue. The search reads the table (R9). -/
def State.relocateOne (s : State) (r : Relocation) : State :=
  match s.taskOn r.slot with
  | none => s
  | some t =>
    if t.work = .load r.inboundId then
      let u := s.readTable
      match (match r.expected with
        | some d => some d
        | none => u.dataOfBatch r.inboundId) with
      | none => u.cancelRelocated r
      | some d => u.placeTask r d
    else s

/-- Relocate the LOAD tasks handed over, the first first; `fuel` bounds the tasks handed over by the reads made
meanwhile. -/
def State.relocateUpTo : Nat → State → State
  | 0, s => s
  | fuel + 1, s =>
    match s.audit.relocations with
    | [] => s
    | r :: rest => State.relocateUpTo fuel ((s.setAudit { s.audit with relocations := rest }).relocateOne r)

/-- Relocate every LOAD task handed over (R148, R149). Every read that hands one over rewrites one of 512 positions. -/
def State.relocateAll (s : State) : State := s.relocateUpTo 1024

end Sys2Proof.Machine
end

