-- ==== Sys2Proof/Machine/Dwell.lean ====
section
/-! DEFINITION. The dwell at work: confirmations (R69 to R71), wrong events (R72), the close (R74, R75), lamps (R67), and
the samples of a scan cycle (R61 to R63). -/

namespace Sys2Proof.Machine

/-! ### The close of a dwell (R74, R75) -/

/-- Resolve one pending wrong event against the record as it then stands, with its discrepancy record (R74, step 1). -/
def State.resolveWrong (s : State) (w : WrongEvent) : State :=
  match w.kind with
  | .wrongPick =>
    let q := s.request w.slot (inStates [.occupied, .pickClaimed]) SlotRecord.missing
    q.state.writeReport (.discrepancy .wrongPick (.slot w.slot) q.found.book q.applied none none)
  | .wrongPlace =>
    let q := s.request w.slot (inStates [.empty, .outbound, .reservedIn]) fun _ => .suspect .unknown
    q.state.writeReport (.discrepancy .wrongPlace (.slot w.slot) q.found.book q.applied none none)

/-- A task that waits again (R52). -/
def Task.waits (t : Task) : Task := { t with state := .waiting }

/-- A task deferred: DEFERRED, one deferral more (R44). -/
def Task.deferred (t : Task) : Task := { t with state := .deferred, deferrals := raiseTo maxDeferrals 1 t.deferrals }

/-- A due task left unfinished becomes DEFERRED; the report is written when the count comes to 3 (R44). -/
def State.deferTask (s : State) (t : Task) : State :=
  let u := s.updateTask t.slot Task.deferred
  if t.deferrals + 1 = reportedDeferral then
    u.writeReport (.deferredTask t.work t.slot (s.taskCarrier t) reportedDeferral)
  else u

/-- Free the ASSIGNED entries of the due tasks (R74, step 2). -/
def State.freeDuePockets (s : State) (due : List Due) : State := due.foldl (fun t d => t.freeAssigned d.slot) s

/-- Defer the due tasks, in queue order (R74, step 3). -/
def State.deferDue (s : State) (due : List Due) : State :=
  (s.planner.queue.filter fun t => due.any fun d => decide (d.slot = t.slot)).foldl State.deferTask s

/-- Steps 2 to 4 of the close. -/
def State.endDwell (s : State) : State :=
  match s.face.dwell with
  | none => s
  | some d => ((s.freeDuePockets d.due).deferDue d.due).setDwell none

/-- One pending wrong event of a dwell that closes: resolved, and the LOAD task it hands over relocated at once (R74,
R148). -/
def State.closeWrong (s : State) (w : WrongEvent) : State := (s.resolveWrong w).relocateAll

/-- The pending wrong events of a dwell in order of slot (R74). -/
def Dwell.wrongInOrder (d : Dwell) : List WrongEvent := sortBy (fun a b => decide (a.slot < b.slot)) d.wrong

/-- The LOAD tasks that step 1 has moved leave the due tasks; one moved to a slot of the same carrier becomes WAITING as
one that leaves the carrier does (R74, step 1; R52; log 42). `due` are the due tasks as the close found them. -/
def State.dropMoved (s : State) (due : List Due) : State :=
  match s.face.dwell with
  | none => s
  | some d =>
    let moved := d.due.filter fun x => !(due.any fun y => decide (y.slot = x.slot))
    moved.foldl (fun t x => (t.updateTask x.slot Task.waits).dropDue x.slot) s

/-- Close the open dwell by DONE or timeout: wrong events resolved in slot order, the LOAD tasks this hands over
relocated at once and no longer due, pockets freed, tasks deferred (R74, R148). -/
def State.closeDwell (s : State) : State :=
  match s.face.dwell with
  | none => s
  | some d => ((d.wrongInOrder.foldl State.closeWrong s).dropMoved d.due).endDwell

/-- Close the open dwell at FAULT: wrong events are dropped without resolution (R75). -/
def State.closeDwellAtFault (s : State) : State := s.endDwell

/-! ### Confirmations (R69 to R71) -/

/-- The confirmed pick of a slot: OUTBOUND, the ASSIGNED entry CARRIED, the task done; a record found uncorrectable has
failed the task in its read (R69). -/
def State.confirmPick (s : State) (slot : Nat) (line : LineRef) : State :=
  let pocket := s.assignedPocket slot
  let q := s.request slot (inStates [.pickClaimed]) (SlotRecord.keeping .outbound)
  if q.applied then
    let t := match pocket with
      | none => q.state
      | some p =>
        match (q.state.pocket p).entryOf with
        | none => q.state
        | some e => q.state.setEntry p { e with state := .carried }
    (t.dropTask slot).dropDue slot
  else
    match q.state.taskOn slot with
    | none => q.state
    | some t => if t.work = .pick line then q.state.failPick slot line else q.state

/-- The confirmed load of a slot: OCCUPIED with the expected data, one loaded, STOCK_IN written, the task done; where
the record was uncorrectable the task handed on is relocated at once (R70, R148). -/
def State.confirmLoad (s : State) (slot id : Nat) : State :=
  let q := s.request slot (inStates [.reservedIn]) (SlotRecord.keeping .occupied)
  if q.applied then
    let t := q.state.updateReceiving id fun r => { r with loaded := r.loaded + 1 }
    ((t.dropTask slot).dropDue slot).writeReport (.stockIn slot id)
  else q.state.relocateAll

/-- The confirmed restore of a slot: OCCUPIED from OUTBOUND, RETIRED left alone, SUSPECT(UNKNOWN) from any other state,
with an UNKNOWN record but for the first; the pocket entry is freed, and its task done (R55, R71, R140). -/
def State.confirmRestore (s : State) (slot : Nat) (pocket : Fin 2) : State :=
  let q := s.request slot (fun r => decide (r.state ≠ .retired)) fun r =>
    if r.state = .outbound then .keeping .occupied r else .suspect .unknown
  let t := if q.found.state = .outbound then q.state
    else q.state.writeReport (.discrepancy .unknown (.slot slot) q.found.book
      (decide (q.found.state ≠ .retired) && decide (q.found ≠ .suspect .unknown)) none none)
  ((t.freeRestore pocket).dropTask slot).dropDue slot

/-! ### Changes of presence (R66, R69 to R72) -/

/-- The kind of wrong event a change of presence makes (R72). -/
def wrongKindOf (present : Bool) : WrongKind := if present then .wrongPlace else .wrongPick

/-- Make a wrong event pending (R72). -/
def State.addWrong (s : State) (slot : Nat) (present : Bool) : State :=
  match s.face.dwell with
  | none => s
  | some d => s.setDwell (some { d with wrong := d.wrong ++ [{ slot := slot, kind := wrongKindOf present }] })

/-- Drop the pending wrong event of a slot (R72). -/
def State.dropWrong (s : State) (slot : Nat) : State :=
  match s.face.dwell with
  | none => s
  | some d => s.setDwell (some { d with wrong := d.wrong.filter fun w => decide (w.slot ≠ slot) })

/-- What a change of presence at a slot without a pending wrong event does: a confirmation at a lit due slot, else a
wrong event (R69 to R72). -/
def State.useChange (s : State) (d : Dwell) (slot : Nat) (present : Bool) : State :=
  match d.due.find? (fun x => decide (x.slot = slot) && s.isLit x), s.taskOn slot with
  | some _, some t =>
    match t.work, present with
    | .pick l, false => s.confirmPick slot l
    | .load id, true => s.confirmLoad slot id
    | .restore p, true => s.confirmRestore slot p
    | .pick _, true => s.addWrong slot present
    | .load _, false => s.addWrong slot present
    | .restore _, false => s.addWrong slot present
  | _, _ => s.addWrong slot present

/-- A change of debounced presence at a position of the carrier at the face, in an open dwell in phase WORKING (R66): a
change back drops a pending wrong event; otherwise it confirms or makes a wrong event. The dwell is then tested for
completion (R73), and unlit due picks ask again (R68). -/
def State.presenceChange (s : State) (place : Nat) (present : Bool) : State :=
  match s.face.dwell with
  | none => s
  | some d =>
    if d.phase = .working then
      let slot := d.carrier * s.values.slotsPerCarrier + place
      let t := if d.wrong.any fun w => decide (w.slot = slot) then s.dropWrong slot else s.useChange d slot present
      t.testCompletion.refreshDwell
    else s

/-! ### Lamps (R67) -/

/-- The states of a slot lamp (R67). -/
inductive Lamp
  | off
  | steady
  | flash
  | fast
  deriving DecidableEq, Repr

/-- The lamp on line `place` of SLOT_LAMP (R67). With no dwell, as in a part that does not run, every lamp is off. -/
def State.slotLamp (s : State) (place : Nat) : Lamp :=
  match s.face.dwell with
  | none => .off
  | some d =>
    if d.phase = .working ∧ place < s.values.slotsPerCarrier then
      let slot := d.carrier * s.values.slotsPerCarrier + place
      if d.wrong.any fun w => decide (w.slot = slot) then .fast
      else if d.due.any fun x => decide (x.slot = slot) && s.isLit x then
        match s.taskOn slot with
        | none => .off
        | some t =>
          match t.work with
          | .pick _ => .steady
          | .load _ => .flash
          | .restore _ => .flash
      else .off
    else .off

/-- Where in its on and off times a lamp begins that takes a state on a line: a free value (R67, log 56). -/
def Lamp.blinkStart (l : Lamp) (place : Nat) (now : Timer) : Nat :=
  match l with
  | .off => 0
  | .steady => 0
  | .flash => Config.blinkPhase place now % (2 * flashMs)
  | .fast => Config.blinkPhase place now % (2 * fastMs)

/-- A lamp's place in its on and off times one millisecond on (R67). -/
def Lamp.blinkNext (l : Lamp) (blink : Nat) : Nat :=
  match l with
  | .off => blink
  | .steady => blink
  | .flash => (blink + 1) % (2 * flashMs)
  | .fast => (blink + 1) % (2 * fastMs)

/-- Whether a lamp's line is on: STEADY always, OFF never, FLASH in the first 500 of its 1000 ms, FAST in the first 125 of its
250 ms (R67). -/
def Lamp.lineOn (l : Lamp) (blink : Nat) : Bool :=
  match l with
  | .off => false
  | .steady => true
  | .flash => decide (blink < flashMs)
  | .fast => decide (blink < fastMs)

/-- The lamps take the states a step has given them: a line whose lamp is another than `before` begins its on and off times,
any other goes on with them (R67, log 56). -/
def State.takeLamps (before s : State) : State :=
  let blink := Vector.ofFn fun i : Fin 12 =>
    if before.slotLamp i.val = s.slotLamp i.val then s.face.blink[i]
    else (s.slotLamp i.val).blinkStart i.val s.timer
  s.setFace { s.face with blink := blink }

/-- The lamps one millisecond on (R67). -/
def State.blinkOn (s : State) : State :=
  s.setFace { s.face with blink := Vector.ofFn fun i : Fin 12 => (s.slotLamp i.val).blinkNext s.face.blink[i] }

/-- Whether a line of SLOT_LAMP is on (R67). -/
def State.lampOn (s : State) (i : Fin 12) : Bool := (s.slotLamp i.val).lineOn s.face.blink[i]

/-! ### Samples (R61 to R63) -/

/-- A sample as a presence. -/
def presenceOf (sample : Bool) : Presence := if sample then .present else .absent

/-- One sample at a position (R62). -/
def SensorPos.sample (p : SensorPos) (x : Bool) : SensorPos :=
  if p.debounced = presenceOf x then { p with run := 0, last := x }
  else
    let run := if p.run ≠ 0 ∧ p.last = x then p.run + 1 else 1
    if debounceRun ≤ run then { debounced := presenceOf x, run := 0, last := x } else { p with run := run, last := x }

/-- Whether scanning runs: in every drive state but MOVING, SETTLING and HOMING (R62). -/
def State.scanning (s : State) : Bool :=
  match s.drive.state with
  | .moving => false
  | .settling => false
  | .homing => false
  | .idle => true
  | .holding => true
  | .unhomed => true
  | .fault => true

/-- Whether a scan cycle is due: scanning runs, and 5 ms have passed since the last cycle, if there is one (R61, R62). -/
def State.scanDue (s : State) : Bool :=
  s.scanning && match s.face.lastScan with
    | none => true
    | some t => s.reached t scanMs

/-- ROW_STROBE[2:0] with the strobe of one row driven and the others released (R61). -/
def rowStrobe (row : Nat) : Vector Bool 3 := Vector.ofFn fun i : Fin 3 => decide (i.val = row)

/-- ROW_STROBE[2:0] with every strobe released (R61, R62). -/
def strobesReleased : Vector Bool 3 := Vector.replicate 3 false

/-- One row of a scan cycle: ROW_STROBE[2:0] while the row is read, and what COL_RETURN gives for its columns (R61). -/
structure RowRead where
  strobes : Vector Bool 3
  samples : List Bool
  deriving DecidableEq, Repr

/-- A scan cycle, row by row in order from row 0 to rows − 1: the row's own strobe is driven, and columns 0 to columns − 1 are
read; bit 4 × row + column of `returns` is COL_RETURN[column] under ROW_STROBE[row] (R61). -/
def SetupValues.rowReads (v : SetupValues) (returns : BitVec 12) : List RowRead :=
  (List.range v.rows).map fun r =>
    { strobes := rowStrobe r, samples := (List.range v.columns).map fun c => returns.getLsbD (4 * r + c) }

/-- The levels of ROW_STROBE[2:0] through a scan cycle: each row's strobe driven and then released, one at a time (R61). -/
def SetupValues.strobeLevels (v : SetupValues) : List (Vector Bool 3) :=
  (v.rowReads 0).flatMap fun r => [r.strobes, strobesReleased]

/-- The sample of a position in a scan cycle: that of its column in the read of its row (R61). -/
def SetupValues.sampleAt (v : SetupValues) (returns : BitVec 12) (place : Nat) : Bool :=
  match (v.rowReads returns)[place / v.columns]? with
  | none => false
  | some r => r.samples.getD (place % v.columns) false

/-- The image after a scan cycle; positions beyond the setup geometry are not used (R61, R62). -/
def State.sampled (s : State) (returns : BitVec 12) : Vector SensorPos 12 :=
  Vector.ofFn fun i : Fin 12 =>
    if i.val < s.values.slotsPerCarrier then (s.face.image[i]).sample (s.values.sampleAt returns i.val)
    else s.face.image[i]

/-- The positions in use. -/
def State.places (s : State) : List (Fin 12) :=
  (List.finRange 12).filter fun i => decide (i.val < s.values.slotsPerCarrier)

/-- Whether no position in use is UNKNOWN. -/
def State.imageKnown (s : State) : Bool := s.places.all fun i => decide ((s.face.image[i]).debounced ≠ .unknown)

/-- The value of a position for a settle scan: its presence, or its latest sample while UNKNOWN (R63). -/
def SensorPos.value (p : SensorPos) : Bool :=
  match p.debounced with
  | .present => true
  | .absent => false
  | .unknown => p.last

/-- The settle scan in progress after a cycle: complete when no position is UNKNOWN or at the twentieth cycle, and then
handed to the Audit Unit, which clocks the reading out of the load pin (R63, R142, R150). -/
def State.settleCycle (s : State) (loadPin : BitVec 16) : State :=
  match s.face.settleScan with
  | none => s
  | some c =>
    if s.imageKnown ∨ settleCycles ≤ c.cycles + 1 then
      let scan : Scan := { carrier := c.carrier, image := s.places.map fun i => (s.face.image[i]).value,
                           reading := loadPinReading (loadPinSamples loadPin), hadDue := c.hadDue }
      (s.setFace { s.face with settleScan := none }).setAudit { s.audit with scans := s.audit.scans ++ [scan] }
    else s.setFace { s.face with settleScan := some { c with cycles := c.cycles + 1 } }

/-- Whether the debounced presence of a position has changed to a known value: from a known value, or from UNKNOWN
against the settle scan the dwell was entered with (R62, R66, log 18). -/
def changedAt (before after : SensorPos) (scan : Option Bool) : Bool :=
  match after.debounced with
  | .unknown => false
  | .present => decide (before.debounced = .absent) || (decide (before.debounced = .unknown) && decide (scan = some false))
  | .absent => decide (before.debounced = .present) || (decide (before.debounced = .unknown) && decide (scan = some true))

/-- The changes a cycle brought, in order of position, each with its new value. -/
def State.changesFrom (before s : State) : List (Nat × Bool) :=
  let scan := match s.face.dwell with
    | none => []
    | some d => d.scan
  (s.places.filter fun i => changedAt before.face.image[i] s.face.image[i] scan[i.val]?).map fun i =>
    (i.val, (s.face.image[i]).value)

/-- A scan cycle while scanning runs: samples, the settle scan, then the changes acted on in phase WORKING (R61 to
R63). -/
def State.scanFace (s : State) (returns : BitVec 12) (loadPin : BitVec 16) : State :=
  let t := s.setFace { s.face with image := s.sampled returns, lastScan := some s.timer }
  let working : Bool := match s.face.dwell with
    | none => false
    | some d => decide (d.phase = .working)
  let u := t.settleCycle loadPin
  if working then (State.changesFrom s t).foldl (fun (w : State) (c : Nat × Bool) => w.presenceChange c.1 c.2) u else u

end Sys2Proof.Machine
end

