-- ==== Sys2Proof/Machine/Motion.lean ====
section
/-! DEFINITION. What the drive's changes mean for the other blocks: faults (R39, R58, R59, R75, R170), homing completed
(R38, R170) and encoder counts and index edges with the faults they reveal. -/

namespace Sys2Proof.Machine

/-- The service state changes to OUT_OF_SERVICE; leaving IN_SERVICE frees the contest records, and the fault grace starts
(R58, R115, R170). -/
def State.outOfService (s : State) : State :=
  match s.control.service with
  | .setupWait => s
  | .joining => s
  | .outOfService => s
  | .starting =>
    (s.setControl { s.control with service := .outOfService }).setPlanner { s.planner with graceSince := some s.timer }
  | .inService =>
    let t := (s.setControl { s.control with service := .outOfService }).setPlanner
      { s.planner with graceSince := some s.timer }
    t.contestExit

/-- The drive side of a fault: duty removed, brake set, target, held work and edge counts discarded; DONE held already
is timed from here (R39, R40). -/
def State.driveFault (s : State) (kind : FaultKind) : State :=
  s.setDrive { s.drive.braked with
    state := .fault, target := none, held := none, travel := 0, faultKind := some kind, expectations := [],
    arrived := none, homeFound := false, homingEdges := 0, homingSpacing := none,
    doneSince := if s.face.doneActive then some s.timer else none }

/-- The drive enters FAULT (R39): the stop in flight is discarded (R59), the open dwell is closed without resolution
(R75), a settle scan in progress is abandoned (log 19), and the service state becomes OUT_OF_SERVICE (R170). In FAULT
already, nothing changes. -/
def State.enterFault (s : State) (kind : FaultKind) : State :=
  if s.drive.state = .fault then s
  else
    let t := s.driveFault kind
    let u := t.setPlanner { t.planner with inFlight := none }
    ((u.setFace { u.face with settleScan := none }).closeDwellAtFault).outOfService

/-- A drive step that may reveal POSITION_LOST. -/
def State.orLost (r : State × Bool) : State := if r.2 then r.1.enterFault .positionLost else r.1

/-- An encoder count (R22, R23, R25, R26, R29, R30, R38). -/
def State.count (s : State) (dir : Direction) : State := State.orLost (s.driveCount dir)

/-- An index edge (R23, R24, R29, R38). -/
def State.edge (s : State) (homeFlag : Bool) : State := State.orLost (s.driveEdge homeFlag)

/-- HOMED: IDLE at carrier 0; STARTING and OUT_OF_SERVICE become IN_SERVICE, which stops the fault grace (R38, R58,
R170). -/
def State.homed (s : State) : State :=
  let t := s.setDrive { s.drive with state := .idle, homeFound := false, held := none, target := none, travel := 0 }
  match t.control.service with
  | .setupWait => t
  | .joining => t
  | .inService => t
  | .starting => t.setControl { t.control with service := .inService }
  | .outOfService =>
    (t.setControl { t.control with service := .inService }).setPlanner { t.planner with graceSince := none }

/-- The carrier SETTLED names: the target (R30; log 43). -/
def State.settledCarrier (s : State) : Nat := s.drive.target.getD s.faceCarrier

/-- The end of SETTLING: IDLE with SETTLED at the target, or POSITION_LOST beyond the tolerance (R30). -/
def State.settled (s : State) : State :=
  if s.offsetWithin then
    (s.setDrive { s.drive with state := .idle, target := none, travel := 0 }).settledAt s.settledCarrier
  else s.enterFault .positionLost

/-- The end of homing: IDLE at carrier 0 with HOMED, or POSITION_LOST beyond the tolerance (R38). -/
def State.homingRested (s : State) : State := if s.offsetWithin then s.homed else s.enterFault .positionLost

/-- Whether duty is applied: MOVING, and HOMING while it turns (R26). -/
def Drive.dutyApplied (d : Drive) : Bool :=
  match d.state with
  | .moving => true
  | .homing => !d.homeFound
  | .unhomed => false
  | .idle => false
  | .settling => false
  | .holding => false
  | .fault => false

end Sys2Proof.Machine
end

