-- ==== Sys2Proof/Machine/Cost.lean ====
section
/-! DEFINITION. The Cost Unit: age (R83), eligible slots (R84, R85), bounds (R86), what is offered (R87 to R89), the terms
and the bid (R90 to R93), and the consideration of open rounds (R81, R82, R101). -/

namespace Sys2Proof.Machine

/-! ### Arithmetic (R83, R91 to R93) -/

/-- The age of a tyre in weeks, 0 for a DOT week ahead of the calendar (R83). -/
def ageAt (week dotWeek : Nat) : Nat := week - dotWeek

/-- The age multiplier of a pick bid (R83). -/
def ageMultiplier (age : Nat) : Nat := 256 - min age 104

/-- The bid from its base and multiplier (R93). -/
def bidOf (base multiplier : Nat) : Nat := min 255 ((base * multiplier + 512) / 1024)

/-- The base of a pick bid (R91). -/
def pickBase (v : SetupValues) (d p l f s : Nat) : Nat := v.wD * d + v.wP * p + v.wL * l + v.wF * f + 16 * s

/-- The base of a store bid, floored at 0 (R92). -/
def storeBase (v : SetupValues) (d p u x s c : Nat) : Nat := v.wD * d + v.wP * p + v.wU * u + 24 * x + 16 * s - c

/-! ### What a computation reads (R81) -/

/-- The stock data of a slot in the snapshot. -/
def State.stockAt (s : State) (slot : Nat) : Option StockData := (s.recordAt slot).stock

/-- The DOT week of a slot. -/
def State.dotAt (s : State) (slot : Nat) : Nat :=
  match s.stockAt slot with
  | none => 0
  | some d => d.dotWeek

/-- Whether a slot is held by a contest record of this station (R84, R85, R96). -/
def State.heldTentatively (s : State) (slot : Nat) : Bool := s.contests.records.any fun c => c.slots.contains slot

/-- The weight mark of a carrier. -/
def State.markOf (s : State) (carrier : Nat) : WeightMark := s.audit.marks.toList.getD carrier .notChecked

/-- The free task space (R86). -/
def State.freeTaskSpace (s : State) : Nat :=
  ordinaryCapacity - ordinaryCount s.planner.queue - sumBy Contest.quantity s.contests.records

/-- The eligibility of a slot for a pick but for tentative holding (R84, R110). -/
def State.pickFit (s : State) (l : OrderLine) (slot : Nat) : Bool :=
  let r := s.recordAt slot
  decide (r.state = .occupied) &&
    (match r.stock with
     | none => false
     | some d => decide (d.article = l.article) && decide (ageAt s.control.week d.dotWeek ≤ s.values.saleLimit)) &&
    (decide (l.mode = .loose) || decide (s.markOf (s.values.carrierOf slot) ≠ .mismatch))

/-- The eligibility of a slot for a store but for tentative holding (R85, R111). -/
def State.storeFit (s : State) (size slot : Nat) : Bool :=
  decide ((s.recordAt slot).state = .empty) && decide (size ≤ s.values.rowClassOf slot)

/-- The slots of the table, by number. -/
def State.allSlots (s : State) : List Nat := List.range s.values.slots

/-- The eligible slots of a pick, oldest first, equal weeks by slot number (R84, R87). -/
def State.pickEligible (s : State) (l : OrderLine) : List Nat :=
  sortBy (fun a b => decide (s.dotAt a < s.dotAt b))
    (s.allSlots.filter fun n => s.pickFit l n && !s.heldTentatively n)

/-- The eligible slots of a store, by waste, distance and slot number (R85, R89). -/
def State.storeEligible (s : State) (size : Nat) : List Nat :=
  sortBy (fun a b => decide (s.storeOrder size a < s.storeOrder size b))
    (s.allSlots.filter fun n => s.storeFit size n && !s.heldTentatively n)

/-! ### What is offered (R87 to R89) -/

/-- The first group of `r` members within one window of W weeks, heads tried oldest first (R88). -/
def State.firstSet (s : State) (w r : Nat) : List Nat → Option (List Nat)
  | [] => none
  | head :: rest =>
    let members := (head :: rest).takeWhile fun n => decide (s.dotAt n ≤ s.dotAt head + w)
    if r ≤ members.length then some (members.take r) else State.firstSet s w r rest

/-- The slots a pick offers (R87, R88). -/
def State.pickOffer (s : State) (l : OrderLine) : List Nat :=
  match l.mode with
  | .loose => (s.pickEligible l).take (min l.remainder s.freeTaskSpace)
  | .set =>
    if l.remainder = 0 ∨ s.freeTaskSpace < l.remainder then []
    else (s.firstSet s.values.window l.remainder (s.pickEligible l)).getD []

/-- The slots a store offers (R89). -/
def State.storeOffer (s : State) (o : Offer) : List Nat :=
  if s.receivingRoom o.inboundId then
    (s.storeEligible o.stock.size).take (min (o.quantity - o.claimed) s.freeTaskSpace)
  else []

/-! ### The terms (R90) -/

/-- D: the distance to the nearest chosen carrier. -/
def State.termD (s : State) (planning : Nat) (slots : List Nat) : Nat :=
  match leastBy (fun c => s.values.distanceBetween planning c) (slots.map s.values.carrierOf) with
  | none => 0
  | some c => s.values.distanceBetween planning c

/-- F: the pockets holding an entry. -/
def State.termF (s : State) : Nat := (bothPockets.filter fun p => (s.pocket p).hasEntry).length

/-- U: the share of the shelves in use, in percent. -/
def State.termU (s : State) : Nat :=
  let inUse := (s.allSlots.filter fun n =>
    decide ((s.recordAt n).state ≠ .empty) && decide ((s.recordAt n).state ≠ .retired)).length
  let notRetired := (s.allSlots.filter fun n => decide ((s.recordAt n).state ≠ .retired)).length
  if notRetired = 0 then 100 else 100 * inUse / notRetired

/-- X: the waste of the chosen slots. -/
def State.termX (s : State) (size : Nat) (slots : List Nat) : Nat := sumBy (fun n => s.values.rowClassOf n - size) slots

/-- C: 64 if some slot is OCCUPIED with the offered article and batch. -/
def State.termC (s : State) (d : StockData) : Nat :=
  if s.allSlots.any fun n => decide ((s.recordAt n).state = .occupied) && match s.stockAt n with
    | none => false
    | some x => decide (x.article = d.article) && decide (x.batch = d.batch)
  then 64 else 0

/-- The age of the first chosen slot (R91). -/
def State.ageOf (s : State) (slots : List Nat) : Nat :=
  match slots with
  | [] => 0
  | n :: _ => ageAt s.control.week (s.dotAt n)

/-! ### The result (R95) -/

/-- The result of a pick computation on its snapshot (R84, R87, R88, R90, R91). -/
def State.pickResult (s : State) (line : LineRef) (planning : Nat) : Option BidResult :=
  match s.lineAt line with
  | none => none
  | some l =>
    let slots := s.pickOffer l
    if slots = [] then none
    else
      let base := pickBase s.values (s.termD planning slots) s.planner.queue.length s.values.distance[line.lane] s.termF
        (l.remainder - slots.length)
      some { bid := bidOf base (ageMultiplier (s.ageOf slots)), quantity := slots.length, slots := slots }

/-- The result of a store computation on its snapshot (R85, R89, R90, R92). -/
def State.storeResult (s : State) (id planning : Nat) : Option BidResult :=
  match s.contests.offers.find? fun o => decide (o.inboundId = id) with
  | none => none
  | some o =>
    let slots := s.storeOffer o
    if slots = [] then none
    else
      let base := storeBase s.values (s.termD planning slots) s.planner.queue.length s.termU (s.termX o.stock.size slots)
        (o.quantity - o.claimed - slots.length) (s.termC o.stock)
      some { bid := bidOf base 256, quantity := slots.length, slots := slots }

/-- The result on a snapshot: no bid without a planning position (R90). -/
def State.bidResult (s : State) (ref : Ref) : Option BidResult :=
  match s.planningPosition with
  | none => none
  | some p =>
    match ref with
    | .pick line => s.pickResult line p
    | .store id => s.storeResult id p

/-! ### Considering rounds (R82, R101) -/

/-- The five conditions of R101. -/
def State.mayBid (s : State) (ref : Ref) : Bool :=
  decide (s.control.service = .inService) && decide (s.port.confinement = .active) && !s.planner.bidHold &&
    (match ref with
     | .pick l => (s.lane l.lane).synced
     | .store _ => true) &&
    decide (s.contests.records.length < contestCapacity)

/-- Begin the computation of a round: the snapshot reads every record of the table (R81); the result is handed over
later (R82, log 30). -/
def State.beginComputation (s : State) (o : RoundOpen) : State :=
  let t := s.readTable
  (t.setContests { t.contests with computing := some { opening := o, result := t.bidResult o.ref } }).relocateAll

/-- Consider the waiting rounds one after the other, until one is being computed (R82, R101). -/
def State.considerList (s : State) : List RoundOpen → State
  | [] => s.setContests { s.contests with considering := [] }
  | o :: rest =>
    if s.mayBid o.ref then (s.setContests { s.contests with considering := rest }).beginComputation o
    else s.considerList rest

/-- Go on with the waiting rounds when no computation is in progress. -/
def State.considerRounds (s : State) : State :=
  if s.contests.computing.isNone then s.considerList s.contests.considering else s

end Sys2Proof.Machine
end

