-- ==== Sys2Proof/Machine/Claims.lean ====
section
/-! DEFINITION. Bids and claims of the Contest Engine: results (R102), bids heard (R103, R104), windows (R105, R106),
dropped bids (R107), claims heard (R108 to R112) and offers (R98, R99). -/

namespace Sys2Proof.Machine

/-! ### Results and windows (R102, R105, R106) -/

/-- The contest record a bid result makes: in WINDOW, or DECIDING when the window is over (R102). -/
def State.recordOf (s : State) (o : RoundOpen) (b : BidResult) : Contest :=
  let tyre : Option StockData := match o.ref with
    | .pick _ => none
    | .store id => (s.contests.offers.find? fun x => decide (x.inboundId = id)).map Offer.stock
  { ref := o.ref, round := o.round, openedAt := o.openedAt, offered := tyre, bid := b.bid, quantity := b.quantity,
    slots := b.slots, lowest := none, ownHeard := false, secondChance := false, chancePassed := false, bidFrame := some .queued,
    claimFrame := none, state := if s.reached o.openedAt s.values.bidWindow then .deciding else .window }

/-- The end of the computation in progress: a bid makes its record and offers its BID; a refused BID frees the record
(R102, R162). -/
def State.takeResult (s : State) : State :=
  match s.contests.computing with
  | none => s
  | some c =>
    let t := s.setContests { s.contests with computing := none }
    match c.result with
    | none => t
    | some b =>
      if t.txRoom then
        let r := t.recordOf c.opening b
        (t.setContests { t.contests with records := t.contests.records ++ [r] }).queueFrame (bidFrameOf t.own r)
      else t

/-- The end of the bid window for one record (R105). -/
def State.windowEnd (s : State) (c : Contest) : State × Option Contest :=
  if c.state = .window ∧ s.reached c.openedAt s.values.bidWindow then
    if c.ownHeard then ((s.decideRecord c).1, some (s.decideRecord c).2)
    else (s, some { c with state := .deciding })
  else (s, some c)

/-- Whether the moment of five windows after a record's opening has come and has not been taken yet (R106). A record made
after that moment meets it at once (log 44). -/
def State.secondDue (s : State) (c : Contest) : Bool :=
  !c.chancePassed && s.reached c.openedAt (secondChanceWindows * s.values.bidWindow)

/-- Whether a record takes its second chance at that moment: in LOST or DECIDING (R106). -/
def Contest.takesChance (c : Contest) : Bool := decide (c.state = .lost) || decide (c.state = .deciding)

/-- The moment of five windows at one record: in LOST or DECIDING a QUEUED BID is withdrawn and the record claims; in any
other state it is not changed, and the moment does not come again (R106). A place its BID leaves goes to its own CLAIM
(log 48). -/
def State.secondChance (s : State) (c : Contest) : State × Option Contest :=
  if s.secondDue c then
    if c.takesChance then
      let t := s.withdrawBid c
      let r := t.claimRecord { c with bidFrame := standing c.bidFrame, secondChance := true, chancePassed := true }
      (r.1, some r.2)
    else (s, some { c with chancePassed := true })
  else (s, some c)

/-- Every moment that has come. A record left waiting for a place stands behind those that waited before it
(R106, R162). -/
def State.secondChances (s : State) : State :=
  let due := s.contests.records.filter fun c => s.secondDue c && c.takesChance
  let t := s.walkRecords State.secondChance
  let late := fun (c : Contest) => c.waiting && due.any fun d => decide (d.ref = c.ref ∧ d.round = c.round)
  t.setContests { t.contests with
    records := t.contests.records.filter (fun c => !late c) ++ t.contests.records.filter late }

/-! ### Bids heard (R103, R104) -/

/-- Whether a record is the one a BID or CLAIM names. -/
def Contest.named (c : Contest) (ref : Ref) (round : Nat) : Bool := decide (c.ref = ref) && decide (c.round = round)

/-- A tracked BID lower than the own key acts on its record (R103). -/
def State.outbid (s : State) (c : Contest) : State × Option Contest :=
  match c.state with
  | .window => (s.withdrawBid c, some { c with bidFrame := standing c.bidFrame, state := .lost })
  | .deciding => (s.withdrawBid c, some { c with bidFrame := standing c.bidFrame, state := .lost })
  | .claiming =>
    if c.secondChance = false ∧ c.claimFrame = some .queued then
      (s.withdrawClaim c, some { c with claimFrame := none, state := .lost })
    else (s, some c)
  | .lost => (s, some c)
  | .closed => (s, some c)

/-- A BID of another station at one record (R103). -/
def State.trackBid (ref : Ref) (round key : Nat) (s : State) (c : Contest) : State × Option Contest :=
  if c.named ref round ∧ c.state ≠ .closed then
    let lowest := match c.lowest with
      | none => key
      | some k => min k key
    let d := { c with lowest := some lowest }
    if key < s.bidKey c then s.outbid d else (s, some d)
  else (s, some c)

/-- This station's own BID at one record (R104), which is found by reference and round alone. A BID left on the bus by a
record that a re-sent INBOUND has freed (R98) is therefore taken as the own BID of the new record of that reference and
round, even while that record's own BID is still queued (log 57, DESIGN CHOICE). -/
def State.hearOwnBid (ref : Ref) (round : Nat) (s : State) (c : Contest) : State × Option Contest :=
  if c.named ref round ∧ c.bidFrame.isSome then
    let d := { c with bidFrame := none, ownHeard := true }
    match c.state with
    | .window => (s, some d)
    | .deciding => ((s.decideRecord d).1, some (s.decideRecord d).2)
    | .claiming => (s, some { c with bidFrame := none })
    | .lost => (s, some { c with bidFrame := none })
    | .closed => (s, some { c with bidFrame := none })
  else (s, some c)

/-- A BID heard (R103, R104). -/
def State.hearBid (s : State) (f : Frame) : State :=
  let ref := refOf f.payload
  let round := byteAt f.payload 3
  if f.key.station = s.own then s.walkRecords (State.hearOwnBid ref round)
  else s.walkRecords (State.trackBid ref round (keyValue f.key))

/-- A BID given up frees its record, except in CLAIMING (R107). -/
def State.dropBid (s : State) (f : Frame) : State :=
  s.walkRecords fun t c =>
    if c.bidFrame.isSome ∧ bidFrameOf t.own c = f then
      if c.state = .claiming then (t, some { c with bidFrame := none }) else (t.withdrawClaim c, none)
    else (t, some c)

/-! ### Offers (R98, R99) -/

/-- An offer after a CLAIM of `k`, and the round it opens (R99). -/
def Offer.claim (o : Offer) (k : Nat) : Offer × Option Nat :=
  let taken := o.claimed + min k (o.quantity - o.claimed)
  if taken = o.quantity then ({ o with claimed := taken, state := .filled }, none)
  else if o.round < maxRound then ({ o with claimed := taken, round := o.round + 1 }, some (o.round + 1))
  else ({ o with claimed := taken, state := .short }, none)

/-- Apply a CLAIM to the offer table: the applied quantity, the round it opens and the state; an entry that becomes
FILLED or SHORT leaves (R99). -/
def State.applyOfferClaim (s : State) (id k : Nat) : Applied :=
  match s.contests.offers.find? fun o => decide (o.inboundId = id) with
  | none => { quantity := 0, opened := none, state := s }
  | some o =>
    { quantity := min k (o.quantity - o.claimed), opened := (o.claim k).2,
      state := s.setContests { s.contests with
        offers := (s.contests.offers.map fun x => if x.inboundId = id then (o.claim k).1 else x).filter
          fun x => decide (x.state = .opened) } }

/-- Free the offer entry of an id and end the records of its reference (R98). -/
def State.freeOffer (s : State) (id : Nat) : State :=
  let t := s.endRecords fun c => decide (c.ref = .store id)
  t.setContests { t.contests with offers := t.contests.offers.filter fun o => decide (o.inboundId ≠ id) }

/-- An INBOUND taken: its id's entry replaced, or the batch kept if there is room, and round 1 opened (R98). -/
def State.takeInbound (s : State) (f : InboundFields) (stamp : Timer) : State :=
  if 1 ≤ f.quantity ∧ f.quantity ≤ 8 ∧ stockInRange f.stock then
    let known := s.contests.offers.any fun o => decide (o.inboundId = f.inboundId)
    let t := if known then s.freeOffer f.inboundId else s
    if t.contests.offers.length < offerCapacity then
      (t.setContests { t.contests with
        offers := t.contests.offers ++ [{ inboundId := f.inboundId, stock := f.stock, quantity := f.quantity, claimed := 0,
                                          round := 1, state := .opened }] }).openRound
        { ref := .store f.inboundId, round := 1, openedAt := stamp }
    else t
  else s

/-! ### The own claim (R109 to R112) -/

/-- Take one slot of a pick claim: judged afresh, made PICK_CLAIMED, given its PICK task; false when it failed
(R110). -/
def State.takePickSlot (s : State) (line : LineRef) (slot : Nat) : State × Bool :=
  let r := (s.readSlot slot).state
  match r.lineAt line with
  | none => (r, false)
  | some l =>
    if r.pickFit l slot then
      let q := r.request slot (inStates [.occupied]) (SlotRecord.keeping .pickClaimed)
      if q.applied then
        if q.state.taskFits (.pick line) slot then (q.state.addTask (.pick line) slot, true)
        else ((q.state.request slot (inStates [.pickClaimed]) (SlotRecord.keeping .occupied)).state, false)
      else (q.state, false)
    else (r, false)

/-- Take one slot of a store claim: judged afresh, made RESERVED_IN, given its LOAD task; false when it failed
(R111). -/
def State.takeStoreSlot (s : State) (id : Nat) (tyre : StockData) (slot : Nat) : State × Bool :=
  let r := (s.readSlot slot).state
  if r.storeFit tyre.size slot then
    let q := r.request slot (inStates [.empty]) fun _ => .reserved id tyre
    if q.applied then
      if q.state.taskFits (.load id) slot then (q.state.addTask (.load id) slot, true)
      else ((q.state.request slot (inStates [.reservedIn]) fun _ => .empty).state, false)
    else (q.state, false)
  else (r, false)

/-- Take slots one after the other; the number that failed. -/
def State.takeSlots (take : State → Nat → State × Bool) : State → List Nat → State × Nat
  | s, [] => (s, 0)
  | s, n :: rest =>
    let r := take s n
    let q := State.takeSlots take r.1 rest
    (q.1, if r.2 then q.2 else q.2 + 1)

/-- Relinquish a quantity of a line, unless it is 0. -/
def State.relinquishSome (s : State) (line : LineRef) (quantity : Nat) : State :=
  if quantity = 0 then s else s.addRelinquish line quantity

/-- Report failed slots of a store claim, unless there are none (R111). -/
def State.reportFailed (s : State) (id failed : Nat) : State :=
  if failed = 0 then s else s.reportShort id failed .claim (s.receivingOf id)

/-- Ask for a receiving record for the LOAD tasks created (R76). -/
def State.askReceiving (s : State) (id created : Nat) (stamp : Timer) : State :=
  let deadline := stamp + BitVec.ofNat 32 (s.values.inboundTimeout * secondMs)
  match s.receivingOf id with
  | some _ =>
    s.setFace { s.face with receiving := s.face.receiving.map fun r =>
      if r.inboundId = id then { r with claimed := r.claimed + created, deadline := deadline } else r }
  | none =>
    if s.face.receiving.length < receivingCapacity then
      s.setFace { s.face with receiving := s.face.receiving ++
        [{ inboundId := id, claimed := created, arrived := 0, loaded := 0, deadline := deadline }] }
    else s

/-- Take the slots of a pick claim and relinquish the failures (R110). -/
def State.takePick (s : State) (line : LineRef) (slots : List Nat) : State :=
  let r := State.takeSlots (fun t n => t.takePickSlot line n) s slots
  r.1.relinquishSome line r.2

/-- Take the slots of a store claim, ask for the receiving record and report the failures (R111). -/
def State.takeStore (s : State) (id : Nat) (tyre : StockData) (slots : List Nat) (stamp : Timer) : State :=
  if s.receivingRoom id then
    let r := State.takeSlots (fun t n => t.takeStoreSlot id tyre n) s slots
    let created := slots.length - r.2
    (if created = 0 then r.1 else r.1.askReceiving id created stamp).reportFailed id r.2
  else s.reportFailed id slots.length

/-- The record of an own claim heard: CLAIMING or CLOSED with the CLAIM as its frame (R109). -/
def State.claimOwner (s : State) (c : ClaimFields) : Option Contest :=
  s.contests.records.find? fun x =>
    x.named c.ref c.round && (decide (x.state = .claiming) || decide (x.state = .closed)) && x.claimFrame.isSome

/-- Free the record of an own claim heard; a BID of it still QUEUED is withdrawn. -/
def State.freeClaimed (s : State) (c : Contest) : State :=
  let t := s.withdrawBid c
  t.setContests { t.contests with records := removeFirst (fun x => decide (x = c)) t.contests.records }

/-- This station's own CLAIM: its record takes the first k′ tentative slots and is freed; without a record it is an
orphan claim, whose slots all count as failed (R109 to R112). -/
def State.takeOwnClaim (s : State) (c : ClaimFields) (applied : Nat) (stamp : Timer) : State :=
  match s.claimOwner c with
  | some r =>
    let t := s.freeClaimed r
    if applied = 0 then t
    else
      match r.ref with
      | .pick line => t.takePick line (r.slots.take applied)
      | .store id =>
        match r.offered with
        | none => t.reportFailed id applied
        | some tyre => t.takeStore id tyre (r.slots.take applied) stamp
  | none =>
    match c.ref with
    | .pick line => s.relinquishSome line applied
    | .store id => s.reportFailed id applied

/-- The application of a CLAIM to the line or the offer (R99, R108, R122). -/
def State.applyAnyClaim (s : State) (c : ClaimFields) (own : Bool) : Applied :=
  match c.ref with
  | .pick line => s.applyClaim line c.quantity own
  | .store id => s.applyOfferClaim id c.quantity

/-- Open a round, if one opens. -/
def State.openNext (s : State) (ref : Ref) (round : Option Nat) (stamp : Timer) : State :=
  match round with
  | none => s
  | some n => s.openRound { ref := ref, round := n, openedAt := stamp }

/-- A CLAIM heard: applied, taken if own, the other records of the reference ended, and the further round opened
(R108). -/
def State.hearClaim (s : State) (f : Frame) (stamp : Timer) : State :=
  let c := claimOf f.payload
  let own := decide (f.key.station = s.own)
  let a := s.applyAnyClaim c own
  let t := if own then a.state.takeOwnClaim c a.quantity stamp else a.state
  (t.endRecords fun x => decide (x.ref = c.ref)).openNext c.ref a.opened stamp

end Sys2Proof.Machine
end

