-- ==== Sys2Proof/Machine/Wire.lean ====
section
/-! DEFINITION. A frame as bits on the bus: order of the parts, check register and inserted bits, as a transmitter sends
them and as a receiver reads them (R156, R159). `false` is dominant, `true` recessive. -/

namespace Sys2Proof.Machine

/-- The bits the check is computed over: key, length and payload, in the order they are sent (R156). -/
def messageBits (f : Frame) : List Bool :=
  bitsOf 16 (keyValue f.key) ++ bitsOf 5 f.payload.length ++ f.payload.flatMap (fun b => bitsOf 8 b.toNat)

/-- One bit through the check register: shift toward the most significant end, and combine with 4129 when the bit
shifted out differs from the message bit (R156). -/
def checkStep (register : BitVec 16) (bit : Bool) : BitVec 16 :=
  let shifted := register <<< 1
  if register.msb = bit then shifted else shifted ^^^ 4129#16

/-- The check of a bit sequence, the register starting as all ones (R156). -/
def checkOf (bits : List Bool) : BitVec 16 := bits.foldl checkStep 65535#16

/-- Insert an opposite bit after every run of five equal bits; `last` and `run` describe the bits already sent. -/
def insertBits (last : Bool) (run : Nat) : List Bool → List Bool
  | [] => []
  | b :: rest =>
    let run' := if b = last then run + 1 else 1
    if run' = 5 then b :: (!b) :: insertBits (!b) 1 rest else b :: insertBits b run' rest

/-- The coded bits of a frame from the start bit to the check (R156). The start bit is dominant
after an idle, recessive bus. -/
def codedBits (f : Frame) : List Bool :=
  insertBits true 0 (false :: messageBits f ++ bitsOf 16 (checkOf (messageBits f)).toNat)

/-- The acknowledge slot and the hold slot as the transmitter sends them: recessive (R156). -/
def slotBits : List Bool := [true, true]

/-- A frame as its transmitter sends it: the coded parts, the two slots and the end, a run of recessive bits (R156). -/
def sentBits (f : Frame) : List Bool := codedBits f ++ slotBits ++ List.replicate Config.endBits true

/-! ### What a receiver reads -/

/-- Remove the bit that stands after every run of five equal bits; none when six equal bits come in a row, which is a
FORM error (R156, R159). `last` and `run` describe the bits already read. -/
def removeInserted (last : Bool) (run : Nat) : List Bool → Option (List Bool)
  | [] => some []
  | b :: rest =>
    if run = 5 then (if b = last then none else removeInserted b 1 rest)
    else (removeInserted b (if b = last then run + 1 else 1) rest).map fun bits => b :: bits

/-- So many bytes from bits, each most significant bit first. -/
def bytesOf : Nat → List Bool → List Byte
  | 0, _ => []
  | n + 1, bits => byte (numberOf (bits.take 8)) :: bytesOf n (bits.drop 8)

/-- What a receiver makes of the coded parts of a frame. -/
inductive Reading
  | frame (f : Frame)
  | error (kind : BusError)
  deriving DecidableEq, Repr

/-- The key of 16 bits. -/
def keyOf (bits : List Bool) : Key :=
  { cls := BitVec.ofNat 3 (numberOf (bits.take 3)), field := BitVec.ofNat 8 (numberOf ((bits.drop 3).take 8)),
    station := BitVec.ofNat 5 (numberOf ((bits.drop 11).take 5)) }

/-- A receiver on the bits behind the start bit, inserted bits removed: a length above 16 is a FORM error, and a check
other than the one computed over key, length and payload a CHECK error (R156, R159). -/
def readMessage (bits : List Bool) : Reading :=
  let length := numberOf ((bits.drop 16).take 5)
  if 16 < length then .error .form
  else
    let message := bits.take (21 + 8 * length)
    if bitsOf 16 (checkOf message).toNat = bits.drop (21 + 8 * length) then
      .frame { key := keyOf bits, payload := bytesOf length (bits.drop 21) }
    else .error .check

/-- A receiver on the coded bits of a frame, from the start bit to the check (R156, R159). -/
def readCoded (bits : List Bool) : Reading :=
  match removeInserted true 0 bits with
  | none => .error .form
  | some plain => readMessage plain.tail

/-- The end part shows a dominant bit, a FORM error (R159). -/
def endBroken (bits : List Bool) : Bool := bits.any fun b => !b

end Sys2Proof.Machine
end

