-- ==== Sys2Proof/Machine/Transmission.lean ====
section
/-! DEFINITION. The Aisle Bus Port at work: the contending frame (R157, R162), retries (R164), counters and confinement
(R165 to R167), frames heard (R160, R161), and places that free (R162). -/

namespace Sys2Proof.Machine

/-! ### Contending (R157, R162) -/

/-- The frame the port contends with, by its place in the transmit queue: a SENDING frame, else the QUEUED frame the
policy chooses (R162). -/
def contenderPlace (policy : TxPolicy) (tx : List TxFrame) : Option Nat :=
  match tx.findIdx? fun t => decide (t.state = .sending) with
  | some i => some i
  | none =>
    match policy with
    | .key => (leastBy (fun (x : TxFrame × Nat) => keyValue x.1.frame.key) tx.zipIdx).map Prod.snd
    | .entry => if tx = [] then none else some 0

/-- The place of the frame the port contends with. -/
def State.contenderAt (s : State) : Option Nat := contenderPlace s.values.policy s.port.tx

/-- The frame the port contends with. -/
def State.contender (s : State) : Option TxFrame :=
  match s.contenderAt with
  | none => none
  | some i => s.port.tx[i]?

/-- The bits of the contending frame, as they go on the bus when the port drives it (R156, R166 to R168). -/
def State.contenderBits (s : State) : List Bool :=
  match s.contender with
  | none => []
  | some t => if s.drivesBus then sentBits t.frame else []

/-- Change the contending frame. -/
def State.changeContender (s : State) (f : TxFrame → TxFrame) : State :=
  match s.contenderAt with
  | none => s
  | some i =>
    match s.port.tx[i]? with
    | none => s
    | some t => s.setPort { s.port with tx := s.port.tx.set i (f t) }

/-- Take the contending frame out of the queue. -/
def State.removeContender (s : State) : State :=
  match s.contenderAt with
  | none => s
  | some i => s.setPort { s.port with tx := s.port.tx.eraseIdx i }

/-- The first record whose own BID or CLAIM is this frame learns that it is on the bus (R97, R162). -/
def Contest.onBus (own : BitVec 5) (f : Frame) (c : Contest) : Contest :=
  { c with bidFrame := if bidFrameOf own c = f ∧ c.bidFrame = some .queued then some .sending else c.bidFrame,
           claimFrame := if claimFrameOf own c = f ∧ c.claimFrame = some .queued then some .sending else c.claimFrame }

/-- The pocket entry whose INTENT has started: the QUEUED one queued first becomes ON_BUS (R126, R137). -/
def State.intentStarted (s : State) (line : LineRef) : State :=
  match s.entriesWith line .queued with
  | [] => s
  | (p, e) :: _ => s.setEntry p { e with intent := .onBus }

/-- The owner of a frame that has started is told (R97, R137, R157). -/
def State.tellStarted (s : State) (f : Frame) : State :=
  let t := s.walkRecords fun u c => (u, some (c.onBus s.own f))
  match frameKind f.key with
  | some (.intent lane) => t.intentStarted (intentLineOf lane f.payload)
  | _ => t

/-- An idle bus: the port contends; a lower key wins over it, otherwise its frame has started and is SENDING (R157). -/
def State.contend (s : State) (rival : Option Key) : State :=
  match s.contender with
  | none => s
  | some t =>
    let lost : Bool := match rival with
      | none => false
      | some k => decide (keyValue k < keyValue t.frame.key)
    if lost then s
    else if t.state = .sending then s
    else (s.changeContender fun x => { x with state := .sending }).tellStarted t.frame

/-! ### Retries (R164) -/

/-- Whether a frame is a BID. -/
def Frame.isBid (f : Frame) : Bool :=
  match frameKind f.key with
  | some (.bid _) => true
  | _ => false

/-- The frame sent has failed: its retry count rises, and a BID at its limit is given up (R107, R164). -/
def State.failContender (s : State) : State :=
  match s.contender with
  | none => s
  | some t =>
    if Frame.isBid t.frame ∧ s.values.bidRetryLimit ≤ t.retries then s.removeContender.dropBid t.frame
    else s.changeContender fun x => { x with retries := x.retries + 1 }

/-! ### Confinement (R115, R161, R165 to R168) -/

/-- The station's view of the bus is lost: every lane turns BLIND and the offer table is emptied (R98, R131). -/
def State.loseView (s : State) : State := s.blindAll.emptyOffers

/-- Whether entering OFF gives a frame up: BID, CLAIM and INTENT (R167). -/
def givenUpAtOff (f : Frame) : Bool :=
  match frameKind f.key with
  | some (.bid _) => true
  | some .claim => true
  | some (.intent _) => true
  | _ => false

/-- The INTENTs of the pocket entries are gone (R167). -/
def State.dropIntents (s : State) : State :=
  bothPockets.foldl (fun t p =>
    match (t.pocket p).entryOf with
    | none => t
    | some e => if e.intent = .queued ∨ e.intent = .onBus then t.setEntry p { e with intent := .none } else t) s

/-- Entering OFF (R167). -/
def State.enterOff (s : State) : State :=
  let t := s.contestExit
  let u := (t.setPort { t.port with tx := t.port.tx.filter fun x => !givenUpAtOff x.frame, gaps := 0 }).dropIntents
  u.loseView

/-- The counters change; the state and the WARN flag are judged again, and entering QUIET or OFF takes its effect (R115,
R166, R167). -/
def State.setCounters (s : State) (tx rx : Nat) : State :=
  let t := s.setPort (s.port.withCounters tx rx)
  if t.port.confinement = s.port.confinement then t
  else
    match t.port.confinement with
    | .active => t
    | .quiet => t.contestExit
    | .off => t.enterOff

/-- A transmit error (R165). -/
def State.transmitError (s : State) : State :=
  s.setCounters (raiseTo offErrors txErrorStep s.port.txErrors) s.port.rxErrors

/-- A receive-queue overflow while joining: the joining period restarts and the view is lost (R161, R172). -/
def State.joinOverflow (s : State) : State :=
  (s.setControl { s.control with joinSince := some s.timer }).loseView

/-- A receive error: counted; in listen-only an overflow while joining, in QUIET the view is lost and the records are
freed (R115, R161, R165). -/
def State.receiveError (s : State) : State :=
  let t := s.setCounters s.port.txErrors (raiseTo maxByteCount 1 s.port.rxErrors)
  let u := if s.listenOnly then t.joinOverflow else t
  if s.port.confinement = .quiet then u.contestExit.loseView else u

/-- An error this station detects: the sticky flag, the retry of its own frame and the counters (R159, R164, R165). -/
def State.busError (s : State) (kind : BusError) (role : BusRole) : State :=
  let t := s.setPort (s.port.stick kind)
  match role with
  | .transmitter => t.failContender.transmitError
  | .receiver => t.receiveError

/-- Another station's error mark: a transmit error for the transmitter, nothing for a receiver that found nothing wrong
(R159). -/
def State.markSeen (s : State) (role : BusRole) : State :=
  match role with
  | .transmitter => s.failContender.transmitError
  | .receiver => s

/-- A dominant hold slot: the transmitter's frame counts a retry; nothing else moves (R158, R164). -/
def State.held (s : State) (role : BusRole) : State :=
  match role with
  | .transmitter => s.failContender
  | .receiver => s

/-- A run of recessive bit times seen in OFF: one gap for every 12; at 96 gaps the port recovers (R167). -/
def State.recover (s : State) (bits : Nat) : State :=
  let gaps := s.port.gaps + bits / gapBits
  if recoveryGaps ≤ gaps then s.setPort { s.port.withCounters 0 0 with gaps := 0 }
  else s.setPort { s.port with gaps := gaps }

/-! ### Frames heard (R160, R161, R165) -/

/-- Whether a frame heard would find the receive queue full. -/
def State.wouldOverflow (s : State) (f : Frame) : Bool :=
  frameJoins s.own f && decide (rxCapacity ≤ s.port.rx.length)

/-- Whether the port drives the hold slot dominant for a frame: it would join a full receive queue, and the port drives
the bus (R158, R166 to R168). -/
def State.drivesHold (s : State) (f : Frame) : Bool := s.drivesBus && s.wouldOverflow f

/-- A success counted: the transmit counter falls for an own frame, which leaves the transmit queue; the receive counter
falls for another station's (R162, R165). -/
def State.countSuccess (s : State) (f : Frame) : State :=
  if f.key.station = s.own then
    let t := s.setPort { s.port with tx := removeFirst (fun x => decide (x.frame = f ∧ x.state = .sending)) s.port.tx }
    t.setCounters (t.port.txErrors - 1) t.port.rxErrors
  else s.setCounters s.port.txErrors (s.port.rxErrors - 1)

/-- A frame joins the receive queue with its stamp, if its kind, station and length let it (R160). -/
def State.enqueue (s : State) (f : Frame) : State :=
  if frameJoins s.own f then s.setPort { s.port with rx := s.port.rx ++ [{ frame := f, stamp := s.timer }] } else s

/-- A frame that succeeds on the bus (R160, R161; logs 10, 11): a length above 16 is a FORM error; a frame that would
join a full queue is lost in listen-only and held otherwise. -/
def State.hear (s : State) (f : Frame) : State :=
  if 16 < f.payload.length then s.busError .form .receiver
  else if s.wouldOverflow f then
    if s.listenOnly then s.joinOverflow
    else s.held (if f.key.station = s.own then .transmitter else .receiver)
  else (s.countSuccess f).enqueue f

/-! ### Places that free (R162) -/

/-- The first record that waits for a place for its second-chance CLAIM. -/
def State.waitingClaim (s : State) : Option Contest := s.contests.records.find? Contest.waiting

/-- Whether an owner other than the RELINQUISH and the REPORT waits for a place. -/
def State.ownerWaits (s : State) : Bool := s.waitingClaim.isSome || bothPockets.any s.intentWaiting

/-- Whether some owner waits for a place, the RELINQUISH and the REPORT included (R114, R162, R175). -/
def State.placeWanted (s : State) : Bool := s.ownerWaits || s.relinquishWaits || s.reportWaits

/-- Offer a freed place to the first owner that waits: second-chance CLAIMs, INTENTs of pocket 0 then 1, the RELINQUISH,
the REPORT (R162). -/
def State.offerPlace (s : State) : State :=
  if s.txRoom then
    match s.waitingClaim with
    | some c =>
      let t := s.queueFrame (claimFrameOf s.own c)
      t.setContests { t.contests with
        records := t.contests.records.map fun x => if x = c then { x with claimFrame := some .queued } else x }
    | none =>
      match bothPockets.find? s.intentWaiting with
      | some p => s.queueIntent p
      | none =>
        if s.relinquishWaits then s.queueRelinquish else s.offerReport
  else s

end Sys2Proof.Machine
end

