-- ==== Sys2Proof/Machine/Setup.lean ====
section
/-! DEFINITION. Setup frames (R171), the settling of setup values (R20, R21, R54, R64, R171), and the starts and ends of
power (R17 to R19, R169, R177). -/

namespace Sys2Proof.Machine

/-! ### The groups (10.3, chapter 9.6) -/

/-- The high or low half of byte `i`, as two distances share it (chapter 9.6, SETUP group 1). -/
def distanceAt (p : List Byte) (lane : Nat) : Nat :=
  if lane % 2 = 0 then bitField (byteAt p (9 + lane / 2)) 7 4 else bitField (byteAt p (9 + lane / 2)) 3 0

/-- A polarity bit of byte 1 of group 5: 1 is active low. -/
def activeLowAt (p : List Byte) (bit : Nat) : Bool := decide (bitField (byteAt p 1) bit bit = 1)

/-- The transmit policy of a code; a code that names none is the default (R171). -/
def policyOf (code : Nat) : TxPolicy := if code = 1 then .entry else .key

/-- Group 0: geometry and row classes. -/
def SetupValues.withGroup0 (v : SetupValues) (p : List Byte) : SetupValues :=
  { v with
    carriers := clampTo 8 48 (byteAt p 1), rows := clampTo 1 3 (byteAt p 2), columns := clampTo 1 4 (byteAt p 3),
    rowClass := Vector.ofFn fun i : Fin 3 => clampTo 0 3 (byteAt p (4 + i.val)) }

/-- Group 1: capacities and distances of the lanes. -/
def SetupValues.withGroup1 (v : SetupValues) (p : List Byte) : SetupValues :=
  { v with
    capacity := Vector.ofFn fun i : Fin 8 => clampTo 4 24 (byteAt p (1 + i.val)),
    distance := Vector.ofFn fun i : Fin 8 => clampTo 0 15 (distanceAt p i.val) }

/-- Group 2: weights, marks, window and sale limit. -/
def SetupValues.withGroup2 (v : SetupValues) (p : List Byte) : SetupValues :=
  { v with
    wD := clampTo 0 31 (byteAt p 1), wP := clampTo 0 31 (byteAt p 2), wL := clampTo 0 31 (byteAt p 3),
    wF := clampTo 0 31 (byteAt p 4), wU := clampTo 0 31 (byteAt p 5), stopMark := clampTo 4 22 (byteAt p 6),
    resumeMark := byteAt p 7, window := clampTo 0 26 (byteAt p 8), saleLimit := clampTo 52 312 (twoBytes p 9) }

/-- Group 3: times, K and the bid retry limit. -/
def SetupValues.withGroup3 (v : SetupValues) (p : List Byte) : SetupValues :=
  { v with
    bidWindow := clampTo 5 200 (byteAt p 1), dwellTimeout := clampTo 5 600 (twoBytes p 2),
    inboundTimeout := clampTo 10 900 (twoBytes p 4), agingLimit := clampTo 10 600 (twoBytes p 6),
    joinTime := clampTo 1 60 (byteAt p 8), sweepEvery := clampTo 1 15 (byteAt p 9),
    faultGrace := clampTo 10 600 (twoBytes p 10), bidRetryLimit := clampTo 0 15 (byteAt p 12) }

/-- Group 4: the drive's values. -/
def SetupValues.withGroup4 (v : SetupValues) (p : List Byte) : SetupValues :=
  { v with
    countsPerPitch := clampTo 64 4096 (twoBytes p 1), indexTolerance := clampTo 1 64 (byteAt p 3),
    normalDuty := clampTo 20 100 (byteAt p 4), slowDuty := clampTo 10 60 (byteAt p 5),
    warnLevel := clampTo 60 95 (byteAt p 6), cutLevel := clampTo 50 90 (byteAt p 7) }

/-- Group 5: polarities, weighing and the transmit policy. -/
def SetupValues.withGroup5 (v : SetupValues) (p : List Byte) : SetupValues :=
  { v with
    activeLow := { done := activeLowAt p 5, stop := activeLowAt p 4, curtain := activeLowAt p 3,
                   arrival := activeLowAt p 2, pocket0 := activeLowAt p 1, pocket1 := activeLowAt p 0 },
    weightTolerance := clampTo 5 200 (byteAt p 2), tare := clampTo 0 30000 (twoBytes p 3),
    policy := policyOf (byteAt p 5) }

/-- A SETUP frame replaces every value of its group (R171). -/
def SetupValues.withGroup (v : SetupValues) (group : Nat) (p : List Byte) : SetupValues :=
  match group with
  | 0 => v.withGroup0 p
  | 1 => v.withGroup1 p
  | 2 => v.withGroup2 p
  | 3 => v.withGroup3 p
  | 4 => v.withGroup4 p
  | 5 => v.withGroup5 p
  | _ => v

/-! ### Settling (R171) -/

/-- N reduced so that the table fits 512 positions (R171, step 1). -/
def SetupValues.fitted (v : SetupValues) : SetupValues :=
  if maxPositions < v.slots then { v with carriers := maxPositions / v.slotsPerCarrier } else v

/-- The relations between values: the resume mark (R54), the SLOW duty and the CUT level (R21). -/
def SetupValues.related (v : SetupValues) : SetupValues :=
  { v with
    resumeMark := if v.stopMark ≤ v.resumeMark then v.stopMark - 1 else v.resumeMark,
    slowDuty := min v.slowDuty v.normalDuty,
    cutLevel := if v.warnLevel ≤ v.cutLevel then v.warnLevel - 5 else v.cutLevel }

/-- The settled values (R171). -/
def SetupValues.settle (v : SetupValues) : SetupValues := v.fitted.related

/-- The face inputs have to adopt their levels again, each from the level its line shows; the curtain is taken as broken
meanwhile (R64). -/
def State.unadopt (s : State) : State :=
  (s.setFace { s.face with done := none, stop := none, curtain := none, arrival := none,
                           pocketSense := Vector.replicate 2 none,
                           debounces := s.face.debounces.anew s.timer }).setDrive
    { s.drive with curtainCause := true, curtainClearSince := none, doneSince := none }

/-- SETUP END: the values are settled and handed to the blocks, the geometry is compared, the inputs adopt anew and the
service state becomes JOINING with its timer started (R171, R172). The supply comparisons have their new levels (R33). -/
def State.settleSetup (s : State) : State :=
  let v := s.control.received.settle
  ((s.setControl { s.control with settled := v, service := .joining, joinSince := some s.timer }).setStore
    (s.store.compareGeometry v.geometry)).compareAnew.unadopt

/-! ### Starts and power (R17 to R19, R169, R177) -/

/-- The retained store after some bits have flipped while the part was not running (R9; log 4). -/
def StockStore.flipped (st : StockStore) (flips : List (Fin 512)) : StockStore :=
  { st with table := flips.foldl (fun t p => Memory.flip t p.val) st.table }

/-- A cold start: the store laid out afresh (R19, R177). -/
def State.coldStart (s : State) (stnSel : BitVec 5) (rateSel : BitVec 2) : State :=
  State.start .cold stnSel rateSel StockStore.cold s.pending

/-- A warm start: the table normalized; with the marker lost the start is a cold one (R18, R177). -/
def State.warmStart (s : State) (stnSel : BitVec 5) (rateSel : BitVec 2) (flips : List (Fin 512)) : State :=
  match s.store.marker with
  | .lost => s.coldStart stnSel rateSel
  | .intact _ => (State.start .warm stnSel rateSel (s.store.flipped flips) s.pending).normalize

/-- The part stops: nothing but the retained store is kept; what is lost is set to its values at reset (R177, log 22). -/
def State.stopped (s : State) (power : Power) : State :=
  { State.reset with store := s.store, pending := s.pending, power := power }

/-- The retained store is left without supply: the marker is lost, with the part unpowered (R17). -/
def State.markerLost (s : State) : State :=
  (s.stopped .unpowered).setStore { s.store with marker := .lost }

end Sys2Proof.Machine
end

