-- ==== Sys2Proof/Machine/Settle.lean ====
section
/-! DEFINITION. What every command ends with: the consequences that are told to the other blocks within the same step
(95_what_each_step_holds.md; log 8), the hand-over of the frame at the head of the receive queue (R160), and the frame
around a command of a running part. -/

namespace Sys2Proof.Machine

/-- Scanning is suspended while the drive is MOVING, SETTLING or HOMING: every position UNKNOWN with run count 0 (R62). The
cycles begin afresh after it (log 55). -/
def State.suspendScan (s : State) : State :=
  if s.scanning then s
  else s.setFace { s.face with
    image := s.face.image.map fun p => { p with debounced := .unknown, run := 0 }, lastScan := none }

/-- The frame at the head of the receive queue leaves once its owner has finished with it, which is not before the
computations it opened (R82, R160, log 7). -/
def State.releaseHead (s : State) : State :=
  if s.port.headBusy ∧ s.contests.computing = none ∧ s.contests.considering = [] then
    s.setPort { s.port with rx := s.port.rx.tail, headBusy := false }
  else s

/-- The RELINQUISH and the REPORT are offered when no other owner waits for a place (R114, R162, R175). -/
def State.offerRest (s : State) : State := if s.ownerWaits then s else s.queueRelinquish.offerReport

/-- The planner's part of the end of a step: the stop choice, or a retarget for new candidates (R46, R51). -/
def State.plan (before s : State) : State := State.retarget before s.chooseNext

/-- The end of a step: LOAD tasks handed over are relocated, waiting rounds considered, the open dwell refreshed and
tested, the planner asked, scanning suspended where the drive turns, the lamps taking their states, news for TOWER_STATE
noted, the frame in hand released, and RELINQUISH and REPORT offered. `before` is the state at the step's start (log 8). -/
def State.settle (before s : State) : State :=
  let faced := s.relocateAll.considerRounds.refreshDwell.testCompletion
  let planned := State.takeLamps before (State.plan before faced).suspendScan
  ((State.noteNews before planned).releaseHead).offerRest

/-- A command of a running part: its own effect, then the end of the step. A part that does not run takes no command
but a start or a change of power (R177). -/
def State.during (s : State) (effect : State → State) : State :=
  if s.isRunning then State.settle s (effect s) else s

/-- Whether the service state is SETUP_WAIT, in which blocks discard their frames (R170). -/
def State.inSetupWait (s : State) : Bool := decide (s.control.service = .setupWait)

/-- The frame at the head of the receive queue, if it is of the kind a command hands over and not in hand already. -/
def State.headFor (s : State) (kind : FrameKind → Bool) : Option Heard :=
  if s.port.headBusy then none
  else
    match s.port.rx with
    | [] => none
    | h :: _ =>
      match frameKind h.frame.key with
      | none => none
      | some k => if kind k then some h else none

/-- The hand-over of the frame at the head to its owner, who discards it where `taken` says no; the frame then leaves
when its owner has finished (R160, log 6). Frames heard before OFF are handed over in OFF too (log 47). -/
def State.handOver (s : State) (kind : FrameKind → Bool) (taken : Bool) (owner : Heard → State → State) : State :=
  match s.headFor kind with
  | none => s
  | some h =>
    let t := if taken then owner h s else s
    t.setPort { t.port with headBusy := true }

/-! ### The kinds of frame a command hands over -/

def FrameKind.isHalt (k : FrameKind) : Bool := decide (k = .halt)
def FrameKind.isResume (k : FrameKind) : Bool := decide (k = .resume)
def FrameKind.isCalendar (k : FrameKind) : Bool := decide (k = .calendar)
def FrameKind.isSetupEnd (k : FrameKind) : Bool := decide (k = .setupEnd)
def FrameKind.isAdjust (k : FrameKind) : Bool := decide (k = .adjust)
def FrameKind.isPark (k : FrameKind) : Bool := decide (k = .park)
def FrameKind.isAudit (k : FrameKind) : Bool := decide (k = .audit)
def FrameKind.isOrder (k : FrameKind) : Bool := decide (k = .order)
def FrameKind.isInbound (k : FrameKind) : Bool := decide (k = .inbound)
def FrameKind.isClaim (k : FrameKind) : Bool := decide (k = .claim)
def FrameKind.isRelinquish (k : FrameKind) : Bool := decide (k = .relinquish)

def FrameKind.isSetup : FrameKind → Bool
  | .setup _ => true
  | _ => false

def FrameKind.isReport : FrameKind → Bool
  | .report _ => true
  | _ => false

def FrameKind.isBid : FrameKind → Bool
  | .bid _ => true
  | _ => false

def FrameKind.isIntent : FrameKind → Bool
  | .intent _ => true
  | _ => false

def FrameKind.isBayClear : FrameKind → Bool
  | .bayClear _ => true
  | _ => false

def FrameKind.isLaneIdle : FrameKind → Bool
  | .laneIdle _ => true
  | _ => false

end Sys2Proof.Machine
end

