-- ==== Sys2Proof/Machine/PowerFamily.lean ====
section
/-! DEFINITION. The commands of power and starts: WARM_START, COLD_START, STANDBY, RESET_ASSERT, MARKER_LOST. -/

namespace Sys2Proof.Machine

/-- A state as a next state. -/
def State.goOn (s : State) : Host.Outcome State Fault Refusal := .next s

/-- WARM_START (R177): straps read, start values, table normalized, SETUP_WAIT with its TOWER_STATE offered. -/
def execWarmStart (stnSel : BitVec 5) (rateSel : BitVec 2) (flips : List (Fin 512)) (s : State) :
    Host.Outcome State Fault Refusal :=
  (State.settle (s.warmStart stnSel rateSel flips) (s.warmStart stnSel rateSel flips)).goOn

/-- COLD_START (R19, R177): straps read, start values, table laid out afresh, SETUP_WAIT with its TOWER_STATE offered. -/
def execColdStart (stnSel : BitVec 5) (rateSel : BitVec 2) (s : State) : Host.Outcome State Fault Refusal :=
  (State.settle (s.coldStart stnSel rateSel) (s.coldStart stnSel rateSel)).goOn

/-- STANDBY (R177): every block stops; only the retained store is kept. An unpowered part stays unpowered. -/
def execStandby (s : State) : Host.Outcome State Fault Refusal :=
  (if s.power = .unpowered then s else s.stopped .standby).goOn

/-- RESET_ASSERT (R177): the part stops as in standby, the retained store running from the main supply. Without the main
supply there is nothing to stop. -/
def execResetAssert (s : State) : Host.Outcome State Fault Refusal :=
  (if s.power = .running ∨ s.power = .resetHeld then s.stopped .resetHeld else s).goOn

/-- MARKER_LOST (R17): the retained store is left without supply. -/
def execMarkerLost (s : State) : Host.Outcome State Fault Refusal := s.markerLost.goOn

end Sys2Proof.Machine
end

