-- ==== Sys2Proof/Machine/AuditFamily.lean ====
section
/-! DEFINITION. AUDIT_SCAN: the comparison (R143 to R147), the relocations (R148, R149), the weight check (R150, R151), the
sweep (R153, R154), the task-stop run (R49) and the answer to the Face Unit (R66). -/

namespace Sys2Proof.Machine

/-- What a slot's comparison finds: the record to write, and the kind of its discrepancy record, if it makes one. -/
structure Finding where
  new : SlotRecord
  kind : Option DiscrepancyKind
  deriving DecidableEq, Repr

/-- The table of R144; none where the slot agrees or is left unchanged. -/
def findingOf (r : SlotRecord) (present : Bool) : Option Finding :=
  match r.state, present with
  | .empty, true => some { new := .suspect .unknown, kind := some .stray }
  | .empty, false => none
  | .occupied, false => some { new := r.missing, kind := some .phantom }
  | .occupied, true => none
  | .pickClaimed, false => some { new := r.missing, kind := some .phantom }
  | .pickClaimed, true => none
  | .outbound, true => some { new := .suspect .unknown, kind := some .double }
  | .outbound, false => none
  | .reservedIn, true => some { new := .suspect .unknown, kind := some .early }
  | .reservedIn, false => none
  | .suspect, _ =>
    if r.reason = some .unverified then
      some (if present then { new := .suspect .unknown, kind := some .unverifiedFound } else { new := .empty, kind := none })
    else none
  | .retired, _ => none

/-- Whether a record counts as unknown for the weight check, before the comparison (R151). -/
def SlotRecord.unweighedBefore (r : SlotRecord) : Bool :=
  decide (r.state = .suspect) && (decide (r.reason = some .unknown) || decide (r.reason = some .unverified))

/-- Whether a record counts as unknown for the weight check, after the relocations (R151). -/
def SlotRecord.unweighedAfter (r : SlotRecord) : Bool := decide (r.state = .suspect) && decide (r.reason = some .unknown)

/-- The comparison so far: the state, the discrepancy records made, and whether some slot was unknown before. -/
structure Comparison where
  state : State
  found : Nat
  unknown : Bool

/-- Compare one slot with its value in the scan (R143, R144). -/
def Comparison.slot (c : Comparison) (slot : Nat) (present : Bool) : Comparison :=
  let r := c.state.readSlot slot
  let corrupt := if r.converted then 1 else 0
  let unknown := c.unknown || r.record.unweighedBefore
  match findingOf r.record present with
  | none => { state := r.state, found := c.found + corrupt, unknown := unknown }
  | some f =>
    let q := r.state.request slot (fun x => decide (x = r.record)) fun _ => f.new
    match f.kind with
    | none => { state := q.state, found := c.found + corrupt, unknown := unknown }
    | some k =>
      { state := q.state.writeReport (.discrepancy k (.slot slot) r.record.book q.applied none none),
        found := c.found + corrupt + 1, unknown := unknown }

/-- Compare the slots of the carrier in order of slot number (R142, step 1). -/
def Comparison.slots : Comparison → Nat → List Bool → Comparison
  | c, _, [] => c
  | c, slot, present :: rest => Comparison.slots (c.slot slot present) (slot + 1) rest

/-- The slots of a carrier. -/
def SetupValues.slotsOf (v : SetupValues) (carrier : Nat) : List Nat :=
  (List.range v.slotsPerCarrier).map fun i => carrier * v.slotsPerCarrier + i

/-- The weight a slot adds to the expected weight (R150). -/
def SlotRecord.weighs (r : SlotRecord) : Nat :=
  if r.state = .occupied ∨ r.state = .pickClaimed then
    match r.stock with
    | none => 0
    | some d => d.weight
  else 0

/-- The expected weight of a carrier (R150). -/
def State.expectedWeight (s : State) (carrier : Nat) : Nat :=
  s.values.tare + sumBy (fun n => (s.recordAt n).weighs) (s.values.slotsOf carrier)

/-- How far two weights lie apart. -/
def weightGap (a b : Nat) : Nat := (a - b) + (b - a)

/-- Set a carrier's weight mark. -/
def State.setMark (s : State) (carrier : Nat) (mark : WeightMark) : State :=
  s.setAudit { s.audit with marks := s.audit.marks.setIfInBounds carrier mark }

/-- The weight check (R151), and the discrepancy records it makes. -/
def State.weigh (s : State) (scan : Scan) (unknown : Bool) : State × Nat :=
  let expected := s.expectedWeight scan.carrier
  if unknown || (s.values.slotsOf scan.carrier).any fun n => (s.recordAt n).unweighedAfter then
    (s.setMark scan.carrier .notChecked, 0)
  else if scan.reading = noReading then
    ((s.setMark scan.carrier .notChecked).writeReport
      (.discrepancy .weight (.carrier scan.carrier) .absent false none (some expected)), 1)
  else if s.values.weightTolerance < weightGap scan.reading expected then
    ((s.setMark scan.carrier .mismatch).writeReport
      (.discrepancy .weight (.carrier scan.carrier) .absent false (some scan.reading) (some expected)), 1)
  else (s.setMark scan.carrier .ok, 0)

/-- The removal of the carrier from the sweep set, the counters and AUDIT_DONE (R153, R154). -/
def State.sweepOff (s : State) (carrier found : Nat) : State :=
  let sweep := s.audit.sweep.filter fun c => decide (c ≠ carrier)
  let scanned := raiseTo maxByteCount 1 s.audit.scanned
  let total := raiseTo maxByteCount found s.audit.found
  if sweep = [] then
    (s.setAudit { s.audit with sweep := [], scanned := 0, found := 0 }).writeReport (.auditDone scanned total)
  else s.setAudit { s.audit with sweep := sweep, scanned := scanned, found := total }

/-- The task-stop run after a settle scan: 0 for a sweep stop, one more for a task stop (R49). -/
def State.countStop (s : State) (swept hadDue : Bool) : State :=
  s.setPlanner { s.planner with
    stopRun := if swept then 0 else if hadDue then raiseTo maxStopRun 1 s.planner.stopRun else s.planner.stopRun }

/-- The positions where the debounced image differs from the settle scan (R66). -/
def State.differences (s : State) (image : List Bool) : List (Nat × Bool) :=
  (s.places.filter fun i =>
    decide ((s.face.image[i]).debounced ≠ .unknown) && decide (image[i.val]? ≠ some (s.face.image[i]).value)).map
    fun i => (i.val, (s.face.image[i]).value)

/-- The answer to the Face Unit: an open dwell on the carrier in SCANNING enters WORKING, lights its due tasks, takes the
changes since the settle scan and is tested for completion (R66). -/
def State.answerFace (s : State) (scan : Scan) : State :=
  match s.face.dwell with
  | none => s
  | some d =>
    if d.phase = .scanning ∧ d.carrier = scan.carrier then
      let t := (s.setDwell (some { d with phase := .working, scan := scan.image })).refreshDwell
      ((t.differences scan.image).foldl (fun u c => u.presenceChange c.1 c.2) t).testCompletion
    else s

/-- One settle scan worked through (R142). -/
def State.auditScan (s : State) (scan : Scan) : State :=
  let c := Comparison.slots { state := s, found := 0, unknown := false } (scan.carrier * s.values.slotsPerCarrier)
    scan.image
  let w := c.state.relocateAll.weigh scan c.unknown
  let swept := w.1.audit.sweep.contains scan.carrier
  let t := if swept then w.1.sweepOff scan.carrier (c.found + w.2) else w.1
  (t.countStop swept scan.hadDue).answerFace scan

/-- The first scan handed over is worked. -/
def State.workScan (s : State) : State :=
  match s.audit.scans with
  | [] => s
  | scan :: rest => (s.setAudit { s.audit with scans := rest }).auditScan scan

/-- AUDIT_SCAN (R142). -/
def execAuditScan (s : State) : Host.Outcome State Fault Refusal := (s.during State.workScan).goOn

end Sys2Proof.Machine
end

