-- ==== Sys2Proof/Machine/BusFamily.lean ====
section
/-! DEFINITION. The commands of the Aisle Bus Port: FRAME_HEARD, IDLE_BUS_CONTEND, BUS_ERROR, ERROR_MARK_SEEN, FRAME_HELD,
OFF_RECOVERY, TX_PLACE_FREED. -/

namespace Sys2Proof.Machine

/-- FRAME_HEARD (R160, R161): nothing while the port takes no part in the bus (R167, R168). -/
def execFrameHeard (frame : Frame) (s : State) : Host.Outcome State Fault Refusal :=
  (s.during fun t => if t.onBus then t.hear frame else t).goOn

/-- IDLE_BUS_CONTEND (R157, R162): nothing in listen-only, in OFF or with refused straps (R167, R168). -/
def execIdleBusContend (rival : Option Key) (s : State) : Host.Outcome State Fault Refusal :=
  (s.during fun t => if t.drivesBus then t.contend rival else t).goOn

/-- BUS_ERROR (R159, R164 to R166). -/
def execBusError (kind : BusError) (role : BusRole) (s : State) : Host.Outcome State Fault Refusal :=
  (s.during fun t => if t.onBus then t.busError kind role else t).goOn

/-- ERROR_MARK_SEEN (R159, R164 to R166). -/
def execErrorMarkSeen (role : BusRole) (s : State) : Host.Outcome State Fault Refusal :=
  (s.during fun t => if t.onBus then t.markSeen role else t).goOn

/-- FRAME_HELD (R158, R164). -/
def execFrameHeld (role : BusRole) (s : State) : Host.Outcome State Fault Refusal :=
  (s.during fun t => if t.onBus then t.held role else t).goOn

/-- OFF_RECOVERY (R167): only in OFF are idle gaps counted. -/
def execOffRecovery (recessiveBits : Nat) (s : State) : Host.Outcome State Fault Refusal :=
  (s.during fun t => if t.port.confinement = .off then t.recover recessiveBits else t).goOn

/-- TX_PLACE_FREED (R162): the freed place goes to the first owner that waits. -/
def execTxPlaceFreed (s : State) : Host.Outcome State Fault Refusal := (s.during State.offerPlace).goOn

end Sys2Proof.Machine
end

