-- ==== Sys2Proof/Machine/ContestFamily.lean ====
section
/-! DEFINITION. The commands of contests: INBOUND, BID, CLAIM, COMPUTATION_RESULT, WINDOW_END, SECOND_CHANCE. -/

namespace Sys2Proof.Machine

/-- INBOUND (R98). -/
def execInbound (s : State) : Host.Outcome State Fault Refusal :=
  (s.during fun t => t.handOver FrameKind.isInbound (!t.inSetupWait) fun h u =>
    u.takeInbound (inboundOf h.frame.payload) h.stamp).goOn

/-- BID (R103, R104). -/
def execBid (s : State) : Host.Outcome State Fault Refusal :=
  (s.during fun t => t.handOver FrameKind.isBid (!t.inSetupWait) fun h u => u.hearBid h.frame).goOn

/-- CLAIM (R99, R108 to R112, R122). -/
def execClaim (s : State) : Host.Outcome State Fault Refusal :=
  (s.during fun t => t.handOver FrameKind.isClaim (!t.inSetupWait) fun h u => u.hearClaim h.frame h.stamp).goOn

/-- COMPUTATION_RESULT (R95, R102): the result of the computation in progress is handed over. -/
def execComputationResult (s : State) : Host.Outcome State Fault Refusal := (s.during State.takeResult).goOn

/-- WINDOW_END (R105): every window that has run out ends. -/
def execWindowEnd (s : State) : Host.Outcome State Fault Refusal :=
  (s.during fun t => t.walkRecords State.windowEnd).goOn

/-- SECOND_CHANCE (R106): every second chance that is due is taken. -/
def execSecondChance (s : State) : Host.Outcome State Fault Refusal := (s.during State.secondChances).goOn

end Sys2Proof.Machine
end

