-- ==== Sys2Proof/Machine/ControlFamily.lean ====
section
/-! DEFINITION. The commands of Station Control and the frames of the store computer to single blocks: HALT, RESUME,
CALENDAR, SETUP, SETUP_END, JOIN_TIMEOUT, REPORT_HEARD, ADJUST, PARK, AUDIT. -/

namespace Sys2Proof.Machine

/-- The halt flag is set: a turning loop is held, and QUEUED INTENTs are withdrawn (R35, R137, R173). -/
def State.setHalt (s : State) : State :=
  if s.control.halt then s
  else bothPockets.foldl State.withdrawIntent (s.setControl { s.control with halt := true }).holdIfTurning

/-- HALT (R173). -/
def execHalt (s : State) : Host.Outcome State Fault Refusal :=
  (s.during fun t => t.handOver FrameKind.isHalt (!t.inSetupWait) fun _ u => u.setHalt).goOn

/-- The halt flag is cleared: the drive resumes if it may, and waiting INTENTs are queued, pocket 0 first (R36, R137,
R173; log 46). -/
def State.clearHalt (s : State) : State :=
  if s.control.halt then
    bothPockets.foldl State.queueIntent (s.setControl { s.control with halt := false }).tryResume
  else s

/-- RESUME (R173). -/
def execResume (s : State) : Host.Outcome State Fault Refusal :=
  (s.during fun t => t.handOver FrameKind.isResume (!t.inSetupWait) fun _ u => u.clearHalt).goOn

/-- The store week is set to the week a CALENDAR carries (R174). -/
def State.setWeek (s : State) (week : Nat) : State := s.setControl { s.control with week := week }

/-- CALENDAR (R174). -/
def execCalendar (s : State) : Host.Outcome State Fault Refusal :=
  (s.during fun t => t.handOver FrameKind.isCalendar (!t.inSetupWait) fun h u =>
    u.setWeek (twoBytes h.frame.payload 0)).goOn

/-- A SETUP frame replaces the received values of its group (R171). -/
def State.takeSetup (s : State) (f : Frame) : State :=
  s.setControl { s.control with received := s.control.received.withGroup f.key.field.toNat f.payload }

/-- SETUP (R170, R171): used in SETUP_WAIT, discarded in every other service state. -/
def execSetup (s : State) : Host.Outcome State Fault Refusal :=
  (s.during fun t => t.handOver FrameKind.isSetup t.inSetupWait fun h u => u.takeSetup h.frame).goOn

/-- SETUP_END (R170, R171, R172). -/
def execSetupEnd (s : State) : Host.Outcome State Fault Refusal :=
  (s.during fun t => t.handOver FrameKind.isSetupEnd t.inSetupWait fun _ u => u.settleSetup).goOn

/-- Whether the joining timer has run out (R172). -/
def State.joiningOver (s : State) : Bool :=
  decide (s.control.service = .joining) && match s.control.joinSince with
    | none => false
    | some t => s.reached t (s.values.joinTime * secondMs)

/-- Joining ends: STARTING, and the drive is asked to home (R172). -/
def State.endJoining (s : State) : State :=
  (s.setControl { s.control with service := .starting, joinSince := none }).startHoming

/-- JOIN_TIMEOUT (R172). -/
def execJoinTimeout (s : State) : Host.Outcome State Fault Refusal :=
  (s.during fun t => if t.joiningOver then t.endJoining else t).goOn

/-- This station's own REPORT has gone: the log record it carried leaves the log (R175). -/
def State.reportGone (s : State) : State :=
  s.setControl { s.control with
    log := if s.control.reportOut = some .logRecord then s.control.log.tail else s.control.log, reportOut := none }

/-- REPORT_HEARD (R160, R175): taken in every service state (log 20). -/
def execReportHeard (s : State) : Host.Outcome State Fault Refusal :=
  (s.during fun t => t.handOver FrameKind.isReport true fun _ u => u.reportGone).goOn

/-- ADJUST (R12 to R16). -/
def execAdjust (s : State) : Host.Outcome State Fault Refusal :=
  (s.during fun t => t.handOver FrameKind.isAdjust (!t.inSetupWait) fun h u =>
    u.applyAdjust (adjustOf h.frame.payload)).goOn

/-- A PARK with a carrier below N sets the park target; another leaves it (R50). -/
def State.takePark (s : State) (carrier : Nat) : State :=
  if carrier < s.values.carriers then s.setPlanner { s.planner with parkTarget := some carrier } else s

/-- PARK (R50). -/
def execPark (s : State) : Host.Outcome State Fault Refusal :=
  (s.during fun t => t.handOver FrameKind.isPark (!t.inSetupWait) fun h u => u.takePark (byteAt h.frame.payload 1)).goOn

/-- The carriers from first to last, wrapping past N − 1 (R152). -/
def SetupValues.carrierRange (v : SetupValues) (first last : Nat) : List Nat :=
  (List.range v.carriers).filter fun c =>
    if first ≤ last then decide (first ≤ c) && decide (c ≤ last) else decide (first ≤ c) || decide (c ≤ last)

/-- An AUDIT adds its carriers to the sweep set, each once; one with a carrier of N or above is ignored (R152). -/
def State.takeAudit (s : State) (first last : Nat) : State :=
  if first < s.values.carriers ∧ last < s.values.carriers then
    s.setAudit { s.audit with
      sweep := s.audit.sweep ++ (s.values.carrierRange first last).filter fun c => !(s.audit.sweep.contains c) }
  else s

/-- AUDIT (R152). -/
def execAudit (s : State) : Host.Outcome State Fault Refusal :=
  (s.during fun t => t.handOver FrameKind.isAudit (!t.inSetupWait) fun h u =>
    u.takeAudit (byteAt h.frame.payload 1) (byteAt h.frame.payload 2)).goOn

end Sys2Proof.Machine
end

