-- ==== Sys2Proof/Machine/DriveFamily.lean ====
section
/-! DEFINITION. The commands of the Carousel Drive and of its causes: ENCODER_COUNT, INDEX_EDGE, STALL_TIMEOUT,
SETTLE_REST_TIMEOUT, HOMING_REST_TIMEOUT, HOLD_REST_TIMEOUT, CURTAIN_CLEAR_TIMEOUT, SUPPLY_CLEAR_TIMEOUT,
SUPPLY_LEVEL_CHANGE, DONE_HOLD_TIMEOUT, STOP_LEVEL_CHANGE, CURTAIN_CHANGE, and the planner's FAULT_GRACE_TIMEOUT. -/

namespace Sys2Proof.Machine

/-- ENCODER_COUNT (R22 to R26, R29, R30, R36, R38). -/
def execEncoderCount (direction : Direction) (s : State) : Host.Outcome State Fault Refusal :=
  (s.during fun t => t.count direction).goOn

/-- INDEX_EDGE (R23, R24, R29, R32, R38). -/
def execIndexEdge (homeFlag : Bool) (s : State) : Host.Outcome State Fault Refusal :=
  (s.during fun t => t.edge homeFlag).goOn

/-- Whether the stall interval has run out (R26). -/
def State.stallDue (s : State) : Bool := s.drive.dutyApplied && s.reached s.drive.stallSince stallMs

/-- STALL_TIMEOUT (R26, R39). -/
def execStallTimeout (s : State) : Host.Outcome State Fault Refusal :=
  (s.during fun t => if t.stallDue then t.enterFault .stall else t).goOn

/-- Whether the rest interval of SETTLING has run out (R30). -/
def State.settleDue (s : State) : Bool := decide (s.drive.state = .settling) && s.reached s.drive.restSince restMs

/-- SETTLE_REST_TIMEOUT (R30). -/
def execSettleRestTimeout (s : State) : Host.Outcome State Fault Refusal :=
  (s.during fun t => if t.settleDue then t.settled else t).goOn

/-- Whether the rest interval after the home edge has run out (R38). -/
def State.homingDue (s : State) : Bool :=
  decide (s.drive.state = .homing) && s.drive.homeFound && s.reached s.drive.restSince restMs

/-- HOMING_REST_TIMEOUT (R38). -/
def execHomingRestTimeout (s : State) : Host.Outcome State Fault Refusal :=
  (s.during fun t => if t.homingDue then t.homingRested else t).goOn

/-- HOLD_REST_TIMEOUT (R36, R37). -/
def execHoldRestTimeout (s : State) : Host.Outcome State Fault Refusal := (s.during State.tryResume).goOn

/-- Whether the curtain has read clear for 1 s (R35). -/
def State.curtainDue (s : State) : Bool :=
  s.drive.curtainCause && match s.drive.curtainClearSince with
    | none => false
    | some t => s.reached t curtainClearMs

/-- CURTAIN_CLEAR_TIMEOUT (R35, R36). -/
def execCurtainClearTimeout (s : State) : Host.Outcome State Fault Refusal :=
  (s.during fun t =>
    if t.curtainDue then (t.setDrive { t.drive with curtainCause := false, curtainClearSince := none }).tryResume
    else t).goOn

/-- Whether the live CUT level has read above for 500 ms (R35). -/
def State.supplyDue (s : State) : Bool :=
  s.drive.supplyCause && match s.drive.supplyClearSince with
    | none => false
    | some t => s.reached t supplyClearMs

/-- SUPPLY_CLEAR_TIMEOUT (R35, R36). -/
def execSupplyClearTimeout (s : State) : Host.Outcome State Fault Refusal :=
  (s.during fun t =>
    if t.supplyDue then (t.setDrive { t.drive with supplyCause := false, supplyClearSince := none }).tryResume
    else t).goOn

/-- The active profile after the request may have changed: at once while the loop is stationary, at the next edge while
MOVING (R32). -/
def Drive.followRequest (d : Drive) : Drive := if d.state = .moving then d else { d with active := d.requested }

/-- The live WARN level changes (R32 to R34). -/
def State.warnLevel (s : State) (below : Bool) : State :=
  if s.drive.warnBelow = below then s
  else
    let fresh := below && !s.drive.stickyWarn
    let d : Drive := { s.drive with warnBelow := below, stickyWarn := s.drive.stickyWarn || below }
    let t := s.setDrive d.followRequest
    if fresh then t.setPendingFlag else t

/-- The live CUT level changes: a fall brings the supply cause, a rise starts its clearing time (R33 to
R36). -/
def State.cutLevel (s : State) (below : Bool) : State :=
  if s.drive.cutBelow = below then s
  else if below then
    let d : Drive := { s.drive with cutBelow := true, stickyCut := true, supplyCause := true, supplyClearSince := none }
    let t := s.setDrive d
    (if s.drive.stickyCut then t else t.setPendingFlag).holdIfTurning
  else s.setDrive { s.drive with cutBelow := false, supplyClearSince := some s.timer }

/-- A live level changes (R33). -/
def State.liveLevel (s : State) (level : SupplyLevel) (below : Bool) : State :=
  match level with
  | .warn => s.warnLevel below
  | .cut => s.cutLevel below

/-- A comparison reads SUPPLY_SENSE: a reading opposite to the live level that has held for 2 ms changes that level, and
any other one stands with its filter (R33). -/
def State.supplyLevel (s : State) (level : SupplyLevel) (sense : Nat) : State :=
  if s.readsOpposite level sense ∧ s.filterDue level then
    (s.setDrive (s.drive.setFilter level { sense := sense, since := none })).liveLevel level (s.senseBelow level sense)
  else s.holdReading level sense

/-- SUPPLY_LEVEL_CHANGE (R33, R34, R35). -/
def execSupplyLevelChange (level : SupplyLevel) (sense : Nat) (s : State) : Host.Outcome State Fault Refusal :=
  (s.during fun t => t.supplyLevel level sense).goOn

/-- Whether DONE has been held for 2 s in FAULT (R40). -/
def State.doneHeld (s : State) : Bool :=
  decide (s.drive.state = .fault) && match s.drive.doneSince with
    | none => false
    | some t => s.reached t doneHoldMs

/-- DONE_HOLD_TIMEOUT (R38, R40). -/
def execDoneHoldTimeout (s : State) : Host.Outcome State Fault Refusal :=
  (s.during fun t => if t.doneHeld then t.startHoming else t).goOn

/-- The debounced STOP input takes a level (R35, R36, R64). -/
def State.stopLevel (s : State) (active : Bool) : State :=
  let t := s.setFace { s.face with stop := some active }
  if active then t.holdIfTurning else t.tryResume

/-- STOP_LEVEL_CHANGE (R35, R64). -/
def execStopLevelChange (high : Bool) (s : State) : Host.Outcome State Fault Refusal :=
  (s.during fun t => t.debounced .stop high State.stopLevel).goOn

/-- The debounced curtain input takes a level: broken brings the cause into force, clear starts its clearing time (R35,
R64). -/
def State.curtainLevel (s : State) (broken : Bool) : State :=
  if s.face.curtain = some broken then s
  else
    let t := s.setFace { s.face with curtain := some broken }
    if broken then (t.setDrive { t.drive with curtainCause := true, curtainClearSince := none }).holdIfTurning
    else t.setDrive { t.drive with curtainClearSince := some t.timer }

/-- CURTAIN_CHANGE (R35, R64). -/
def execCurtainChange (high : Bool) (s : State) : Host.Outcome State Fault Refusal :=
  (s.during fun t => t.debounced .curtain high State.curtainLevel).goOn

/-- Whether the fault grace has run out (R58). -/
def State.graceDue (s : State) : Bool :=
  decide (s.control.service = .outOfService) && match s.planner.graceSince with
    | none => false
    | some t => s.reached t (s.values.faultGrace * secondMs)

/-- The lines of the PICK tasks in the queue, in queue order, one for each task. -/
def State.pickLines (s : State) : List LineRef :=
  s.planner.queue.filterMap fun t => match t.work with
    | .pick l => some l
    | .load _ => none
    | .restore _ => none

/-- The fault grace runs out: every PICK task is cancelled, and one relinquish is made for each line, in the queue order
of its oldest cancelled task (R57, R58). -/
def State.graceRunOut (s : State) : State :=
  let lines := s.pickLines
  let t := (s.setPlanner { s.planner with graceSince := none }).cancelPicks fun _ => true
  lines.eraseDups.foldl (fun u l => u.addRelinquish l (lines.count l)) t

/-- FAULT_GRACE_TIMEOUT (R58). -/
def execFaultGraceTimeout (s : State) : Host.Outcome State Fault Refusal :=
  (s.during fun t => if t.graceDue then t.graceRunOut else t).goOn

end Sys2Proof.Machine
end

