-- ==== Sys2Proof/Machine/FaceFamily.lean ====
section
/-! DEFINITION. The commands of the face: SCAN_CYCLE, DONE_EDGE, DONE_RELEASE, DWELL_TIMEOUT, ARRIVAL,
INBOUND_DEADLINE. -/

namespace Sys2Proof.Machine

/-- What the presence matrix and the load pin would give is shown (R61, R150; log 55). -/
def State.showView (s : State) (returns : BitVec 12) (loadPin : BitVec 16) : State :=
  s.setFace { s.face with view := some { returns := returns, loadPin := loadPin } }

/-- SCAN_CYCLE (R61 to R63, R66, R69 to R72): a cycle is made where one is due. Bits that have flipped since the last one are
entered first (log 4). -/
def execScanCycle (returns : BitVec 12) (loadPin : BitVec 16) (flips : List (Fin 512)) (s : State) :
    Host.Outcome State Fault Refusal :=
  (s.during fun t =>
    let u := (t.setStore (t.store.flipped flips)).showView returns loadPin
    if u.scanDue then u.scanFace returns loadPin else u).goOn

/-- Close the open dwell if it is in phase WORKING (R73). -/
def State.doneDwell (s : State) : State :=
  match s.face.dwell with
  | none => s
  | some d => if d.phase = .working then s.closeDwell else s

/-- DONE becomes active: in FAULT its hold is timed from here; an edge, which an adopted first level is not, ends a dwell
in phase WORKING (R40, R64, R73). -/
def State.donePressed (s : State) : State :=
  if s.face.done = some true then s
  else
    let t := s.setFace { s.face with done := some true }
    let u := if t.drive.state = .fault then t.setDrive { t.drive with doneSince := some t.timer } else t
    if s.face.done = some false then u.doneDwell else u

/-- DONE becomes inactive: the 2 s timing stops (R40). -/
def State.doneReleased (s : State) : State :=
  (s.setFace { s.face with done := some false }).setDrive { s.drive with doneSince := none }

/-- The command that a level of the line DONE_IN is: the polarity of setup group 5 says whether the input is
active at that level, and the table has a command for each of the two (R64; log 24). -/
def State.doneCommand (s : State) (high : Bool) : Instr :=
  if inputActive s.values.activeLow.done high then .doneEdge else .doneRelease

/-- The debounced DONE takes a level (R64). -/
def State.doneLevel (s : State) (active : Bool) : State := if active then s.donePressed else s.doneReleased

/-- The level at which the line DONE_IN makes the input active, or inactive (R64). -/
def State.doneLine (s : State) (active : Bool) : Bool := inputActive s.values.activeLow.done active

/-- DONE_EDGE (R40, R64, R73). -/
def execDoneEdge (s : State) : Host.Outcome State Fault Refusal :=
  (s.during fun t => t.debounced .done (t.doneLine true) State.doneLevel).goOn

/-- DONE_RELEASE (R40, R64). -/
def execDoneRelease (s : State) : Host.Outcome State Fault Refusal :=
  (s.during fun t => t.debounced .done (t.doneLine false) State.doneLevel).goOn

/-- Whether the dwell's elapsed time has reached the dwell timeout (R73). -/
def State.dwellDue (s : State) : Bool :=
  match s.face.dwell with
  | none => false
  | some d => decide (s.values.dwellTimeout * secondMs ≤ d.elapsed)

/-- DWELL_TIMEOUT (R73, R74). -/
def execDwellTimeout (s : State) : Host.Outcome State Fault Refusal :=
  (s.during fun t => if t.dwellDue then t.closeDwell else t).goOn

/-- Count a delivered tyre to the oldest record with room, if there is one (R77). -/
def countArrival : List Receiving → Option (List Receiving)
  | [] => none
  | r :: rest =>
    if r.arrived < r.claimed then some ({ r with arrived := r.arrived + 1 } :: rest)
    else (countArrival rest).map fun x => r :: x

/-- One tyre delivered at the load port (R77). -/
def State.delivered (s : State) : State :=
  match countArrival s.face.receiving with
  | some list => s.setFace { s.face with receiving := list }
  | none => s.writeReport (.discrepancy .strayArrival .nowhere .absent false none none)

/-- The debounced ARRIVAL level: the change to active is one tyre; an adopted first level is no edge (R64, R77). -/
def State.arrivalLevel (s : State) (active : Bool) : State :=
  let t := s.setFace { s.face with arrival := some active }
  if active ∧ s.face.arrival = some false then t.delivered else t

/-- ARRIVAL (R64, R77). -/
def execArrival (high : Bool) (s : State) : Host.Outcome State Fault Refusal :=
  (s.during fun t => t.debounced .arrival high State.arrivalLevel).goOn

/-- Whether a receiving record gives up tyres now: its deadline has passed and some have not arrived (R79). -/
def State.deadlineDue (s : State) (r : Receiving) : Bool := s.deadlinePassed r.deadline && decide (r.arrived < r.claimed)

/-- The deadline of one record: its newest LOAD tasks, as many as tyres have not arrived, are cancelled, claimed falls to
arrived, and the shortage is reported (R79, R80). -/
def State.giveUpArrivals (s : State) (r : Receiving) : State :=
  let tasks := s.loadTasks r.inboundId
  let missing := r.claimed - r.arrived
  let cancelled := tasks.drop (tasks.length - missing)
  let t := cancelled.foldl (fun u x => u.cancelLoad x.slot) s
  let u := t.setFace { t.face with
    receiving := t.face.receiving.map fun x => if x.inboundId = r.inboundId then { x with claimed := x.arrived } else x }
  (if cancelled = [] then u else u.reportShort r.inboundId cancelled.length .timeout (u.receivingOf r.inboundId)).freeReceived

/-- INBOUND_DEADLINE (R79): every record whose deadline has been reached. -/
def execInboundDeadline (s : State) : Host.Outcome State Fault Refusal :=
  (s.during fun t => (t.face.receiving.filter t.deadlineDue).foldl State.giveUpArrivals t).goOn

end Sys2Proof.Machine
end

