-- ==== Sys2Proof/Machine/LaneFamily.lean ====
section
/-! DEFINITION. The commands of orders, lanes and pockets: ORDER, RELINQUISH, INTENT, BAY_CLEAR, LANE_IDLE,
POCKET_SENSE_CHANGE, JAM_TIMEOUT. -/

namespace Sys2Proof.Machine

/-- An ORDER: accepted, it opens its bay and round 1 of each line in line order; otherwise it is ignored (R100,
R121). -/
def State.takeOrder (s : State) (o : OrderFields) (stamp : Timer) : State :=
  if s.orderAccepted o then
    o.refs.foldl (fun t r => t.openRound { ref := r, round := 1, openedAt := stamp }) (s.openOrder o)
  else s

/-- ORDER (R121). -/
def execOrder (s : State) : Host.Outcome State Fault Refusal :=
  (s.during fun t => t.handOver FrameKind.isOrder (!t.inSetupWait) fun h u =>
    u.takeOrder (orderOf h.frame.payload) h.stamp).goOn

/-- This station's own RELINQUISH has gone: its entry leaves the list (R114). -/
def State.relinquishGone (s : State) : State :=
  match s.contests.relinquish with
  | [] => s
  | e :: rest => if e.queued then s.setContests { s.contests with relinquish := rest } else s

/-- A RELINQUISH heard: applied to its line, with the round it opens; an own one leaves its list (R114, R123). Its
reference is of PICK form (log 28). -/
def State.hearRelinquish (s : State) (f : Frame) (stamp : Timer) : State :=
  let t := if f.key.station = s.own then s.relinquishGone else s
  match refOf f.payload with
  | .store _ => t
  | .pick line =>
    let a := t.applyRelinquish line (bitField (byteAt f.payload 3) 3 0)
    a.state.openNext (.pick line) a.opened stamp

/-- RELINQUISH (R114, R123). -/
def execRelinquish (s : State) : Host.Outcome State Fault Refusal :=
  (s.during fun t => t.handOver FrameKind.isRelinquish (!t.inSetupWait) fun h u => u.hearRelinquish h.frame h.stamp).goOn

/-- The result of an own INTENT at the pocket entry that sent it (R126). -/
def State.ownIntent (s : State) (line : LineRef) (granted : Bool) : State :=
  match s.entriesWith line .onBus with
  | [] => s
  | (p, e) :: _ => if granted then s.grantEntry p e else s.refuseEntry p e

/-- An INTENT heard: granted or refused by one rule at every station, then the sender's entry (R125, R126). -/
def State.hearIntent (s : State) (lane : Fin 8) (f : Frame) : State :=
  let line := intentLineOf lane f.payload
  let granted := s.intentGranted line
  let t := if granted then s.countGrant line else s
  if f.key.station = s.own then t.ownIntent line granted else t

/-- The lane an INTENT, BAY CLEAR or LANE IDLE names in its key (chapter 9.6). -/
def laneOf (k : Key) : Fin 8 :=
  match frameKind k with
  | some (.intent l) => l
  | some (.bayClear l) => l
  | some (.laneIdle l) => l
  | _ => 0

/-- INTENT (R125, R126). -/
def execIntent (s : State) : Host.Outcome State Fault Refusal :=
  (s.during fun t => t.handOver FrameKind.isIntent (!t.inSetupWait) fun h u =>
    u.hearIntent (laneOf h.frame.key) h.frame).goOn

/-- A BAY CLEAR: applied when the lane is SYNCED, the bay OPEN and the order id matches (R128). -/
def State.hearBayClear (s : State) (lane : Fin 8) (bay : Fin 4) (order : Nat) : State :=
  match s.openBay { lane := lane, bay := bay, line := 0, order := order } with
  | none => s
  | some _ => s.clearBay lane bay true

/-- BAY_CLEAR (R128, R129). -/
def execBayClear (s : State) : Host.Outcome State Fault Refusal :=
  (s.during fun t => t.handOver FrameKind.isBayClear (!t.inSetupWait) fun h u =>
    u.hearBayClear (laneOf h.frame.key) (Fin.ofNat 4 (bitField (byteAt h.frame.payload 0) 1 0))
      (twoBytes h.frame.payload 1)).goOn

/-- LANE_IDLE (R130). -/
def execLaneIdle (s : State) : Host.Outcome State Fault Refusal :=
  (s.during fun t => t.handOver FrameKind.isLaneIdle (!t.inSetupWait) fun h u => u.idleLane (laneOf h.frame.key)).goOn

/-- A tyre arrives in a pocket (R136). -/
def State.pocketFilled (s : State) (p : Fin 2) : State :=
  let other := s.entryIn (otherPocket p) .carried
  match s.pocket p, other with
  | .entry e, none =>
    if e.state = .carried then s.loadEntry p e
    else if e.state = .assigned then s.becomeForeign p
    else s
  | .entry e, some c =>
    if e.state = .carried then s.loadEntry p e
    else if e.state = .assigned then (s.setEntry (otherPocket p) e).loadEntry p c
    else s
  | .free, some c => (s.setPocket (otherPocket p) .free).loadEntry p c
  | .free, none => s.becomeForeign p
  | .foreign, _ => s

/-- A tyre leaves a pocket: a granted entry completes (R138), a LOADED one is lifted out (R137), a foreign pocket becomes
free (R141). -/
def State.pocketEmptied (s : State) (p : Fin 2) : State :=
  match s.pocket p with
  | .free => s
  | .foreign => s.setPocket p .free
  | .entry e =>
    match e.state with
    | .granted => s.completeGrant p e
    | .jammed => s.completeGrant p e
    | .loaded =>
      let t := s.withdrawIntent p
      t.setEntry p { e with state := .carried, intent := if e.intent = .onBus then .onBus else .none }
    | .assigned => s
    | .carried => s
    | .restore => s

/-- The first level of a pocket sensor after a start or SETUP END: present makes the pocket foreign, absent frees a
foreign one (R64, R141). An entry that the pocket holds already is left as it is (DESIGN CHOICE, log 54, unsafe). -/
def State.pocketAdopted (s : State) (p : Fin 2) (present : Bool) : State :=
  match s.pocket p, present with
  | .foreign, false => s.setPocket p .free
  | .foreign, true => s
  | .free, true => s.becomeForeign p
  | .free, false => s
  | .entry _, _ => s

/-- Record the debounced level of a pocket sensor. -/
def State.setSense (s : State) (p : Fin 2) (present : Bool) : State :=
  s.setFace { s.face with pocketSense := s.face.pocketSense.set p (some present) }

/-- A debounced pocket sensor level (R64, R136 to R141). -/
def State.pocketLevel (s : State) (p : Fin 2) (present : Bool) : State :=
  match s.face.pocketSense[p] with
  | none => (s.setSense p present).pocketAdopted p present
  | some old =>
    if old = present then s
    else if present then (s.setSense p present).pocketFilled p
    else (s.setSense p present).pocketEmptied p

/-- POCKET_SENSE_CHANGE (R64, R136). -/
def execPocketSenseChange (pocket : Fin 2) (high : Bool) (s : State) : Host.Outcome State Fault Refusal :=
  (s.during fun t => t.debounced (.pocket pocket) high fun u present => u.pocketLevel pocket present).goOn

/-- Whether a pocket's entry is GRANTED with its tyre still present 10 s after the grant (R139). -/
def State.jamDue (s : State) (p : Fin 2) : Bool :=
  match s.entryIn p .granted with
  | none => false
  | some e =>
    match e.grantedAt with
    | none => false
    | some g => s.sensed p && s.reached g jamMs

/-- A GRANTED entry whose tyre does not leave becomes JAMMED (R139). -/
def State.jamPocket (s : State) (p : Fin 2) : State :=
  if s.jamDue p then
    match (s.pocket p).entryOf with
    | none => s
    | some e => s.setEntry p { e with state := .jammed }
  else s

/-- JAM_TIMEOUT (R139). -/
def execJamTimeout (s : State) : Host.Outcome State Fault Refusal :=
  (s.during fun t => bothPockets.foldl State.jamPocket t).goOn

end Sys2Proof.Machine
end

