-- ==== Sys2Proof/Machine/Dispatch.lean ====
section
/-! DEFINITION. `exec`: the meaning of every command, one arm per row of spec/opcode_table.json. -/

namespace Sys2Proof.Machine

/-- The effect of a command on everything but the queue of waiting commands. -/
def exec (i : Instr) (s : State) : Host.Outcome State Fault Refusal :=
  match i with
  | .warmStart stnSel rateSel flips => Sys2Proof.Machine.execWarmStart stnSel rateSel flips s
  | .coldStart stnSel rateSel => Sys2Proof.Machine.execColdStart stnSel rateSel s
  | .standby => Sys2Proof.Machine.execStandby s
  | .resetAssert => Sys2Proof.Machine.execResetAssert s
  | .markerLost => Sys2Proof.Machine.execMarkerLost s
  | .frameHeard frame => Sys2Proof.Machine.execFrameHeard frame s
  | .idleBusContend rival => Sys2Proof.Machine.execIdleBusContend rival s
  | .busError kind role => Sys2Proof.Machine.execBusError kind role s
  | .errorMarkSeen role => Sys2Proof.Machine.execErrorMarkSeen role s
  | .frameHeld role => Sys2Proof.Machine.execFrameHeld role s
  | .offRecovery recessiveBits => Sys2Proof.Machine.execOffRecovery recessiveBits s
  | .txPlaceFreed => Sys2Proof.Machine.execTxPlaceFreed s
  | .halt => Sys2Proof.Machine.execHalt s
  | .resume => Sys2Proof.Machine.execResume s
  | .calendar => Sys2Proof.Machine.execCalendar s
  | .setup => Sys2Proof.Machine.execSetup s
  | .setupEnd => Sys2Proof.Machine.execSetupEnd s
  | .joinTimeout => Sys2Proof.Machine.execJoinTimeout s
  | .reportHeard => Sys2Proof.Machine.execReportHeard s
  | .adjust => Sys2Proof.Machine.execAdjust s
  | .park => Sys2Proof.Machine.execPark s
  | .audit => Sys2Proof.Machine.execAudit s
  | .order => Sys2Proof.Machine.execOrder s
  | .inbound => Sys2Proof.Machine.execInbound s
  | .bid => Sys2Proof.Machine.execBid s
  | .claim => Sys2Proof.Machine.execClaim s
  | .computationResult => Sys2Proof.Machine.execComputationResult s
  | .windowEnd => Sys2Proof.Machine.execWindowEnd s
  | .secondChance => Sys2Proof.Machine.execSecondChance s
  | .relinquish => Sys2Proof.Machine.execRelinquish s
  | .intent => Sys2Proof.Machine.execIntent s
  | .bayClear => Sys2Proof.Machine.execBayClear s
  | .laneIdle => Sys2Proof.Machine.execLaneIdle s
  | .faultGraceTimeout => Sys2Proof.Machine.execFaultGraceTimeout s
  | .encoderCount direction => Sys2Proof.Machine.execEncoderCount direction s
  | .indexEdge homeFlag => Sys2Proof.Machine.execIndexEdge homeFlag s
  | .stallTimeout => Sys2Proof.Machine.execStallTimeout s
  | .settleRestTimeout => Sys2Proof.Machine.execSettleRestTimeout s
  | .homingRestTimeout => Sys2Proof.Machine.execHomingRestTimeout s
  | .holdRestTimeout => Sys2Proof.Machine.execHoldRestTimeout s
  | .curtainClearTimeout => Sys2Proof.Machine.execCurtainClearTimeout s
  | .supplyClearTimeout => Sys2Proof.Machine.execSupplyClearTimeout s
  | .supplyLevelChange level sense => Sys2Proof.Machine.execSupplyLevelChange level sense s
  | .doneHoldTimeout => Sys2Proof.Machine.execDoneHoldTimeout s
  | .scanCycle returns loadPin flips => Sys2Proof.Machine.execScanCycle returns loadPin flips s
  | .doneEdge => Sys2Proof.Machine.execDoneEdge s
  | .dwellTimeout => Sys2Proof.Machine.execDwellTimeout s
  | .stopLevelChange high => Sys2Proof.Machine.execStopLevelChange high s
  | .curtainChange high => Sys2Proof.Machine.execCurtainChange high s
  | .arrival high => Sys2Proof.Machine.execArrival high s
  | .inboundDeadline => Sys2Proof.Machine.execInboundDeadline s
  | .pocketSenseChange pocket high => Sys2Proof.Machine.execPocketSenseChange pocket high s
  | .jamTimeout => Sys2Proof.Machine.execJamTimeout s
  | .auditScan => Sys2Proof.Machine.execAuditScan s
  | .doneRelease => Sys2Proof.Machine.execDoneRelease s

end Sys2Proof.Machine
end

