-- ==== Sys2Proof/Machine/Due.lean ====
section
/-! DEFINITION. What happens when no command waits: the first of the part's own steps that is due, or one millisecond
passes (log 1, log 23). -/

namespace Sys2Proof.Machine

/-- The command that hands over a frame of a kind. -/
def handOverOf (k : FrameKind) : Instr :=
  match k with
  | .halt => .halt
  | .resume => .resume
  | .intent _ => .intent
  | .bayClear _ => .bayClear
  | .laneIdle _ => .laneIdle
  | .claim => .claim
  | .relinquish => .relinquish
  | .bid _ => .bid
  | .order => .order
  | .inbound => .inbound
  | .calendar => .calendar
  | .adjust => .adjust
  | .audit => .audit
  | .park => .park
  | .report _ => .reportHeard
  | .setup _ => .setup
  | .setupEnd => .setupEnd

/-- The hand-over of the frame at the head of the receive queue, unless its owner has it already (R160). -/
def State.headCommand (s : State) : Option Instr :=
  if s.port.headBusy then none
  else
    match s.port.rx with
    | [] => none
    | h :: _ => (frameKind h.frame.key).map handOverOf

/-- A command that is due under a condition. -/
def dueWhen (condition : Bool) (i : Instr) : Option Instr := if condition then some i else none

/-- The first record whose bid window has run out in WINDOW (R105). -/
def State.windowDue (s : State) (c : Contest) : Bool :=
  decide (c.state = .window) && s.reached c.openedAt s.values.bidWindow

/-- Whether the held work may resume (R36). -/
def State.resumeDue (s : State) : Bool :=
  decide (s.drive.state = .holding) && !s.causeInForce && s.atRest && s.drive.held.isSome

/-- The command that a level of the line of a face input is (R64). -/
def State.inputCommand (s : State) (i : FaceInput) (high : Bool) : Instr :=
  match i with
  | .done => s.doneCommand high
  | .stop => .stopLevelChange high
  | .curtain => .curtainChange high
  | .arrival => .arrival high
  | .pocket p => .pocketSenseChange p high

/-- The change of a debounced face input whose line has shown its level for 10 ms (R64, log 24). -/
def State.inputDue (s : State) (i : FaceInput) : Option Instr :=
  match (s.face.debounces.of i).line with
  | none => none
  | some high => dueWhen (s.levelHeld i) (s.inputCommand i high)

/-- The scan cycle that is due, on what the matrix and the load pin were last shown to give (R61, log 55). -/
def State.scanCommand (s : State) : Option Instr :=
  match s.face.view with
  | none => none
  | some v => dueWhen s.scanDue (.scanCycle v.returns v.loadPin [])

/-- The part's own steps, in the order of log 23, each with its condition. -/
def State.ownSteps (s : State) : List (Option Instr) :=
  [dueWhen s.contests.computing.isSome .computationResult, dueWhen (decide (s.audit.scans ≠ [])) .auditScan,
   dueWhen (s.txRoom && s.placeWanted) .txPlaceFreed, s.headCommand, dueWhen s.joiningOver .joinTimeout,
   dueWhen s.graceDue .faultGraceTimeout, dueWhen s.stallDue .stallTimeout, dueWhen s.settleDue .settleRestTimeout,
   dueWhen s.homingDue .homingRestTimeout, dueWhen s.curtainDue .curtainClearTimeout,
   dueWhen s.supplyDue .supplyClearTimeout, dueWhen s.resumeDue .holdRestTimeout,
   dueWhen (s.filterDue .warn) (.supplyLevelChange .warn s.drive.warnFilter.sense),
   dueWhen (s.filterDue .cut) (.supplyLevelChange .cut s.drive.cutFilter.sense), s.inputDue .done, s.inputDue .stop,
   s.inputDue .curtain, s.inputDue .arrival, s.inputDue (.pocket 0), s.inputDue (.pocket 1), s.scanCommand,
   dueWhen s.doneHeld .doneHoldTimeout,
   dueWhen s.dwellDue .dwellTimeout, dueWhen (s.contests.records.any s.windowDue) .windowEnd,
   dueWhen (s.contests.records.any s.secondDue) .secondChance,
   dueWhen (s.face.receiving.any s.deadlineDue) .inboundDeadline, dueWhen (bothPockets.any s.jamDue) .jamTimeout]

/-- The first of the part's own steps that is due (log 1). -/
def State.firstDue (s : State) : Option Instr := s.ownSteps.findSome? id

/-- One millisecond: the station timer counts, the blinking lamps go on, and the dwell's elapsed time counts unless HALT is in
force (00_scope.md, R67, R73, R173). -/
def State.tick (s : State) : State :=
  let t := s.blinkOn.setTimer (s.timer + 1)
  match t.face.dwell with
  | none => t
  | some d => if t.control.halt then t else t.setDwell (some { d with elapsed := d.elapsed + 1 })

/-- The step of a part for which no command waits: its own first due step, else one millisecond; a part that does not
run stands still (log 1). -/
def State.idle (s : State) : Host.Outcome State Fault Refusal :=
  if s.isRunning then
    match s.firstDue with
    | some i => exec i s
    | none => .next s.tick
  else .next s

end Sys2Proof.Machine
end

