-- ==== Sys2Proof/Machine/Lines.lean ====
section
/-! DEFINITION. The lines the part drives, as they stand in a state (00_scope.md, Signal summary; R177). -/

namespace Sys2Proof.Machine

/-- The levels of LOADPIN_CLK while one reading is clocked out: 16 pulses, each high and then low (R150). -/
def loadPinClkLevels : List Bool := (List.replicate loadPinPulses [true, false]).flatten

/-- The levels of ROW_STROBE[2:0] through the next scan cycle, in order; none while scanning is suspended or the part does not
run (R61, R62, R177). -/
def State.scanStrobes (s : State) : List (Vector Bool 3) :=
  if s.isRunning && s.scanning then s.values.strobeLevels else []

/-- The output lines: motor and brake (2.1), row strobes (R61), slot lamps (R67), fault lamp (R169), pocket gates (R133), and
the load pin's clock (R150). -/
structure Lines where
  motDuty : Nat
  motDir : Direction
  brakeOn : Bool
  rowStrobe : Vector Bool 3
  slotLamp : Vector Bool 12
  faultLamp : Bool
  pocketGates : Vector Bool 2
  loadPinClk : Bool
  deriving DecidableEq, Repr

/-- The lines as the part drives them between commands, where every row strobe is released (R61, R62) and LOADPIN_CLK rests
low (R150); a part in standby, in reset or without supply drives none (R177). -/
def State.lines (s : State) : Option Lines :=
  if s.isRunning then
    some { motDuty := s.drive.duty, motDir := s.drive.direction, brakeOn := s.drive.brake,
           rowStrobe := strobesReleased, slotLamp := Vector.ofFn s.lampOn, faultLamp := s.faultLamp,
           pocketGates := Vector.ofFn fun p : Fin 2 => s.gateOpen p, loadPinClk := false }
  else none

end Sys2Proof.Machine
end

