-- ==== Sys2Proof/Safety.lean ====
section
/-! DEFINITION. What is said of every state: the part of a state that the end of a step never changes, and the laws the
specification gives the part (R2, R3, R21, R30, R43, R54, R100, R118, R122, R124, R125, R133, R134, R162,
R166). -/

namespace Sys2Proof.Machine

/-! ### What the end of a step keeps -/

/-- A line without this station's own two counts: the account every station holds alike (R119, R124). -/
def OrderLine.shared (l : OrderLine) : OrderLine := { l with ownClaim := 0, ownDelivered := 0 }

/-- A lane with the shared accounts of its lines (R118, R119). -/
def Lane.shared (l : Lane) : Lane :=
  { l with bays := l.bays.map fun b => b.map fun o => { o with lines := o.lines.map OrderLine.shared } }

/-- The accounts of the lanes that every station holds alike. -/
def State.sharedLanes (s : State) : Vector Lane 8 := s.lanes.lanes.map Lane.shared

/-- The part of a state that reports, tasks, pockets, contests and stops do not touch. -/
structure Kept where
  pending : List Instr
  power : Power
  timer : Timer
  marker : Marker
  stationNumber : BitVec 5
  rateCode : BitVec 2
  service : ServiceState
  received : SetupValues
  settled : SetupValues
  joinSince : Option Timer
  halt : Bool
  week : Nat
  startKind : StartKind
  txErrors : Nat
  rxErrors : Nat
  confinement : Confinement
  warn : Bool
  gaps : Nat
  sweep : List Nat
  scanned : Nat
  found : Nat
  marks : Vector WeightMark 48
  scans : List Scan
  stopRun : Nat
  graceSince : Option Timer
  done : Option Bool
  stop : Option Bool
  curtain : Option Bool
  arrival : Option Bool
  pocketSense : Vector (Option Bool) 2
  debounces : Debounces
  view : Option FaceView
  position : Nat
  homeFound : Bool
  faultKind : Option FaultKind
  lastCount : Option Timer
  warnBelow : Bool
  cutBelow : Bool
  warnFilter : SupplyFilter
  cutFilter : SupplyFilter
  curtainCause : Bool
  curtainClearSince : Option Timer
  supplyCause : Bool
  supplyClearSince : Option Timer
  doneSince : Option Timer
  lanes : Vector Lane 8
  deriving DecidableEq, Repr

/-- That part of a state. -/
def State.kept (s : State) : Kept :=
  { pending := s.pending, power := s.power, timer := s.timer, marker := s.store.marker,
    stationNumber := s.control.stationNumber, rateCode := s.control.rateCode, service := s.control.service,
    received := s.control.received, settled := s.control.settled, joinSince := s.control.joinSince,
    halt := s.control.halt, week := s.control.week, startKind := s.control.startKind, txErrors := s.port.txErrors,
    rxErrors := s.port.rxErrors, confinement := s.port.confinement, warn := s.port.warn, gaps := s.port.gaps,
    sweep := s.audit.sweep, scanned := s.audit.scanned, found := s.audit.found, marks := s.audit.marks,
    scans := s.audit.scans, stopRun := s.planner.stopRun, graceSince := s.planner.graceSince, done := s.face.done,
    stop := s.face.stop, curtain := s.face.curtain, arrival := s.face.arrival, pocketSense := s.face.pocketSense,
    debounces := s.face.debounces, view := s.face.view,
    position := s.drive.position, homeFound := s.drive.homeFound, faultKind := s.drive.faultKind,
    lastCount := s.drive.lastCount, warnBelow := s.drive.warnBelow, cutBelow := s.drive.cutBelow,
    warnFilter := s.drive.warnFilter, cutFilter := s.drive.cutFilter,
    curtainCause := s.drive.curtainCause, curtainClearSince := s.drive.curtainClearSince,
    supplyCause := s.drive.supplyCause, supplyClearSince := s.drive.supplyClearSince, doneSince := s.drive.doneSince,
    lanes := s.sharedLanes }

/-- The part of a state that only frames heard, bus events, motion and contests' own commands change: the port, the
drive, the contest records, the offers, the computation and the rounds to consider. The work done on what has been handed
over leaves it alone, but for the consideration of rounds, which changes the last two. -/
structure Outer where
  port : BusPort
  drive : Drive
  records : List Contest
  offers : List Offer
  computing : Option Computation
  considering : List RoundOpen
  deriving DecidableEq, Repr

def State.outer (s : State) : Outer :=
  { port := s.port, drive := s.drive, records := s.contests.records, offers := s.contests.offers,
    computing := s.contests.computing, considering := s.contests.considering }

/-- A pocket without an ASSIGNED entry: pockets are assigned at the end of any step (R66, R68). -/
def Pocket.unassigned : Pocket → Pocket
  | .free => .free
  | .foreign => .foreign
  | .entry e => if e.state = .assigned then .free else .entry e

/-- What the end of a step changes only for work that has been handed over and waits. -/
structure Work where
  store : StockStore
  log : List Report
  relinquish : List (LineRef × Nat)
  computing : Option Computation
  considering : List RoundOpen
  relocations : List Relocation
  receiving : List Receiving
  tasks : List (TaskWork × Nat × Timer × Nat)
  bidHold : Bool
  lanes : Vector Lane 8
  pockets : Vector Pocket 2
  intentCount : Nat
  deriving DecidableEq, Repr

def State.work (s : State) : Work :=
  { store := s.store, log := s.control.log, relinquish := s.contests.relinquish.map fun e => (e.line, e.quantity),
    computing := s.contests.computing, considering := s.contests.considering, relocations := s.audit.relocations,
    receiving := s.face.receiving,
    tasks := s.planner.queue.map fun t => (t.work, t.slot, t.created, t.deferrals), bidHold := s.planner.bidHold,
    lanes := s.lanes.lanes, pockets := s.lanes.pockets.map Pocket.unassigned, intentCount := s.lanes.intentCount }

/-- Nothing handed over waits: no LOAD task to relocate, no open round to consider. -/
def State.quiet (s : State) : Prop := s.audit.relocations = [] ∧ s.contests.considering = []

/-- The drive without its sticky supply flags, which a TOWER_STATE report clears (R34). -/
def Drive.unstuck (d : Drive) : Drive := { d with stickyWarn := false, stickyCut := false }

/-- A running part with a frame of a kind at the head of its receive queue, not yet in its owner's hands (R160). -/
def State.handed (s : State) (h : Heard) (k : FrameKind) : Prop :=
  s.isRunning = true ∧ s.port.headBusy = false ∧ s.port.rx.head? = some h ∧ frameKind h.frame.key = some k

/-- A state whose head frame is in its owner's hands (R160). -/
def State.inHand (s : State) : State := s.setPort { s.port with headBusy := true }

/-- No bit of the retained table has flipped, so that every read finds its record intact (R9; log 4). -/
def State.intact (s : State) : Prop := ∀ n, (Memory.get s.store.table n).flipped = 0

/-- The line of a face input has shown a level other than the debounced one for 10 ms without a break, so that the debounced
level changes (R64). -/
def State.shownLong (s : State) (i : FaceInput) (high : Bool) : Prop :=
  s.face.levelOf i ≠ some (s.activeAt i high) ∧ (s.face.debounces.of i).line = some high ∧
    ∃ b, (s.face.debounces.of i).since = some b ∧ 10 ≤ elapsedMs s.timer b

/-- The debounces once the level a line shows has become the debounced level of its input. -/
def State.levelTaken (s : State) (i : FaceInput) (high : Bool) : Debounces :=
  s.face.debounces.set i { line := some high, since := none }

/-- Whether 5 ms have passed since the last scan cycle, or none has been made since scanning began (R61). -/
def State.cycleOver (s : State) : Prop :=
  s.face.lastScan = none ∨ ∃ b, s.face.lastScan = some b ∧ 5 ≤ elapsedMs s.timer b

/-- The tasks of the queue with their place, without the state that a dwell gives them (R42, R52). -/
def State.taskList (s : State) : List (TaskWork × Nat × Timer × Nat) :=
  s.planner.queue.map fun t => (t.work, t.slot, t.created, t.deferrals)

/-- The relinquish list without its marks of what is queued (R113, R114). -/
def State.givenBack (s : State) : List (LineRef × Nat) := s.contests.relinquish.map fun e => (e.line, e.quantity)

/-- What stands between two states when a command has found nothing to do and only the end of a step has followed: nothing
is lost or changed; frames that waited may join the transmit queue, and in IDLE and MOVING the planner may be asked. -/
def State.standsStill (s t : State) : Prop :=
  t.kept = s.kept ∧ t.contests.records = s.contests.records ∧ t.contests.offers = s.contests.offers ∧
    s.port.tx <+: t.port.tx ∧ (s.quiet → t.work = s.work) ∧
    (s.drive.state ≠ .idle → s.drive.state ≠ .moving →
      t.drive.unstuck = s.drive.unstuck ∧ t.planner.parkTarget = s.planner.parkTarget ∧
        t.planner.inFlight = s.planner.inFlight ∧ (s.face.dwell = none → t.face.dwell = none))

/-! ### What an opened round and a move begin -/

/-- The conditions of R101 under which this station bids in a round of a reference. -/
def State.bids (s : State) (ref : Ref) : Prop :=
  s.control.service = .inService ∧ s.port.confinement = .active ∧ s.planner.bidHold = false ∧
    (∀ l, ref = .pick l → (s.lane l.lane).synced = true) ∧ s.contests.records.length < 8

/-- What becomes of a contest record when a round of a reference opens (R100): one of that reference becomes CLOSED with its
CLAIM on the bus, and is freed otherwise; a CLOSED one and one of another reference stay. -/
def Contest.ended (ref : Ref) (c : Contest) : Option Contest :=
  if c.ref = ref ∧ c.state ≠ .closed then
    (if c.claimFrame = some .sending then some { c with state := .closed } else none)
  else some c

/-- The rounds a state `s` has opened are considered in order (R82, R101), and `t` is what the step leaves: the first that
this station bids in is being computed, on the table as read with its integrity checks (R81) and so on that of `s` itself
where every record is intact, and those behind it wait; where it bids in none, no computation begins. -/
def State.considers (s t : State) (rounds : List RoundOpen) : Prop :=
  (∀ before o after, rounds = before ++ o :: after → (∀ x ∈ before, ¬s.bids x.ref) → s.bids o.ref →
      t.contests.considering = after ∧
        ∃ result, t.contests.computing = some { opening := o, result := result } ∧
          result = (s.setContests { s.contests with considering := after }).readTable.bidResult o.ref ∧
          (s.intact → result = s.bidResult o.ref)) ∧
    ((∀ x ∈ rounds, ¬s.bids x.ref) → t.contests.computing = none ∧ t.contests.considering = [])

/-- A move that begins from rest (R26, R28, R29): MOVING in ACCEL the way given, the brake released, the duty 0 with its
ramp to the cruise duty of the requested profile, the stall interval anew. A move of P counts or less ramps over the first
half of its travel (log 39), a longer one to the first index position more than the tolerance ahead. -/
def State.begunMove (s t : State) (dir : Direction) (travel : Nat) : Prop :=
  t.drive.state = .moving ∧ t.drive.phase = .accel ∧ t.drive.direction = dir ∧ t.drive.brake = false ∧
    t.drive.duty = 0 ∧ t.drive.held = none ∧ t.drive.travel = (travel : Int) ∧ t.drive.stallSince = s.timer ∧
    t.drive.active = s.drive.requested ∧ t.drive.shortMove = decide (travel ≤ s.values.countsPerPitch) ∧
    t.drive.ramp = some {
      start := 0, goal := s.values.cruiseDuty s.drive.requested, covered := 0,
      span := if travel ≤ s.values.countsPerPitch then travel / 2 else s.values.accelSpan s.drive.position dir }

/-- Held work resumed (R36, R37): a held move settles within the tolerance of its target, its rest interval beginning anew
(log 40), and otherwise moves toward it, reversed where the target has been passed, which its signed travel tells (log 25);
a held homing turns forward again at the SLOW cruise duty. -/
def State.resumed (s t : State) : Prop :=
  (s.drive.held = some .move → t.drive.target = s.drive.target ∧
      (s.drive.travel.natAbs ≤ s.values.indexTolerance →
        t.drive.state = .settling ∧ t.drive.brake = true ∧ t.drive.duty = 0 ∧ t.drive.restSince = s.timer) ∧
      ((s.values.indexTolerance : Int) < s.drive.travel →
        s.begunMove t s.drive.direction s.drive.travel.toNat) ∧
      (s.drive.travel < -(s.values.indexTolerance : Int) →
        s.begunMove t (oppositeDirection s.drive.direction) (-s.drive.travel).toNat)) ∧
    (s.drive.held = some .homing →
      t.drive.state = .homing ∧ t.drive.homeFound = false ∧ t.drive.direction = .forward ∧ t.drive.brake = false ∧
        t.drive.duty = s.values.slowDuty ∧ t.drive.homingEdges = 0 ∧ t.drive.homingSpacing = none ∧
        t.drive.stallSince = s.timer)

/-- The loop is at rest: no encoder count for 200 ms (R36). -/
def State.rested (s : State) : Prop := ∀ last, s.drive.lastCount = some last → 200 ≤ elapsedMs s.timer last

/-! ### Laws of every state -/

/-- A value from `low` to `high`. -/
def between (low high value : Nat) : Bool := decide (low ≤ value) && decide (value ≤ high)

/-- Setup values within the ranges of 10.3, but for the resume mark, whose bound is another value's. -/
def SetupValues.inRange (v : SetupValues) : Bool :=
  between 8 48 v.carriers && between 1 3 v.rows && between 1 4 v.columns && v.rowClass.toList.all (between 0 3) &&
    v.capacity.toList.all (between 4 24) && v.distance.toList.all (between 0 15) &&
    between 0 31 v.wD && between 0 31 v.wP && between 0 31 v.wL && between 0 31 v.wF && between 0 31 v.wU &&
    between 4 22 v.stopMark && between 0 26 v.window && between 52 312 v.saleLimit &&
    between 5 200 v.bidWindow && between 5 600 v.dwellTimeout && between 10 900 v.inboundTimeout &&
    between 10 600 v.agingLimit && between 1 60 v.joinTime && between 1 15 v.sweepEvery && between 10 600 v.faultGrace &&
    between 0 15 v.bidRetryLimit && between 64 4096 v.countsPerPitch && between 1 64 v.indexTolerance &&
    between 20 100 v.normalDuty && between 10 60 v.slowDuty && between 60 95 v.warnLevel && between 50 90 v.cutLevel &&
    between 5 200 v.weightTolerance && between 0 30000 v.tare

/-- The relations a SETUP END leaves between values: the table fits 512 positions, the resume mark lies below the stop
mark, the SLOW duty is at most the NORMAL duty, the CUT level lies below the WARN level (R21, R54, R171). -/
def SetupValues.fits (v : SetupValues) : Bool :=
  decide (v.slots ≤ maxPositions) && decide (v.resumeMark < v.stopMark) && decide (v.slowDuty ≤ v.normalDuty) &&
    decide (v.cutLevel < v.warnLevel)

/-- Received and settled setup values stay in range, and the settled ones fit together (R171). -/
def State.setupOk (s : State) : Bool :=
  s.control.received.inRange && s.control.settled.inRange && s.control.settled.fits

/-- The retained table is in canonical form (R1, R17; log 32). -/
def State.tableOk (s : State) : Bool := Memory.wf s.store.table

/-- The confinement state and the WARN flag are those the counters give (R166). -/
def State.confinementOk (s : State) : Bool :=
  decide (s.port.confinement = confinementOf s.port.txErrors s.port.rxErrors) &&
    decide (s.port.warn = warnOf s.port.txErrors s.port.rxErrors)

/-- The brake is released exactly where duty may be applied, and with it set the duty is 0 (R21, 2.3). -/
def State.brakeOk (s : State) : Bool :=
  decide (s.drive.brake = !s.drive.dutyApplied) && (!s.drive.brake || decide (s.drive.duty = 0))

/-- The slots that tasks name. -/
def taskSlots (queue : List Task) : List Nat := queue.map Task.slot

/-- At most 24 tasks, at most 22 ordinary ones, no slot the subject of two (R43). -/
def State.queueOk (s : State) : Bool :=
  decide (s.planner.queue.length ≤ queueCapacity) && decide (ordinaryCount s.planner.queue ≤ ordinaryCapacity) &&
    decide (taskSlots s.planner.queue).Nodup

/-- The bidding hold agrees with the queue: held at the stop mark, clear at the resume mark (R54). In SETUP_WAIT, before the
marks are settled, there is no task and no pocket entry to restore (R60, R133, R170). -/
def State.bidHoldOk (s : State) : Bool :=
  (s.planner.bidHold || decide (ordinaryCount s.planner.queue < s.values.stopMark)) &&
    (!s.planner.bidHold || decide (s.values.resumeMark < ordinaryCount s.planner.queue)) &&
    (!s.inSetupWait || (decide (s.planner.queue = []) && bothPockets.all fun p => !(s.pocket p).hasEntry))

/-- The references that a contest record which is not CLOSED, the computation in progress or a round not considered yet
stands for. -/
def State.openRefs (s : State) : List Ref :=
  (s.contests.records.filter fun c => decide (c.state ≠ .closed)).map Contest.ref ++
    s.contests.computing.toList.map (fun c => c.opening.ref) ++ s.contests.considering.map RoundOpen.ref

/-- No reference stands twice among the records that are not CLOSED, the computation and the rounds to consider, so that no
two such records share reference and round; and only while a frame is in its owner's hands is a round being considered
(R82, R100, R101). -/
def State.contestsOk (s : State) : Bool :=
  decide s.openRefs.Nodup &&
    (s.port.headBusy || (decide (s.contests.computing = none) && decide (s.contests.considering = [])))

/-- The queues of the bus port and the report log keep to their capacities (R160, R162, R175). -/
def State.boundsOk (s : State) : Bool :=
  decide (s.port.tx.length ≤ txCapacity) && decide (s.port.rx.length ≤ rxCapacity) &&
    decide (s.control.log.length ≤ logCapacity)

/-- A line within its account: delivered ≤ claimed ≤ quantity (R122). -/
def OrderLine.ok (l : OrderLine) : Bool := decide (l.delivered ≤ l.claimed) && decide (l.claimed ≤ l.quantity)

/-- An OPEN bay: its lines within their accounts, its total within the capacity (R119, R121, R122). -/
def OpenBay.ok (capacity : Nat) (b : OpenBay) : Bool := b.lines.all OrderLine.ok && decide (b.total ≤ capacity)

/-- The delivered count of a bay of a lane; a FREE bay has none. -/
def Lane.deliveredOf (l : Lane) (bay : Fin 4) : Nat :=
  match l.bays[bay] with
  | none => 0
  | some b => b.delivered

/-- Fill with the outstanding counts of the bays up to and including one (R125). -/
def Lane.reserved (l : Lane) (upTo : List (Fin 4)) : Nat := l.fill + sumBy l.outstanding upTo

/-- Wherever something has been delivered behind a bay, the lane still has room for every order up to that bay (R125). -/
def Lane.reserveOk (l : Lane) (capacity : Nat) : List (Fin 4) → List (Fin 4) → Bool
  | _, [] => true
  | before, bay :: rest =>
    (decide (sumBy l.deliveredOf rest = 0) || decide (l.reserved (before ++ [bay]) ≤ capacity)) &&
      Lane.reserveOk l capacity (before ++ [bay]) rest

/-- A lane's account: the age list names the OPEN bays, each once; every OPEN bay is within its account; in a SYNCED lane
fill is the sum of the delivered counts; the reserve for older orders stands; and fill and fill with the anchor's
outstanding tyres are within the capacity (R118 to R122, R125). -/
def Lane.ok (capacity : Nat) (l : Lane) : Bool :=
  decide l.ageList.Nodup && (List.finRange 4).all (fun b => decide (l.ageList.contains b = (l.bays[b]).isSome)) &&
    (List.finRange 4).all (fun b => match l.bays[b] with
      | none => true
      | some o => o.ok capacity) &&
    (!l.synced || decide (l.fill = sumBy l.deliveredOf l.ageList)) && l.reserveOk capacity [] l.ageList &&
    (!l.synced || decide (l.fill ≤ capacity)) && (!l.synced || decide (l.reserved (l.ageList.take 1) ≤ capacity))

/-- Every lane's account is in order, and in SETUP_WAIT every lane is BLIND and holds nothing (R118, R170). -/
def State.lanesOk (s : State) : Bool :=
  (List.finRange 8).all fun l =>
    (s.lane l).ok s.values.capacity[l] && (!s.inSetupWait || decide (s.lane l = Lane.blind))

/-! ### Legal records, pockets and own claims -/

/-- An inbound id of 16 bits, where a reference has one. -/
def Ref.inRange : Ref → Bool
  | .pick _ => true
  | .store id => decide (id ≤ 65535)

/-- An inbound id of 16 bits, where a task has one. -/
def TaskWork.inRange : TaskWork → Bool
  | .pick _ => true
  | .load id => decide (id ≤ 65535)
  | .restore _ => true

/-- Every slot record is legal (R3), and so is all stock data and every inbound id that a write can take into one: those of
offers, contest records, open rounds, tasks and LOAD tasks handed over (R2). -/
def State.stockOk (s : State) : Bool :=
  (s.store.table.all fun e => e.2.record.legal) &&
    (s.contests.offers.all fun o => decide (o.inboundId ≤ 65535) && stockInRange o.stock) &&
    (s.contests.records.all fun c => c.ref.inRange && c.offered.all stockInRange) &&
    (s.contests.computing.all fun c => c.opening.ref.inRange) && (s.contests.considering.all fun o => o.ref.inRange) &&
    (s.planner.queue.all fun t => t.work.inRange) &&
    (s.audit.relocations.all fun r => decide (r.inboundId ≤ 65535) && r.expected.all stockInRange)

/-- An entry whose tyre waits for its grant or is not in its pocket yet: ASSIGNED, CARRIED, LOADED (R133). -/
def PocketEntry.live (e : PocketEntry) : Bool :=
  decide (e.state = .assigned) || decide (e.state = .carried) || decide (e.state = .loaded)

/-- The parts of an entry are those of its state: a line in every state but RESTORE, a grant time in GRANTED and JAMMED, an
INTENT status other than NONE in CARRIED and LOADED alone (R133, R137). -/
def PocketEntry.shaped (e : PocketEntry) : Bool :=
  decide (e.line.isSome = decide (e.state ≠ .restore)) &&
    decide (e.grantedAt.isSome = (decide (e.state = .granted) || decide (e.state = .jammed))) &&
    (decide (e.intent = .none) || decide (e.state = .carried) || decide (e.state = .loaded))

/-- Whether a pocket holds a live entry whose order is not the anchor of its lane. -/
def State.waitsBehindAnchor (s : State) (p : Fin 2) : Bool :=
  match (s.pocket p).entryOf with
  | none => false
  | some e => e.live && e.line.any fun l => !s.isAnchor l

/-- The law of R133 at one entry: its parts, its OPEN bay, and for ASSIGNED its PICK task (R135). -/
def State.entryOk (s : State) (e : PocketEntry) : Bool :=
  e.shaped && (!e.live || e.line.any fun l => (s.openBay l).isSome) &&
    (decide (e.state ≠ .assigned) ||
      s.planner.queue.any fun t => decide (t.slot = e.slot) && decide (some t.work = e.line.map TaskWork.pick))

/-- The laws of R133 and R134: every entry within its law, no two ASSIGNED to one slot, and never two live entries of orders
that are not anchors. -/
def State.pocketsOk (s : State) : Bool :=
  (bothPockets.all fun p => (s.pocket p).entryOf.all s.entryOk) &&
    !(s.waitsBehindAnchor 0 && s.waitsBehindAnchor 1) &&
    (match s.entryIn 0 .assigned, s.entryIn 1 .assigned with
     | some a, some b => decide (a.slot ≠ b.slot)
     | _, _ => true)

/-- The PICK tasks of a line. -/
def State.picksOf (s : State) (l : LineRef) : Nat :=
  (s.planner.queue.filter fun t => decide (t.work = .pick l)).length

/-- The pocket entries of a line in CARRIED, LOADED, GRANTED and JAMMED. -/
def State.carriedOf (s : State) (l : LineRef) : Nat :=
  (bothPockets.filter fun p => (s.pocket p).entryOf.any fun e =>
    decide (e.line = some l) && decide (e.state ≠ .assigned) && decide (e.state ≠ .restore)).length

/-- The law of R124 at every line of every OPEN bay of a SYNCED lane, with each PICK task naming such a line. -/
def State.ownClaimsOk (s : State) : Bool :=
  ((List.finRange 8).all fun lane => !(s.lane lane).synced ||
    ((s.lane lane).lineRefs lane).all fun l => (s.lineAt l).all fun x =>
      decide (x.ownClaim = s.picksOf l + s.carriedOf l + x.ownDelivered)) &&
    (s.planner.queue.all fun t => match t.work with
      | .pick l => (s.lineAt l).isSome
      | .load _ => true
      | .restore _ => true)

/-- What a bus with one station of each number and fresh order ids never breaks: an own CLAIM at the head of the receive
queue takes no more than its record has slots for, and an ORDER there names no line of a tyre still being released. -/
def State.fairHead (s : State) : Bool :=
  match s.port.rx with
  | [] => true
  | h :: _ =>
    match frameKind h.frame.key with
    | some .claim =>
      let c := claimOf h.frame.payload
      decide (h.frame.key.station ≠ s.own) ||
        (s.claimOwner c).all fun r => decide ((s.applyAnyClaim c true).quantity ≤ r.slots.length)
    | some .order =>
      bothPockets.all fun p => (s.pocket p).entryOf.all fun e =>
        e.live || e.line.all fun l => !((orderOf h.frame.payload).refs.contains (.pick l))
    | _ => true

end Sys2Proof.Machine
end

