-- ==== Sys2Proof/Certificates/Slice0/Obligations.lean ====
section
/-! DEFINITION. The statements for the provers. Each formalises rules of the specification about the model; where one rests
on a choice of the model's own, its docstring names the log entry. Hypotheses speak of the state and the operands alone;
`State.kept` and `State.work` (Safety.lean) say what stays as it is. -/

section
open Sys2Proof Sys2Proof.Machine

/-! ### Steps, reset and the laws of every state -/

/-- A step takes the command at the front of the queue and runs it on the state with the queue's rest. -/
def Obligations.StepRunsTheFrontCommand : Prop :=
  ∀ (c : Instr) (rest : List Instr) (s : State), s.pending = c :: rest → step s = exec c (s.setPending rest)

/-- With no command waiting: a part that does not run stands still; a running part takes its first due step, and otherwise
one millisecond passes, which the station timer counts, an open dwell unless HALT is in force (R73), and every lamp line
that blinks: a FLASH line is on for 500 ms and off for 500 ms, a FAST line on for 125 ms and off for 125 ms, a STEADY line
is on and any other off (R67). When time passes is the model's choice (log 1); where a line begins in its on and off times
is log 56's free value, of which nothing is said. -/
def Obligations.StepWithoutACommand : Prop :=
  ∀ s : State, s.pending = [] →
    (s.isRunning = false → step s = .next s) ∧
      (∀ i, s.isRunning = true → s.firstDue = some i → step s = exec i s) ∧
      (s.isRunning = true → s.firstDue = none →
        step s = .next { s with
          timer := s.timer + 1,
          face := { s.face with
            dwell := s.face.dwell.map fun d => if s.control.halt then d else { d with elapsed := d.elapsed + 1 },
            blink := Vector.ofFn fun i : Fin 12 => (s.slotLamp i.val).blinkNext s.face.blink[i] } }) ∧
      (∀ i : Fin 12, s.lampOn i = (s.slotLamp i.val).lineOn s.face.blink[i]) ∧
      (∀ b n : Nat,
        Lamp.lineOn .off b = false ∧ Lamp.lineOn .steady b = true ∧
          (0 < n → Lamp.lineOn .flash (Nat.iterate (Lamp.blinkNext .flash) n b) = decide ((b + n) % 1000 < 500) ∧
            Lamp.lineOn .fast (Nat.iterate (Lamp.blinkNext .fast) n b) = decide ((b + n) % 250 < 125)))

/-- The state right after reset holds the start values of every block: 1.6, 2.10, 3.9, R62, R65, R76, R96, R98, R113, R118,
R119, R133, R151 to R153, R168, R171 to R177. That the reset is a cold start with the straps of station 1, and the timer's
0, are the model's choices (logs 2, 3). The laws stated below as kept by every step hold in it. -/
def Obligations.ResetStateAndItsLaws : Prop :=
  (State.reset.pending = [] ∧ State.reset.power = .running ∧ (∀ p, Memory.get State.reset.store.table p = Cell.unverified) ∧
      State.reset.store.corrections = 0 ∧ State.reset.store.marker = .intact none) ∧
    (State.reset.drive.state = .unhomed ∧ State.reset.drive.brake = true ∧ State.reset.drive.duty = 0 ∧
      State.reset.drive.direction = .forward ∧ State.reset.drive.position = 0 ∧
      State.reset.drive.positionKnown = false ∧ State.reset.drive.target = none ∧ State.reset.drive.held = none ∧
      State.reset.drive.faultKind = none ∧ State.reset.drive.active = .normal ∧
      State.reset.drive.warnBelow = false ∧ State.reset.drive.cutBelow = false ∧
      State.reset.drive.stickyWarn = false ∧ State.reset.drive.stickyCut = false ∧
      State.reset.drive.warnFilter.since = none ∧ State.reset.drive.cutFilter.since = none) ∧
    (State.reset.planner.queue = [] ∧ State.reset.planner.stopRun = 0 ∧ State.reset.planner.parkTarget = none ∧
      State.reset.planner.inFlight = none ∧ State.reset.planner.bidHold = false ∧
      State.reset.planner.graceSince = none) ∧
    (State.reset.face.image = Vector.replicate 12 SensorPos.unknown ∧ State.reset.face.dwell = none ∧
      State.reset.face.receiving = [] ∧ State.reset.contests.records = [] ∧ State.reset.contests.offers = [] ∧
      State.reset.contests.relinquish = [] ∧ (∀ l, State.reset.lane l = Lane.blind) ∧
      (∀ p, State.reset.pocket p = .free) ∧ (∀ p, State.reset.gateOpen p = false)) ∧
    (State.reset.audit.marks = Vector.replicate 48 WeightMark.notChecked ∧ State.reset.audit.sweep = [] ∧
      State.reset.audit.scanned = 0 ∧ State.reset.audit.found = 0 ∧ State.reset.audit.scans = []) ∧
    (State.reset.port.tx = [] ∧ State.reset.port.rx = [] ∧ State.reset.port.txErrors = 0 ∧
      State.reset.port.rxErrors = 0 ∧ State.reset.port.confinement = .active ∧ State.reset.port.warn = false ∧
      State.reset.port.stickyLevel = false ∧ State.reset.port.stickyForm = false ∧
      State.reset.port.stickyCheck = false ∧ State.reset.port.stickyAck = false ∧ State.reset.port.gaps = 0 ∧
      State.reset.values.policy = .key) ∧
    (State.reset.control.service = .setupWait ∧ State.reset.control.received = SetupValues.default ∧
      State.reset.control.settled = SetupValues.default ∧ State.reset.control.halt = false ∧
      State.reset.control.week = 0 ∧ State.reset.control.log = [] ∧ State.reset.control.lost = 0 ∧
      State.reset.control.startKind = .cold ∧ State.reset.control.statePending = true) ∧
    (State.reset.tableOk = true ∧ State.reset.confinementOk = true ∧ State.reset.brakeOk = true ∧
      State.reset.queueOk = true ∧ State.reset.boundsOk = true ∧ State.reset.lanesOk = true ∧
      State.reset.setupOk = true ∧ State.reset.stockOk = true ∧ State.reset.pocketsOk = true ∧
      State.reset.ownClaimsOk = true ∧ State.reset.bidHoldOk = true ∧ State.reset.contestsOk = true)

/-- The retained table keeps its canonical form: 512 positions, each with one record (R1). The form is the model's (log 32).
-/
def Obligations.TableStaysCanonical : Prop :=
  ∀ s t : State, s.tableOk = true → step s = .next t → t.tableOk = true

/-- Every slot record stays legal (R3): stock data, reason and inbound id present exactly as its state says, every field in
its range of R2; with it the stock data and inbound ids that offers, contests, tasks and relocations hold. -/
def Obligations.SlotRecordsStayLegal : Prop :=
  ∀ s t : State, s.stockOk = true → step s = .next t → t.stockOk = true

/-- The confinement state and the WARN flag are judged again at every change of a counter, so every step leaves them as the
counters give them (R166). The brake is released only while MOVING and while a homing turns, and MOT_DUTY is 0 whenever the
brake is set (R21, the table of 2.3). -/
def Obligations.ConfinementAndBrakeFollowTheirRules : Prop :=
  (∀ s t : State, s.confinementOk = true → step s = .next t → t.confinementOk = true) ∧
    (∀ s t : State, s.brakeOk = true → step s = .next t → t.brakeOk = true)

/-- The law of R43: never more than 24 tasks nor more than 22 PICK and LOAD tasks, and no slot the subject of two. The
transmit queue holds up to 8 frames (R162), the receive queue up to 16 (R160), the report log up to 16 records (R175). No
two contest records that are not CLOSED share a reference and a round (R100). The bidding hold (R54): the number of ordinary
tasks after an addition or a removal turns it held at the stop mark or above and clear at the resume mark or below, and
leaves it between the two; so the two agree in every state; and while it is held no round is computed, so that none makes a
bid. With the contest records it is kept that a computation in progress or a round that waits to be considered stands only
while a frame is in its owner's hands, which is log 7's deduction. -/
def Obligations.QueuesKeepTheirLaws : Prop :=
  (∀ s t : State, s.queueOk = true → step s = .next t → t.queueOk = true) ∧
    (∀ s t : State, s.boundsOk = true → step s = .next t → t.boundsOk = true) ∧
    (∀ s t : State, s.contestsOk = true → step s = .next t → t.contestsOk = true) ∧
    (∀ s t : State, s.setupOk = true → s.bidHoldOk = true → step s = .next t → t.bidHoldOk = true) ∧
    (∀ s : State,
      let count := (s.planner.queue.filter fun x => x.work.ordinary).length
      let hold (n : Nat) : Bool :=
        if s.values.stopMark ≤ n then true else if n ≤ s.values.resumeMark then false else s.planner.bidHold
      (∀ work slot, (s.addTask work slot).planner.bidHold = hold (if work.ordinary then count + 1 else count)) ∧
        (∀ x slot, s.taskOn slot = some x →
          (s.dropTask slot).planner.bidHold = hold (if x.work.ordinary then count - 1 else count)) ∧
        (s.planner.bidHold = true → s.contests.computing = none →
          s.considerRounds = s.setContests { s.contests with considering := [] }))

/-- The laws of R133 and R134: every pocket entry in ASSIGNED, CARRIED or LOADED names an OPEN bay of a SYNCED lane, an
ASSIGNED one with its PICK task, and two such entries of orders that are not anchors never stand together. The law of R124:
this station's own claim on every line is its PICK tasks, its entries in CARRIED, LOADED, GRANTED and JAMMED and its own
delivered count, where an own CLAIM takes no more than its record has slots for and an ORDER names no line of a tyre still
being released (`fairHead`). The lanes and the queue keep their own laws, which are the statements beside this one. -/
def Obligations.PocketsAndOwnClaimsKeepTheirLaws : Prop :=
  ∀ s t : State, s.lanesOk = true → s.queueOk = true → s.pocketsOk = true → step s = .next t →
    t.pocketsOk = true ∧ (s.ownClaimsOk = true → s.fairHead = true → t.ownClaimsOk = true)

/-- The laws of R118, R122 and R125: in a SYNCED lane fill is the sum of the delivered counts, delivered ≤ claimed ≤
quantity on every line of an OPEN bay, fill never exceeds the capacity, nor does fill with the anchor's outstanding tyres;
with them the reserve for every older order that condition 2 of R125 keeps. -/
def Obligations.LaneAccountsStayInOrder : Prop :=
  ∀ s t : State, s.lanesOk = true → step s = .next t → t.lanesOk = true

/-- Received and settled setup values lie in their ranges, the settled table fits 512 positions, the resume mark lies below
the stop mark, the SLOW duty is at most the NORMAL duty and the CUT level lies below the WARN level (R21, R54, R171). -/
def Obligations.SetupValuesStayInRange : Prop :=
  ∀ s t : State, s.setupOk = true → step s = .next t → t.setupOk = true

/-! ### Power and starts -/

/-- A cold start (R19): every position of the retained store SUSPECT(UNVERIFIED), the correction count 0, the marker intact
without a geometry, no discrepancy record; whatever geometry setup then gives, every slot begins UNVERIFIED, no slot is
offered to a contest, and the tower bids for nothing; nor is a slot offered as long as it stands UNVERIFIED. -/
def Obligations.ColdStartLaysOutTheStore : Prop :=
  ∀ (stn : BitVec 5) (rate : BitVec 2) (s : State), ∃ t, exec (.coldStart stn rate) s = .next t ∧
    (∀ p, Memory.get t.store.table p = { record := .suspect .unverified, flipped := 0 }) ∧ t.store.corrections = 0 ∧
    t.store.marker = .intact none ∧ t.control.log = [] ∧
    (∀ g p, Memory.get (t.store.compareGeometry g).table p = { record := .suspect .unverified, flipped := 0 }) ∧
    (∀ l n, t.pickFit l n = false) ∧ (∀ size n, t.storeFit size n = false) ∧ (∀ ref, t.bidResult ref = none) ∧
    (∀ (u : State) (n : Nat), u.recordAt n = SlotRecord.suspect .unverified →
      (∀ l, u.pickFit l n = false) ∧ ∀ size, u.storeFit size n = false)

/-- Both starts read the straps, give every block but the store its start values and end in SETUP_WAIT, with the TOWER_STATE
offered where the straps are accepted and pending for good where they are refused (R169, R176, R177). A start with the
marker lost is a cold one: the model's choice for WARM_START (R17, R177; log 21). The drive's start values put the curtain
cause in force until its input has adopted a level (log 13) and give fields without a meaning the values of log 22. -/
def Obligations.StartsTakeTheStartValues : Prop :=
  ∀ (stn : BitVec 5) (rate : BitVec 2) (flips : List (Fin 512)) (s : State) (c : Instr),
    (c = .coldStart stn rate ∨ c = .warmStart stn rate flips) →
    ∃ t, exec c s = .next t ∧ t.pending = s.pending ∧ t.power = .running ∧ t.drive = Drive.start ∧
      t.planner = Planner.start ∧ t.face = FaceUnit.start ∧ t.contests = ContestEngine.start ∧
      t.lanes = LaneTracker.start ∧ t.audit = AuditUnit.start ∧ t.port.rx = [] ∧
      t.port.txErrors = 0 ∧ t.port.rxErrors = 0 ∧ t.port.confinement = .active ∧ t.port.warn = false ∧
      t.control.stationNumber = stn ∧ t.control.rateCode = rate ∧ t.control.service = .setupWait ∧
      t.control.received = SetupValues.default ∧ t.control.settled = SetupValues.default ∧ t.control.halt = false ∧
      t.control.week = 0 ∧
      t.control.startKind = (if c = .warmStart stn rate flips ∧ s.store.marker ≠ .lost then .warm else .cold) ∧
      (t.control.strapsAccepted = true → t.port.tx.map (fun x => (x.frame.key, x.state)) = [(makeKey 5 0 stn, .queued)]) ∧
      (t.control.strapsAccepted = false → t.port.tx = [] ∧ t.control.statePending = true ∧ t.faultLamp = true)

/-- A warm start brings the table to rest (R9, R18): a record read intact or corrected takes the record of R18's table, an
uncorrectable one SUSPECT(CORRUPT); after it no slot of the recorded geometry is PICK_CLAIMED, RESERVED_IN or OUTBOUND;
positions beyond the geometry are not touched. What counts as uncorrectable is log 5's reading, how bits flip log 4's. -/
def Obligations.WarmStartBringsTheTableToRest : Prop :=
  ∀ (stn : BitVec 5) (rate : BitVec 2) (flips : List (Fin 512)) (s : State),
    s.tableOk = true → s.store.marker ≠ .lost →
    ∃ t, exec (.warmStart stn rate flips) s = .next t ∧ t.store.marker = s.store.marker ∧
      (∀ n, n < s.store.marker.slots → n < maxPositions →
        let c := Memory.get (s.store.flipped flips).table n
        Memory.get t.store.table n =
            { record := (if c.flipped = 0 ∨ (c.flipped = 1 ∧ c.record.legal = true) then c.record
                else SlotRecord.suspect .corrupt).atRest,
              flipped := 0 } ∧
          (t.recordAt n).state ≠ .pickClaimed ∧ (t.recordAt n).state ≠ .reservedIn ∧
          (t.recordAt n).state ≠ .outbound) ∧
      (∀ n, s.store.marker.slots ≤ n → Memory.get t.store.table n = Memory.get (s.store.flipped flips).table n)

/-- Losing the main supply, RESET_IN and losing the standby supply (R17, R177): the part stops, its state is lost, its lines
are not driven, and only the retained store is kept; with the marker lost, not even that. Lost state holds its value at
reset (log 22), and a part without the main supply cannot be stopped again (log 21). A part that does not run takes no other
command, which is the model's choice (log 21). -/
def Obligations.StoppingKeepsOnlyTheStore : Prop :=
  (∀ s : State,
    let stopped (t : State) (p : Power) : Prop :=
      t.power = p ∧ t.isRunning = false ∧ t.lines = none ∧ t.faultLamp = false ∧ t.errorMark = none ∧
        t.pending = s.pending ∧ t.drive = Drive.start ∧ t.planner = Planner.start ∧
        t.face = FaceUnit.start ∧ t.contests = ContestEngine.start ∧ t.lanes = LaneTracker.start ∧
        t.audit = AuditUnit.start ∧ t.port = BusPort.start ∧ t.control.halt = false ∧ t.control.week = 0 ∧
        t.control.log = [] ∧ t.control.received = SetupValues.default ∧ t.control.settled = SetupValues.default
    (s.power ≠ .unpowered → ∃ t, exec .standby s = .next t ∧ stopped t .standby ∧ t.store = s.store) ∧
      (s.power = .running ∨ s.power = .resetHeld →
        ∃ t, exec .resetAssert s = .next t ∧ stopped t .resetHeld ∧ t.store = s.store) ∧
      (∃ t, exec .markerLost s = .next t ∧ stopped t .unpowered ∧ t.store.marker = .lost)) ∧
    (∀ (c : Instr) (s : State), s.isRunning = false → c ≠ .standby → c ≠ .resetAssert → c ≠ .markerLost →
      (∀ stn rate, c ≠ .coldStart stn rate) → (∀ stn rate flips, c ≠ .warmStart stn rate flips) → exec c s = .next s)

/-! ### The Aisle Bus Port -/

/-- A success that joins (R160): the frame stands at the tail of the receive queue with the timer as its stamp, unless the
owner of the head finishes in the same step and the queue is otherwise empty. One that does not join leaves the queue as it
is. An own frame leaves the transmit queue (R162). FRAME_HEARD of a frame that would join a full queue is taken as the hold
it brings, which moves no counter, outside listen-only (log 11). -/
def Obligations.FrameHeardJoinsTheQueue : Prop :=
  ∀ (s : State) (f : Frame), s.isRunning = true → s.onBus = true → f.payload.length ≤ 16 →
    ∃ t, exec (.frameHeard f) s = .next t ∧
      (frameJoins s.own f = true → s.port.rx.length < rxCapacity → s.port.headBusy = false →
        t.port.rx = s.port.rx ++ [{ frame := f, stamp := s.timer }]) ∧
      (frameJoins s.own f = true → s.port.rx.length < rxCapacity → s.port.rx ≠ [] →
        t.port.rx.getLast? = some { frame := f, stamp := s.timer }) ∧
      (frameJoins s.own f = false → s.port.headBusy = false → t.port.rx = s.port.rx) ∧
      (f.key.station = s.own → s.wouldOverflow f = false → s.confinementOk = true →
        removeFirst (fun x => decide (x.frame = f ∧ x.state = .sending)) s.port.tx <+: t.port.tx) ∧
      (s.wouldOverflow f = true → s.listenOnly = false →
        t.port.txErrors = s.port.txErrors ∧ t.port.rxErrors = s.port.rxErrors ∧
          (s.port.headBusy = false → t.port.rx = s.port.rx))

/-- The two error counters (R165): the transmit counter rises by 4 for each transmit error, not above 160, and falls by 1
for each own frame heard; the receive counter rises by 1 for each receive error, not above 255, and falls by 1 for each
frame of another station heard, a discarded one included; neither falls below 0; a hold and a lost arbitration move neither;
both are 0 at any start, and every TOWER_STATE carries both. -/
def Obligations.CountersFollowTheBus : Prop :=
  (∀ (s : State) (f : Frame), s.isRunning = true → s.onBus = true → f.payload.length ≤ 16 → s.wouldOverflow f = false →
      ∃ t, exec (.frameHeard f) s = .next t ∧
        t.port.txErrors = (if f.key.station = s.own then s.port.txErrors - 1 else s.port.txErrors) ∧
        t.port.rxErrors = (if f.key.station = s.own then s.port.rxErrors else s.port.rxErrors - 1)) ∧
    (∀ (s : State) (kind : BusError), s.isRunning = true → s.onBus = true →
      ∃ t, exec (.busError kind .transmitter) s = .next t ∧ t.port.txErrors = min 160 (s.port.txErrors + 4) ∧
        t.port.rxErrors = s.port.rxErrors) ∧
    (∀ (s : State) (kind : BusError), s.isRunning = true → s.onBus = true →
      ∃ t, exec (.busError kind .receiver) s = .next t ∧ t.port.txErrors = s.port.txErrors ∧
        t.port.rxErrors = min 255 (s.port.rxErrors + 1)) ∧
    (∀ s : State, s.isRunning = true → s.onBus = true →
      ∃ t, exec (.errorMarkSeen .transmitter) s = .next t ∧ t.port.txErrors = min 160 (s.port.txErrors + 4) ∧
        t.port.rxErrors = s.port.rxErrors) ∧
    (∀ (s : State) (c : Instr),
      (c = .errorMarkSeen .receiver ∨ (∃ role, c = .frameHeld role) ∨ (∃ rival, c = .idleBusContend rival)) →
      ∃ t, exec c s = .next t ∧ t.port.txErrors = s.port.txErrors ∧ t.port.rxErrors = s.port.rxErrors) ∧
    (∀ (s : State) (c : Instr),
      ((∃ stn rate, c = .coldStart stn rate) ∨ (∃ stn rate flips, c = .warmStart stn rate flips)) →
      ∃ t, exec c s = .next t ∧ t.port.txErrors = 0 ∧ t.port.rxErrors = 0) ∧
    (∀ s : State, s.control.strapsAccepted = true → s.control.reportOut = none → s.txRoom = true →
      s.control.statePending = true →
      ∃ x, s.offerReport.port.tx = s.port.tx ++ [x] ∧ x.frame.key = makeKey 5 0 s.own ∧
        x.frame.payload[3]? = some (byte s.port.txErrors) ∧ x.frame.payload[4]? = some (byte s.port.rxErrors))

/-- An error this station detects sets the sticky flag of its kind (R159); no other flag is touched, unless a TOWER_STATE
takes its contents at the end of the same step, which no REPORT standing in the transmit queue rules out. A frame sent that
fails by a hold or an error stays and counts a retry; a BID whose count equals the limit is given up instead, and its record
is freed unless it is CLAIMING (R107, R158, R159, R164). A receiver's hold changes nothing here. The error mark is dominant
in ACTIVE, recessive in QUIET, and none in OFF, in listen-only and with refused straps; a receiver that has found no error
acknowledges under the same conditions (R158, R159, R166 to R168). -/
def Obligations.ErrorsSetFlagsAndHoldsCountRetries : Prop :=
  (∀ (s : State) (kind : BusError) (role : BusRole), s.isRunning = true → s.onBus = true → s.control.reportOut ≠ none →
      ∃ t, exec (.busError kind role) s = .next t ∧
        t.port.stickyLevel = (s.port.stickyLevel || decide (kind = .level)) ∧
        t.port.stickyForm = (s.port.stickyForm || decide (kind = .form)) ∧
        t.port.stickyCheck = (s.port.stickyCheck || decide (kind = .check)) ∧
        t.port.stickyAck = (s.port.stickyAck || decide (kind = .ack))) ∧
    (∀ s : State, s.isRunning = true → s.onBus = true →
        (∀ i x, s.contenderAt = some i → s.port.tx[i]? = some x →
          ¬(Frame.isBid x.frame = true ∧ s.values.bidRetryLimit ≤ x.retries) →
          ∃ t, exec (.frameHeld .transmitter) s = .next t ∧ t.kept = s.kept ∧ t.contests.records = s.contests.records ∧
            s.port.tx.set i { x with retries := x.retries + 1 } <+: t.port.tx) ∧
          (∀ i x, s.contenderAt = some i → s.port.tx[i]? = some x → Frame.isBid x.frame = true →
            s.values.bidRetryLimit ≤ x.retries →
            ∃ t, exec (.frameHeld .transmitter) s = .next t ∧ t.kept = s.kept ∧
              (∀ c ∈ t.contests.records, c.bidFrame.isSome = true → bidFrameOf s.own c ≠ x.frame) ∧
              ((∀ c ∈ s.contests.records, c.claimFrame ≠ some .queued) → s.port.tx.eraseIdx i <+: t.port.tx)) ∧
          (∃ t, exec (.frameHeld .receiver) s = .next t ∧ t.kept = s.kept ∧ t.contests.records = s.contests.records ∧
            s.port.tx <+: t.port.tx)) ∧
    (∀ (s : State) (cmd : Instr) (i : Nat) (x : TxFrame), s.isRunning = true → s.onBus = true →
        (cmd = .frameHeld .transmitter ∨
          ((cmd = .errorMarkSeen .transmitter ∨ ∃ kind, cmd = .busError kind .transmitter) ∧
            confinementOf (min 160 (s.port.txErrors + 4)) s.port.rxErrors = s.port.confinement)) →
        s.contenderAt = some i → s.port.tx[i]? = some x →
        ∃ t, exec cmd s = .next t ∧
          (¬(Frame.isBid x.frame = true ∧ s.values.bidRetryLimit ≤ x.retries) →
            t.contests.records = s.contests.records ∧
              s.port.tx.set i { x with retries := x.retries + 1 } <+: t.port.tx) ∧
          (∀ c, Frame.isBid x.frame = true → s.values.bidRetryLimit ≤ x.retries → s.contests.records = [c] →
            c.bidFrame ≠ none → bidFrameOf s.own c = x.frame →
            (c.state = .claiming →
              t.contests.records = [{ c with bidFrame := none }] ∧ s.port.tx.eraseIdx i <+: t.port.tx) ∧
              (c.state ≠ .claiming → t.contests.records = []))) ∧
    (∀ (s : State) (role : BusRole) (found : Bool) (f : Frame), s.isRunning = true →
      (s.control.strapsAccepted = true → s.control.service ≠ .joining →
        (s.port.confinement = .active → s.errorMark = some .dominant) ∧
          (s.port.confinement = .quiet → s.errorMark = some .recessive) ∧
          (s.port.confinement ≠ .off → s.acknowledges role found = (decide (role = .receiver) && !found) ∧
            s.drivesHold f = (frameJoins s.own f && decide (16 ≤ s.port.rx.length)))) ∧
      (s.control.strapsAccepted = false ∨ s.control.service = .joining ∨ s.port.confinement = .off →
        s.errorMark = none ∧ s.acknowledges role found = false ∧ s.drivesHold f = false))

/-- The frame the port contends with (R162): a SENDING one; else under KEY the lowest key, the one queued first among
equals, and under ENTRY the one queued first. On an idle bus it goes on the bus and is SENDING, unless a lower key stands
against it; its owner is told, so that the pocket entry of an INTENT becomes ON_BUS (R137), and a frame that loses keeps its
place and its state (R157). -/
def Obligations.IdleBusStartsTheChosenFrame : Prop :=
  (∀ (policy : TxPolicy) (tx : List TxFrame) (i : Nat) (x : TxFrame), tx[i]? = some x → x.state = .sending →
      (∀ j y, j < i → tx[j]? = some y → y.state = .queued) → contenderPlace policy tx = some i) ∧
    (∀ tx : List TxFrame, tx ≠ [] → (∀ y ∈ tx, y.state = .queued) →
      contenderPlace .entry tx = some 0 ∧
        ∃ i x, contenderPlace .key tx = some i ∧ tx[i]? = some x ∧
          ∀ j y, tx[j]? = some y →
            keyValue x.frame.key ≤ keyValue y.frame.key ∧
              (keyValue x.frame.key = keyValue y.frame.key → i ≤ j)) ∧
    (∀ policy, contenderPlace policy [] = none) ∧
    (∀ (s : State) (rival : Option Key) (i : Nat) (x : TxFrame), s.isRunning = true → s.onBus = true →
        s.listenOnly = false → s.contenderAt = some i → s.port.tx[i]? = some x →
        ∃ t, exec (.idleBusContend rival) s = .next t ∧ t.kept = s.kept ∧
          ((∃ k, rival = some k ∧ keyValue k < keyValue x.frame.key) →
            s.port.tx <+: t.port.tx ∧ t.contests.records = s.contests.records) ∧
          ((∀ k, rival = some k → keyValue x.frame.key ≤ keyValue k) →
            s.port.tx.set i { x with state := .sending } <+: t.port.tx ∧
              (x.state = .queued → t.contests.records = s.contests.records.map (Contest.onBus s.own x.frame)) ∧
              (∀ lane p e rest, x.state = .queued → frameKind x.frame.key = some (.intent lane) → s.quiet →
                s.entriesWith (intentLineOf lane x.frame.payload) .queued = (p, e) :: rest →
                t.pocket p = .entry { e with intent := .onBus })))

/-- Entry to OFF (R98, R115, R131, R167): the transmit error that brings the counter to 160 leaves no lane SYNCED, no offer,
no contest record and no computation, no BID, CLAIM or INTENT in the transmit queue and no pocket entry in ASSIGNED, CARRIED
or LOADED, while the other frames stay with their transmit states. Entry to QUIET frees the contest records alone; a receive
error in QUIET loses the view of the bus too, and so does an overflow while joining, which restarts the joining period and
loses its frame (R115, R131, R161). That no computation is in progress after an entry to QUIET or OFF or a receive error in
QUIET, because an exit discards it, is log 7's deduction from R115. In OFF every 12 recessive bit times of a run count one
idle gap; at 96 gaps both counters are 0 and the port is ACTIVE (R167). How a run reaches the model is log 26's choice. -/
def Obligations.QuietAndOffGiveUpTheView : Prop :=
  (∀ (s : State) (c : Instr), s.isRunning = true → s.onBus = true → s.confinementOk = true → 156 ≤ s.port.txErrors →
    (c = .errorMarkSeen .transmitter ∨ ∃ kind, c = .busError kind .transmitter) →
    ∃ t, exec c s = .next t ∧ t.port.confinement = .off ∧ t.port.txErrors = 160 ∧ t.port.gaps = 0 ∧
      (∀ l, (t.lane l).synced = false) ∧ t.contests.offers = [] ∧ t.contests.records = [] ∧
      t.contests.computing = none ∧ (∀ x ∈ t.port.tx, givenUpAtOff x.frame = false) ∧
      (s.lanesOk = true → s.queueOk = true → s.pocketsOk = true →
        ∀ p e, t.pocket p = .entry e → e.state ≠ .assigned ∧ e.state ≠ .carried ∧ e.state ≠ .loaded) ∧
      ((s.port.tx.filter fun x => !givenUpAtOff x.frame).map fun x => (x.frame, x.state)) <+:
        t.port.tx.map fun x => (x.frame, x.state)) ∧
    (∀ (s : State) (c : Instr), s.isRunning = true → s.onBus = true → s.confinementOk = true →
      s.port.confinement = .active →
      ((c = .errorMarkSeen .transmitter ∨ ∃ kind, c = .busError kind .transmitter) ∧ 92 ≤ s.port.txErrors ∨
        (∃ kind, c = .busError kind .receiver) ∧ s.port.rxErrors = 95 ∧ s.listenOnly = false) →
      ∃ t, exec c s = .next t ∧ t.port.confinement = .quiet ∧ t.contests.records = [] ∧
        t.contests.computing = none ∧ t.contests.offers = s.contests.offers ∧ t.sharedLanes = s.sharedLanes) ∧
    (∀ (s : State) (kind : BusError), s.isRunning = true → s.onBus = true → s.confinementOk = true →
      s.port.confinement = .quiet →
      ∃ t, exec (.busError kind .receiver) s = .next t ∧ t.contests.records = [] ∧ t.contests.computing = none ∧
        t.contests.offers = [] ∧ ∀ l, (t.lane l).synced = false) ∧
    (∀ (s : State) (c : Instr), s.isRunning = true → s.onBus = true → s.control.service = .joining →
      ((∃ kind, c = .busError kind .receiver) ∨
        ∃ f, c = .frameHeard f ∧ f.payload.length ≤ 16 ∧ s.wouldOverflow f = true) →
      ∃ t, exec c s = .next t ∧ t.control.joinSince = some s.timer ∧ t.contests.offers = [] ∧
        (∀ l, (t.lane l).synced = false) ∧ (s.port.headBusy = false → t.port.rx = s.port.rx)) ∧
    (∀ (s : State) (bits : Nat), s.isRunning = true → s.port.confinement = .off →
      ∃ t, exec (.offRecovery bits) s = .next t ∧
        (s.port.gaps + bits / 12 < 96 → t.kept = { s.kept with gaps := s.port.gaps + bits / 12 }) ∧
        (96 ≤ s.port.gaps + bits / 12 →
          t.kept = { s.kept with gaps := 0, txErrors := 0, rxErrors := 0, confinement := .active, warn := false }) ∧
        s.port.tx <+: t.port.tx ∧ t.contests.records = s.contests.records)

/-- A place that frees goes to the first owner that waits (R162): the second-chance CLAIMs, the INTENTs of pocket 0 and then
1, the RELINQUISH, the REPORT, which is a TOWER_STATE if its flag is pending and otherwise carries the oldest record of the
log, which stays in the log (R175). -/
def Obligations.FreedPlaceGoesToTheFirstWaiting : Prop :=
  ∀ s : State, s.isRunning = true → s.txRoom = true → s.quiet →
    ∃ t, exec .txPlaceFreed s = .next t ∧ t.kept = s.kept ∧
      (∀ c, s.waitingClaim = some c →
        s.port.tx ++ [{ frame := claimFrameOf s.own c, state := .queued, retries := 0 }] <+: t.port.tx) ∧
      (∀ p e l, s.waitingClaim = none → s.intentWaiting p = true → (p = 0 ∨ s.intentWaiting 0 = false) →
        s.pocket p = .entry e → e.line = some l →
        s.port.tx ++ [{ frame := intentFrameOf s.own l, state := .queued, retries := 0 }] <+: t.port.tx ∧
          t.pocket p = .entry { e with intent := .queued, number := s.lanes.intentCount }) ∧
      (∀ e rest, s.ownerWaits = false → s.contests.relinquish = e :: rest → s.contests.relinquishQueued = false →
        s.port.tx ++ [{ frame := relinquishFrameOf s.own e, state := .queued, retries := 0 }] <+: t.port.tx) ∧
      (s.ownerWaits = false → s.contests.relinquish = [] → s.control.strapsAccepted = true →
        s.control.reportOut = none → s.control.statePending = true →
        s.port.tx ++ [{ frame := reportFrameOf s.own 0 s.towerStatePayload, state := .queued, retries := 0 }]
          <+: t.port.tx) ∧
      (∀ r rest, s.ownerWaits = false → s.contests.relinquish = [] → s.control.strapsAccepted = true →
        s.control.reportOut = none → s.control.statePending = false → s.control.log = r :: rest →
        s.port.tx ++ [{ frame := reportFrameOf s.own (reportKind r.body) (reportPayload r), state := .queued,
                        retries := 0 }] <+: t.port.tx ∧
          t.control.reportOut = some .logRecord ∧ t.control.log = s.control.log)

/-! ### Station Control and the frames of the store computer -/

/-- Frames a block does not take in the service state are discarded (R170): in SETUP_WAIT every frame but SETUP, SETUP END
and an own REPORT (log 20), outside it SETUP and SETUP END. What follows is the end of a step on the state as it was, with
the frame in its owner's hands, and nothing else. -/
def Obligations.DiscardedFramesChangeNothing : Prop :=
  ∀ (s : State) (h : Heard) (k : FrameKind), s.handed h k →
    ((s.control.service = .setupWait ∧ (∀ g, k ≠ .setup g) ∧ k ≠ .setupEnd ∧ (∀ r, k ≠ .report r)) ∨
      (s.control.service ≠ .setupWait ∧ ((∃ g, k = .setup g) ∨ k = .setupEnd))) →
    ∃ t, exec (handOverOf k) s = .next t ∧ t = State.settle s s.inHand ∧ s.standsStill t ∧
      (s.quiet → s.contests.computing = none → t.port.rx = s.port.rx.tail ∧ t.port.headBusy = false)

/-- HALT sets the halt flag and RESUME clears it (R173). A HALT that sets it holds a turning loop at once (R35), the loop's
profile then following the request (log 14), and withdraws a QUEUED INTENT (R137). After a HALT while it is set and a RESUME
while it is clear only the end of a step follows. -/
def Obligations.HaltAndResumeMoveTheFlag : Prop :=
  (∀ (s : State) (h : Heard), s.handed h .halt → s.control.service ≠ .setupWait →
      ∃ t, exec .halt s = .next t ∧ t.kept = { s.kept with halt := true } ∧
        t.contests.records = s.contests.records ∧
        (s.control.halt = true → t = State.settle s s.inHand ∧ s.standsStill t) ∧
        (s.control.halt = false → s.drive.state = .moving →
          t.drive.unstuck = { s.drive.unstuck with
            state := .holding, held := some .move, duty := 0, brake := true, ramp := none, active := s.drive.requested }) ∧
        (s.control.halt = false → s.drive.state = .homing → s.drive.homeFound = false →
          t.drive.unstuck = { s.drive.unstuck with
            state := .holding, held := some .homing, duty := 0, brake := true, ramp := none,
            active := s.drive.requested }) ∧
        (∀ p e l, s.control.halt = false → s.quiet → s.pocket p = .entry e → e.state = .loaded → e.line = some l →
          e.intent = .queued → t.pocket p = .entry { e with intent := .none })) ∧
    (∀ (s : State) (h : Heard), s.handed h .resume → s.control.service ≠ .setupWait →
      ∃ t, exec .resume s = .next t ∧ t.kept = { s.kept with halt := false, homeFound := t.drive.homeFound } ∧
        t.contests.records = s.contests.records ∧
        (s.control.halt = false → t = State.settle s s.inHand ∧ s.standsStill t) ∧
        (∀ p e l, s.control.halt = true → s.quiet → s.port.tx.length + 2 ≤ txCapacity → s.pocket p = .entry e →
          e.state = .loaded → e.line = some l → e.intent = .none →
          ∃ e', t.pocket p = .entry e' ∧ e'.intent = .queued ∧ e'.line = some l ∧ e'.state = .loaded))

/-- A SETUP frame taken in SETUP_WAIT replaces every received value of its group with the value its bytes carry, each
clamped to its range (R171, the layouts of chapter 9.6, the ranges of 10.3), and no other received value; the settled
values, which the blocks work with, stand. -/
def Obligations.SetupReplacesItsGroup : Prop :=
  ∀ (s : State) (h : Heard) (g : Nat), s.handed h (.setup g) → s.control.service = .setupWait →
    let v := s.control.received
    let at1 (i : Nat) : Nat := byteAt h.frame.payload i
    let at2 (i : Nat) : Nat := at1 i * 256 + at1 (i + 1)
    ∃ t, exec .setup s = .next t ∧
      t = State.settle s (s.setControl { s.control with received := t.control.received }).inHand ∧
      t.kept = { s.kept with received := t.control.received } ∧ (s.quiet → t.work = s.work) ∧
      (v.inRange = true → t.control.received.inRange = true) ∧
      (g = 0 → t.control.received = { v with
          carriers := max 8 (min 48 (at1 1)), rows := max 1 (min 3 (at1 2)), columns := max 1 (min 4 (at1 3)),
          rowClass := t.control.received.rowClass } ∧
        ∀ i : Fin 3, t.control.received.rowClass[i] = min 3 (at1 (4 + i.val))) ∧
      (g = 1 → t.control.received = { v with
          capacity := t.control.received.capacity, distance := t.control.received.distance } ∧
        ∀ i : Fin 8, t.control.received.capacity[i] = max 4 (min 24 (at1 (1 + i.val))) ∧
          t.control.received.distance[i] =
            (if i.val % 2 = 0 then at1 (9 + i.val / 2) / 16 else at1 (9 + i.val / 2) % 16)) ∧
      (g = 2 → t.control.received = { v with
          wD := min 31 (at1 1), wP := min 31 (at1 2), wL := min 31 (at1 3), wF := min 31 (at1 4), wU := min 31 (at1 5),
          stopMark := max 4 (min 22 (at1 6)), resumeMark := at1 7, window := min 26 (at1 8),
          saleLimit := max 52 (min 312 (at2 9)) }) ∧
      (g = 3 → t.control.received = { v with
          bidWindow := max 5 (min 200 (at1 1)), dwellTimeout := max 5 (min 600 (at2 2)),
          inboundTimeout := max 10 (min 900 (at2 4)), agingLimit := max 10 (min 600 (at2 6)),
          joinTime := max 1 (min 60 (at1 8)), sweepEvery := max 1 (min 15 (at1 9)),
          faultGrace := max 10 (min 600 (at2 10)), bidRetryLimit := min 15 (at1 12) }) ∧
      (g = 4 → t.control.received = { v with
          countsPerPitch := max 64 (min 4096 (at2 1)), indexTolerance := max 1 (min 64 (at1 3)),
          normalDuty := max 20 (min 100 (at1 4)), slowDuty := max 10 (min 60 (at1 5)),
          warnLevel := max 60 (min 95 (at1 6)), cutLevel := max 50 (min 90 (at1 7)) }) ∧
      (g = 5 → t.control.received = { v with
          activeLow := {
            done := decide (at1 1 / 32 % 2 = 1), stop := decide (at1 1 / 16 % 2 = 1),
            curtain := decide (at1 1 / 8 % 2 = 1), arrival := decide (at1 1 / 4 % 2 = 1),
            pocket0 := decide (at1 1 / 2 % 2 = 1), pocket1 := decide (at1 1 % 2 = 1) },
          weightTolerance := max 5 (min 200 (at1 2)), tare := min 30000 (at2 3),
          policy := if at1 5 = 1 then .entry else .key })

/-- SETUP END (R20, R21, R54, R64, R171, R172): the received values are settled, the geometry compared with the marker's,
the face inputs wait to adopt their levels, the level a line shows being timed from here (log 24) and the curtain's cause in
force until then (log 13), and the service state is JOINING with its timer started. Each supply comparison takes its new
level: the reading it holds starts its filter, leaves it running or stops it (R33; log 37, exactly at a level log 12). -/
def Obligations.SetupEndSettlesTheValues : Prop :=
  ∀ (s : State) (h : Heard), s.handed h .setupEnd → s.control.service = .setupWait →
    ∃ t, exec .setupEnd s = .next t ∧
      t.kept = { s.kept with
        settled := s.control.received.settle, service := .joining, joinSince := some s.timer, done := none, stop := none,
        curtain := none, arrival := none, pocketSense := Vector.replicate 2 none,
        debounces := s.face.debounces.anew s.timer, curtainCause := true,
        curtainClearSince := none, doneSince := none, warnFilter := t.drive.warnFilter, cutFilter := t.drive.cutFilter,
        marker := (s.store.compareGeometry s.control.received.settle.geometry).marker } ∧
      (∀ level,
        let f := s.drive.filterOf level
        let threshold := s.control.received.settle.supplyThreshold level
        f.sense ≠ threshold → t.drive.filterOf level = { f with
          since := if decide (f.sense < threshold) = s.drive.liveBelow level then none
            else some (f.since.getD s.timer) }) ∧
      (s.control.received.inRange = true →
        t.values.inRange = true ∧ t.values.fits = true ∧
          t.values.carriers =
            (if s.control.received.carriers * (s.control.received.rows * s.control.received.columns) ≤ 512
             then s.control.received.carriers
             else 512 / (s.control.received.rows * s.control.received.columns)) ∧
          t.values.resumeMark = (if s.control.received.resumeMark < s.control.received.stopMark
             then s.control.received.resumeMark else s.control.received.stopMark - 1) ∧
          t.values.slowDuty = min s.control.received.slowDuty s.control.received.normalDuty ∧
          t.values.cutLevel = (if s.control.received.cutLevel < s.control.received.warnLevel
             then s.control.received.cutLevel else s.control.received.warnLevel - 5)) ∧
      (s.quiet → t.store.corrections = s.store.corrections ∧ t.control.log = s.control.log ∧
        (s.store.marker = .intact none →
          t.store.table = s.store.table ∧ t.store.marker = .intact (some t.values.geometry)) ∧
        (s.store.marker = .intact (some t.values.geometry) →
          t.store.table = s.store.table ∧ t.store.marker = s.store.marker) ∧
        (∀ g, s.store.marker = .intact (some g) → g ≠ t.values.geometry →
          (∀ p, Memory.get t.store.table p = Cell.unverified) ∧
            t.store.marker = .intact (some t.values.geometry)))

/-- When the joining timer runs out the state becomes STARTING and the drive is asked to home: it turns forward at the SLOW
cruise duty, or holds the homing while a cause is in force (R38, R172). Before that, only the end of a step follows a
JOIN_TIMEOUT (log 33). -/
def Obligations.JoiningEndsInStarting : Prop :=
  ∀ s : State, s.isRunning = true →
    (∀ start, s.control.service = .joining → s.control.joinSince = some start →
        s.values.joinTime * 1000 ≤ elapsedMs s.timer start → s.drive.state = .unhomed →
        ∃ t, exec .joinTimeout s = .next t ∧
          t.kept = { s.kept with
            service := .starting, joinSince := none, faultKind := none, doneSince := none, homeFound := false } ∧
          (s.causeInForce = false → t.drive.state = .homing ∧ t.drive.direction = .forward ∧ t.drive.brake = false ∧
            t.drive.duty = s.values.slowDuty) ∧
          (s.causeInForce = true → t.drive.state = .holding ∧ t.drive.held = some .homing ∧
            t.drive.brake = s.drive.brake ∧ t.drive.duty = s.drive.duty)) ∧
      (s.control.service ≠ .joining ∨ s.control.joinSince = none ∨
          (∃ start, s.control.joinSince = some start ∧ elapsedMs s.timer start < s.values.joinTime * 1000) →
        exec .joinTimeout s = .next (State.settle s s) ∧ s.standsStill (State.settle s s))

/-- This station's own REPORT heard, in SETUP_WAIT too (log 20): the log record it carried leaves the head of the log, and
the next REPORT is offered: a TOWER_STATE if its flag is pending, otherwise the oldest record then in the log (R175). -/
def Obligations.OwnReportHeardFreesItsRecord : Prop :=
  ∀ (s : State) (h : Heard) (k : Nat), s.handed h (.report k) →
    let left := if s.control.reportOut = some .logRecord then s.control.log.tail else s.control.log
    let free : Prop := s.control.strapsAccepted = true ∧ s.txRoom = true ∧ s.ownerWaits = false ∧
      s.contests.relinquish = [] ∧ s.quiet
    ∃ t, exec .reportHeard s = .next t ∧ t.kept = s.kept ∧ t.contests.records = s.contests.records ∧
      (s.quiet → t.work = { s.work with log := left }) ∧
      (free → s.control.statePending = true →
        ∃ x, s.port.tx ++ [x] <+: t.port.tx ∧ x.frame.key = makeKey 5 0 s.own ∧ t.control.reportOut = some .towerState) ∧
      (∀ r rest, free → s.control.statePending = false → left = r :: rest →
        s.port.tx ++ [{ frame := reportFrameOf s.own (reportKind r.body) (reportPayload r), state := .queued,
                        retries := 0 }] <+: t.port.tx ∧
          t.control.reportOut = some .logRecord ∧ t.control.log = left) ∧
      (free → s.control.statePending = false → left = [] → s.port.tx = t.port.tx ∧ t.control.reportOut = none)

/-- CALENDAR sets the store week to the week it carries, later or earlier (R174). A PARK with a carrier below N sets the
park target, replacing any set already; one with a carrier of N or above leaves it (R50). An AUDIT adds the carriers from
first to last to the sweep set, wrapping past N − 1 where first is greater, each carrier at most once; one with a carrier of
N or above is ignored (R152). Each changes that one value, and the end of a step follows. -/
def Obligations.CalendarParkAndAuditSetTheirTargets : Prop :=
  (∀ (s : State) (h : Heard), s.handed h .calendar → s.control.service ≠ .setupWait →
      let week := byteAt h.frame.payload 0 * 256 + byteAt h.frame.payload 1
      ∃ t, exec .calendar s = .next t ∧ t = State.settle s (s.setControl { s.control with week := week }).inHand ∧
        t.kept = { s.kept with week := week } ∧ t.contests.records = s.contests.records ∧
        (s.quiet → t.work = s.work)) ∧
    (∀ (s : State) (h : Heard), s.handed h .park → s.control.service ≠ .setupWait →
      let carrier := byteAt h.frame.payload 1
      let target := if carrier < s.values.carriers then some carrier else s.planner.parkTarget
      ∃ t, exec .park s = .next t ∧
        t = State.settle s (s.setPlanner { s.planner with parkTarget := target }).inHand ∧ t.kept = s.kept ∧
        (s.quiet → t.work = s.work) ∧ (s.drive.state ≠ .idle → t.planner.parkTarget = target)) ∧
    (∀ (s : State) (h : Heard), s.handed h .audit → s.control.service ≠ .setupWait →
      let first := byteAt h.frame.payload 1
      let last := byteAt h.frame.payload 2
      let n := s.values.carriers
      ∃ t, exec .audit s = .next t ∧
        t = State.settle s (s.setAudit { s.audit with sweep := t.audit.sweep }).inHand ∧
        t.kept = { s.kept with sweep := t.audit.sweep } ∧ (s.quiet → t.work = s.work) ∧
        (∀ c, c ∈ t.audit.sweep ↔ c ∈ s.audit.sweep ∨
          (first < n ∧ last < n ∧ c < n ∧
            ((first ≤ last ∧ first ≤ c ∧ c ≤ last) ∨ (last < first ∧ (first ≤ c ∨ c ≤ last))))) ∧
        (s.audit.sweep.Nodup → t.audit.sweep.Nodup) ∧
        (n ≤ first ∨ n ≤ last → t.audit.sweep = s.audit.sweep))

/-! ### The Stock Record Store -/

/-- A read of a record with its integrity check (R9 to R11): an intact one is handed over and nothing changes; one with a
single wrong bit is handed over, written back, and counted as a correction, up to 65,535; any other becomes
SUSPECT(CORRUPT), with one CORRUPT record written, and its task is ended or handed on: a PICK task fails with one relinquish
(R56), a LOAD task goes to the Audit Unit (R148), a RESTORE task runs on. An ADJUST reads its slot so. How bits flip is log
4's, what counts as uncorrectable log 5's reading. -/
def Obligations.ReadsCheckTheirRecord : Prop :=
  let corrupted (s : State) (n : Nat) : Report :=
    { body := .discrepancy .corrupt (.slot n) .unreadable true none none, week := s.control.week, timer := s.timer }
  (∀ (s : State) (n : Nat), n < maxPositions → s.tableOk = true →
      let c := Memory.get s.store.table n
      let r := s.readSlot n
      (c.flipped = 0 → r.record = c.record ∧ r.state = s ∧ r.converted = false) ∧
        (c.flipped = 1 → c.record.legal = true → r.record = c.record ∧ r.converted = false ∧
          r.state = s.setStore { s.store with
            table := Memory.set n { record := c.record, flipped := 0 } s.store.table,
            corrections := min 65535 (s.store.corrections + 1) }) ∧
        (c.flipped ≠ 0 → ¬(c.flipped = 1 ∧ c.record.legal = true) →
          r.record = SlotRecord.suspect .corrupt ∧ r.converted = true ∧
            r.state.store.corrections = s.store.corrections ∧
            (∀ m, Memory.get r.state.store.table m =
              if m = n then { record := SlotRecord.suspect .corrupt, flipped := 0 } else Memory.get s.store.table m) ∧
            (s.control.log.length < 16 → r.state.control.log = s.control.log ++ [corrupted s n]) ∧
            (16 ≤ s.control.log.length → r.state.control.log = s.control.log ∧
              min 255 (s.control.lost + 1) ≤ r.state.control.lost) ∧
            ((∀ x, s.taskOn n = some x → ∃ p, x.work = .restore p) →
              r.state.planner = s.planner ∧ r.state.face = s.face ∧ r.state.lanes = s.lanes ∧
                r.state.contests = s.contests ∧ r.state.audit = s.audit) ∧
            (∀ x id, s.taskOn n = some x → x.work = .load id →
              r.state.planner = s.planner ∧ r.state.audit.relocations =
                s.audit.relocations ++ [{ slot := n, inboundId := id, expected := none }]) ∧
            (∀ x l, s.taskOn n = some x → x.work = .pick l → s.queueOk = true → s.contests.relinquish.length < 32 →
              (∀ y ∈ r.state.planner.queue, y.slot = n → ∀ k, y.work ≠ .pick k) ∧
                (s.pocketsOk = true → r.state.assignedPocket n = none) ∧
                r.state.contests.relinquish = s.contests.relinquish ++ [{ line := l, quantity := 1, queued := false }]))) ∧
    (∀ (s : State) (h : Heard), s.handed h .adjust → s.control.service ≠ .setupWait → s.quiet →
      s.control.log.length < 16 → s.tableOk = true → s.values.slots ≤ maxPositions →
      let n := (adjustOf h.frame.payload).slot
      let c := Memory.get s.store.table n
      n < s.values.slots → c.flipped ≠ 0 →
      ∃ t, exec .adjust s = .next t ∧
        (c.flipped = 1 → c.record.legal = true →
          t.store.corrections = min 65535 (s.store.corrections + 1) ∧ (Memory.get t.store.table n).flipped = 0) ∧
        (¬(c.flipped = 1 ∧ c.record.legal = true) → s.control.log ++ [corrupted s n] <+: t.control.log))

/-- An ADJUST that is taken (R12 to R16), on a record that reads intact and with room in the log: a bad slot and a bound
slot change no record; otherwise the two parts are written back as one record, its state part by R14's table and its data
part by R15. One ADJUST_RESULT is written in each case. -/
def Obligations.AdjustGivesItsResult : Prop :=
  ∀ (s : State) (h : Heard), s.handed h .adjust → s.control.service ≠ .setupWait → s.quiet →
    s.control.log.length < 16 → s.values.slots ≤ maxPositions →
    let a := adjustOf h.frame.payload
    let r := s.recordAt a.slot
    let result (stateApplied dataApplied locked bad : Bool) (after : BookState) : Report :=
      { body := .adjustResult a.slot a.target a.data.isSome stateApplied dataApplied locked bad after,
        week := s.control.week, timer := s.timer }
    ∃ t, exec .adjust s = .next t ∧ t.kept = s.kept ∧ t.contests.records = s.contests.records ∧
      (s.values.slots ≤ a.slot →
        t.work = { s.work with log := s.control.log ++ [result false false false true .absent] }) ∧
      (a.slot < s.values.slots → (Memory.get s.store.table a.slot).flipped = 0 →
        (r.state = .pickClaimed ∨ r.state = .outbound ∨ r.state = .reservedIn →
          t.work = { s.work with log := s.control.log ++ [result false false true false r.book] }) ∧
        (∀ (new : SlotRecord) (stateApplied dataApplied : Bool),
          (r.state = .empty ∨ r.state = .occupied ∨ r.state = .suspect ∨ r.state = .retired) →
          ((a.target = .noChange ∧ (new.state, new.reason) = (r.state, r.reason) ∧ stateApplied = false) ∨
            (a.target = .empty ∧ (new.state, new.reason) = (.empty, none) ∧ stateApplied = true) ∨
            (a.target = .retired ∧ (new.state, new.reason) = (.retired, none) ∧ stateApplied = true) ∨
            (a.target = .occupied ∧ (a.data.isSome = true ∨ r.stock.isSome = true) ∧
              (new.state, new.reason) = (.occupied, none) ∧ stateApplied = true) ∨
            (a.target = .occupied ∧ a.data = none ∧ r.stock = none ∧
              (new.state, new.reason) = (r.state, r.reason) ∧ stateApplied = false)) →
          dataApplied = (a.data.isSome &&
            (decide (new.state = .occupied) || decide ((new.state, new.reason) = (.suspect, some .missing)))) →
          new.stock = (if dataApplied = true then a.data
            else if a.target = .empty ∨ a.target = .retired then none else r.stock) →
          new.inbound = (if stateApplied = true then none else r.inbound) →
          t.work = { s.work with
            store := { s.store with table := Memory.set a.slot { record := new, flipped := 0 } s.store.table },
            log := s.control.log ++ [result stateApplied dataApplied false false new.book] }))

/-! ### Contests -/

/-- An INBOUND (R98): one with a quantity outside 1 to 8 or tyre data out of range is ignored; an entry with its id is freed
first and its record ended; the batch joins the tail of the table if fewer than 4 entries stand, with claimed 0 and round 1,
and round 1 of its contest opens (R100): where the conditions of R101 hold then, a computation begins whose result is
`bidResult` of that state (R81, of which `BidsFollowTheArithmetic` speaks), and where one fails, or no round opens, none.
That the frame is in hand meanwhile is log 7's, that the whole snapshot is read as the computation begins log 30's. -/
def Obligations.InboundKeepsTheBatch : Prop :=
  ∀ (s : State) (h : Heard), s.handed h .inbound → s.control.service ≠ .setupWait →
    let f := inboundOf h.frame.payload
    let others := s.contests.offers.filter fun o => decide (o.inboundId ≠ f.inboundId)
    let ended := s.contests.records.filterMap (Contest.ended (.store f.inboundId))
    ∃ t, exec .inbound s = .next t ∧ t.kept = s.kept ∧
      let opens (rounds : List RoundOpen) : Prop := s.quiet → s.contests.computing = none →
        (s.takeInbound f h.stamp).inHand.considers t rounds
      (f.quantity = 0 ∨ 8 < f.quantity ∨ stockInRange f.stock = false →
        t.contests.offers = s.contests.offers ∧ t.contests.records = s.contests.records ∧ opens []) ∧
      (1 ≤ f.quantity → f.quantity ≤ 8 → stockInRange f.stock = true →
        (4 ≤ others.length → t.contests.offers = others ∧ opens [] ∧
            t.contests.records = if others = s.contests.offers then s.contests.records else ended) ∧
          (others.length < 4 → t.contests.offers = others ++
              [{ inboundId := f.inboundId, stock := f.stock, quantity := f.quantity, claimed := 0, round := 1,
                 state := .opened }] ∧
            opens [{ ref := .store f.inboundId, round := 1, openedAt := h.stamp }] ∧ t.contests.records = ended))

/-- A BID of another station (R94, R103): tracked at a record of its reference and round that is not CLOSED, it becomes the
lowest key heard if it is lower, and a key lower than the own one loses the record, with a QUEUED BID or a QUEUED CLAIM not
made by a second chance withdrawn. -/
def Obligations.BidOfAnotherStation : Prop :=
  ∀ (s : State) (h : Heard) (b : Nat), s.handed h (.bid b) → s.control.service ≠ .setupWait →
    h.frame.key.station ≠ s.own →
    let key := keyValue h.frame.key
    let tracked (c : Contest) : Prop :=
      c.ref = refOf h.frame.payload ∧ c.round = byteAt h.frame.payload 3 ∧ c.state ≠ .closed
    let heardAt (c : Contest) : Contest :=
      { c with lowest := some (match c.lowest with
          | none => key
          | some k => min k key) }
    ∃ t, exec .bid s = .next t ∧ t.kept = s.kept ∧ t.contests.records.length = s.contests.records.length ∧
      (∀ (i : Nat) (c : Contest), s.contests.records[i]? = some c →
        (¬tracked c → t.contests.records[i]? = some c) ∧
        (tracked c → s.bidKey c ≤ key → t.contests.records[i]? = some (heardAt c)) ∧
        (tracked c → key < s.bidKey c → c.state = .window ∨ c.state = .deciding →
          t.contests.records[i]? = some { heardAt c with
            state := .lost, bidFrame := if c.bidFrame = some .queued then none else c.bidFrame }) ∧
        (tracked c → key < s.bidKey c → c.state = .claiming → c.secondChance = false → c.claimFrame = some .queued →
          t.contests.records[i]? = some { heardAt c with state := .lost, claimFrame := none }) ∧
        (tracked c → key < s.bidKey c → c.state = .claiming →
          (c.secondChance = true ∨ c.claimFrame ≠ some .queued) → t.contests.records[i]? = some (heardAt c)) ∧
        (tracked c → key < s.bidKey c → c.state = .lost → t.contests.records[i]? = some (heardAt c))) ∧
      (∀ c, s.contests.records = [c] → tracked c → key < s.bidKey c → c.state = .window ∨ c.state = .deciding →
        c.bidFrame = some .queued →
        removeFirst (fun x => decide (x.frame = bidFrameOf s.own c ∧ x.state = .queued)) s.port.tx <+: t.port.tx)

/-- The own BID heard at its one record (R104, R105): WINDOW marks it heard; DECIDING decides, against the lowest key heard
and with a CLAIM where none is lower and the transmit queue has room (R162); LOST and CLAIMING change only that the BID is
gone; without a record it is discarded. R104 finds the record by reference and round alone: a BID left on the bus by a
record that a re-sent INBOUND has freed counts as the own BID of the new record of that reference and round, which is log
57's choice. -/
def Obligations.OwnBidHeard : Prop :=
  ∀ (s : State) (h : Heard) (b : Nat), s.handed h (.bid b) → s.control.service ≠ .setupWait →
    h.frame.key.station = s.own →
    ∃ t, exec .bid s = .next t ∧ t.kept = s.kept ∧
      ((∀ c ∈ s.contests.records, c.ref ≠ refOf h.frame.payload ∨ c.round ≠ byteAt h.frame.payload 3) →
        t.contests.records = s.contests.records) ∧
      (∀ c, s.contests.records = [c] → c.ref = refOf h.frame.payload → c.round = byteAt h.frame.payload 3 →
        c.bidFrame ≠ none →
        (c.state = .window → t.contests.records = [{ c with bidFrame := none, ownHeard := true }]) ∧
        (c.state = .lost ∨ c.state = .claiming → t.contests.records = [{ c with bidFrame := none }]) ∧
        (c.state = .deciding → (∃ k, c.lowest = some k ∧ k < s.bidKey c) →
          t.contests.records = [{ c with bidFrame := none, ownHeard := true, state := .lost }]) ∧
        (c.state = .deciding → (∀ k, c.lowest = some k → s.bidKey c ≤ k) → s.txRoom = true →
          t.contests.records =
              [{ c with bidFrame := none, ownHeard := true, state := .claiming, claimFrame := some .queued }] ∧
            s.port.tx ++ [{ frame := claimFrameOf s.own c, state := .queued, retries := 0 }] <+: t.port.tx) ∧
        (c.state = .deciding → (∀ k, c.lowest = some k → s.bidKey c ≤ k) → s.txRoom = false →
          c.secondChance = false →
          t.contests.records = [{ c with bidFrame := none, ownHeard := true, state := .lost }]))

/-- What a computation may offer (R84 to R89). A slot is eligible for a pick when it is OCCUPIED with the line's article,
its age within the sale limit, on a carrier without MISMATCH for a SET line, and for a store when it is EMPTY in a row of a
class large enough; in both cases when no contest record of this station holds it. A pick takes the oldest first, equal
weeks by slot number: for LOOSE as many as remain and fit, for SET all of the remainder from the first head whose window
holds enough members, or none. A store takes the least waste first, then the nearest, then by slot number, if the receiving
list has room. -/
def Obligations.OffersFollowTheirOrder : Prop :=
  ∀ s : State, s.setupOk = true →
    let v := s.values
    let isHeld (n : Nat) : Prop := ∃ c ∈ s.contests.records, n ∈ c.slots
    let space := 22 - (s.planner.queue.filter fun t => t.work.ordinary).length -
      (s.contests.records.map Contest.quantity).sum
    (∀ (l : OrderLine) (n : Nat), s.pickFit l n = true ↔
        (s.recordAt n).state = .occupied ∧
          (∃ d, (s.recordAt n).stock = some d ∧ d.article = l.article ∧ s.control.week - d.dotWeek ≤ v.saleLimit) ∧
          (l.mode = .set → s.markOf (v.carrierOf n) ≠ .mismatch)) ∧
      (∀ size n, s.storeFit size n = true ↔
        (s.recordAt n).state = .empty ∧ size ≤ v.rowClass.toList.getD (n % (v.rows * v.columns) / v.columns) 0) ∧
      (∀ l : OrderLine,
        let picks := s.pickEligible l
        let r := l.quantity - l.claimed
        let group (i : Nat) : List Nat :=
          (picks.drop i).filter fun n => decide (s.dotAt n ≤ s.dotAt (picks.getD i 0) + v.window)
        (∀ n, n ∈ picks ↔ n < v.slots ∧ s.pickFit l n = true ∧ ¬isHeld n) ∧
          (picks.Pairwise fun a b => s.dotAt a < s.dotAt b ∨ (s.dotAt a = s.dotAt b ∧ a < b)) ∧
          (l.mode = .loose → s.pickOffer l = picks.take (min r space)) ∧
          (l.mode = .set → r = 0 ∨ space < r → s.pickOffer l = []) ∧
          (∀ i, l.mode = .set → 1 ≤ r → r ≤ space → i < picks.length → r ≤ (group i).length →
            (∀ j, j < i → (group j).length < r) → s.pickOffer l = (group i).take r) ∧
          (l.mode = .set → (∀ i, i < picks.length → (group i).length < r) → s.pickOffer l = [])) ∧
      (∀ o : Offer,
        let stores := s.storeEligible o.stock.size
        let waste (n : Nat) : Nat := v.rowClassOf n - o.stock.size
        let far (n : Nat) : Nat := s.planningDistance n
        (∀ n, n ∈ stores ↔ n < v.slots ∧ s.storeFit o.stock.size n = true ∧ ¬isHeld n) ∧
          (stores.Pairwise fun a b => waste a < waste b ∨
            (waste a = waste b ∧ (far a < far b ∨ (far a = far b ∧ a < b)))) ∧
          s.storeOffer o =
            (if (∃ x ∈ s.face.receiving, x.inboundId = o.inboundId) ∨ s.face.receiving.length < 4
             then stores.take (min (o.quantity - o.claimed) space) else []))

/-- A bid result makes a record, in WINDOW or, once the window is over, in DECIDING, and queues its BID; no bid and a
refused BID leave no record (R95, R102, R162). The rounds of the opening frame that wait are then considered one after the
other, each as the earlier ones have left the conditions of R101 (R82): the first that is bid in begins its computation, and
where none is, no computation is in progress. That they wait with the frame in hand is log 7's, that the whole snapshot is
read as a computation begins log 30's. -/
def Obligations.ResultMakesARecord : Prop :=
  ∀ (s : State) (c : Computation), s.isRunning = true → s.contests.computing = some c →
    ∃ t, exec .computationResult s = .next t ∧ t.kept = s.kept ∧
      s.takeResult.relocateAll.considers t s.contests.considering ∧
      (c.result = none → t.contests.records = s.contests.records) ∧
      (s.txRoom = false → t.contests.records = s.contests.records) ∧
      (∀ b, c.result = some b → s.txRoom = true →
        ∃ r, t.contests.records = s.contests.records ++ [r] ∧ r.ref = c.opening.ref ∧ r.round = c.opening.round ∧
          r.openedAt = c.opening.openedAt ∧ r.bid = b.bid ∧ r.quantity = b.quantity ∧ r.slots = b.slots ∧
          r.lowest = none ∧ r.ownHeard = false ∧ r.secondChance = false ∧ r.chancePassed = false ∧ r.bidFrame = some .queued ∧
          r.claimFrame = none ∧
          (s.values.bidWindow ≤ elapsedMs s.timer c.opening.openedAt → r.state = .deciding) ∧
          (elapsedMs s.timer c.opening.openedAt < s.values.bidWindow → r.state = .window) ∧
          (∀ id o, c.opening.ref = .store id → s.contests.offers.find? (fun x => decide (x.inboundId = id)) = some o →
            r.offered = some o.stock) ∧
          s.port.tx ++ [{ frame := bidFrameOf s.own r, state := .queued, retries := 0 }] <+: t.port.tx ∧
          (bidFrameOf s.own r).key = makeKey 3 b.bid s.own)

/-- The end of the bid window (R105), at every record whose window is over: one whose own bid has not been heard becomes
DECIDING; one whose own bid has been heard becomes LOST to a lower key and otherwise CLAIMING with its CLAIM, which takes a
place of the transmit queue; a CLAIM that finds no place leaves its record LOST (R162). That one WINDOW_END works every
record due, and that records earlier in the list take the last places, is log 23's choice. Records not due are untouched, as
is everything when none is due (log 33). -/
def Obligations.WindowEndDecides : Prop :=
  ∀ s : State, s.isRunning = true →
    let due (c : Contest) : Bool :=
      decide (c.state = .window) && decide (s.values.bidWindow ≤ elapsedMs s.timer c.openedAt)
    let wins (c : Contest) : Bool := due c && c.ownHeard && c.lowest.all fun k => decide (s.bidKey c ≤ k)
    ∃ t, exec .windowEnd s = .next t ∧ t.kept = s.kept ∧ t.contests.records.length = s.contests.records.length ∧
      ((∀ c ∈ s.contests.records, due c = false) → t = State.settle s s ∧ s.standsStill t) ∧
      (∀ (i : Nat) (c : Contest), s.contests.records[i]? = some c →
        let place : Prop := s.port.tx.length + ((s.contests.records.take i).filter wins).length < 8
        (due c = false → t.contests.records[i]? = some c) ∧
          (due c = true → c.ownHeard = false → t.contests.records[i]? = some { c with state := .deciding }) ∧
          (due c = true → c.ownHeard = true → (∃ k, c.lowest = some k ∧ k < s.bidKey c) →
            t.contests.records[i]? = some { c with state := .lost }) ∧
          (wins c = true → place →
            t.contests.records[i]? = some { c with state := .claiming, claimFrame := some .queued }) ∧
          (wins c = true → ¬place → c.secondChance = false → t.contests.records[i]? = some { c with state := .lost })) ∧
      s.port.tx ++ (((s.contests.records.filter wins).take (8 - s.port.tx.length)).map fun c =>
        ({ frame := claimFrameOf s.own c, state := .queued, retries := 0 } : TxFrame)) <+: t.port.tx

/-- The second chance (R106, R162): at the moment of five windows a record in LOST or DECIDING becomes CLAIMING, a QUEUED
BID withdrawn and its CLAIM queued, or waiting for a place; one in WINDOW, CLAIMING or CLOSED is not changed, and for every
record that moment comes once, at the latest with the first SECOND_CHANCE after it. A record made after its fifth window
meets it at once (log 44); the place its own BID leaves is its CLAIM's (log 48); one SECOND_CHANCE works every record due
(log 23). Records not due are untouched, as is everything when none is due (log 33). -/
def Obligations.SecondChanceClaims : Prop :=
  ∀ s : State, s.isRunning = true → s.contestsOk = true →
    let due (c : Contest) : Bool :=
      !c.chancePassed && decide (5 * s.values.bidWindow ≤ elapsedMs s.timer c.openedAt)
    let takes (c : Contest) : Bool := due c && (decide (c.state = .lost) || decide (c.state = .deciding))
    let chanced (c : Contest) (claim : Option TxState) : Contest :=
      { c with
        bidFrame := if c.bidFrame = some .queued then none else c.bidFrame, secondChance := true, chancePassed := true,
        state := .claiming, claimFrame := claim }
    ∃ t, exec .secondChance s = .next t ∧ t.kept = s.kept ∧
      ((∀ c ∈ s.contests.records, due c = false) → t = State.settle s s ∧ s.standsStill t) ∧
      (s.port.tx.length + (s.contests.records.filter takes).length ≤ 8 →
        t.contests.records = s.contests.records.map fun c =>
          if takes c = true then chanced c (some .queued)
          else if due c = true then { c with chancePassed := true }
          else c) ∧
      (∀ c, s.contests.records = [c] → takes c = true →
        let left := if c.bidFrame = some .queued
          then removeFirst (fun x => decide (x.frame = bidFrameOf s.own c ∧ x.state = .queued)) s.port.tx else s.port.tx
        (left.length < 8 →
          t.contests.records = [chanced c (some .queued)] ∧
            left ++ [({ frame := claimFrameOf s.own c, state := .queued, retries := 0 } : TxFrame)] <+: t.port.tx) ∧
        (8 ≤ left.length → t.contests.records = [chanced c none] ∧ left <+: t.port.tx))

/-- A CLAIM heard, this station's own included, is applied to its line (R122) or its offer (R99), trimmed to what remains; a
remainder opens the next round, or leaves the line SHORT and the offer gone after round 6. One that names no line and no
offer is applied as 0. The CLAIM's own record is freed, the other records of its reference are ended (R100, R108), and where
the conditions of R101 hold at the round that opens, a computation begins whose result is `bidResult` of that state (R81);
where one fails, or no round opens, none. That the frame is in hand meanwhile is log 7's, that the whole snapshot is read as
the computation begins log 30's. -/
def Obligations.ClaimCountsForEveryStation : Prop :=
  ∀ (s : State) (h : Heard), s.handed h .claim → s.control.service ≠ .setupWait →
    let k := byteAt h.frame.payload 4
    let ref := refOf h.frame.payload
    let owned (c : Contest) : Bool := decide (h.frame.key.station = s.own ∧ c.ref = ref ∧
      c.round = byteAt h.frame.payload 3 ∧ (c.state = .claiming ∨ c.state = .closed) ∧ c.claimFrame.isSome = true)
    ∃ t, exec .claim s = .next t ∧
      let opens (rounds : List RoundOpen) : Prop := s.quiet → s.contests.computing = none →
        (s.hearClaim h.frame h.stamp).inHand.relocateAll.considers t rounds
      t.contests.records = (removeFirst owned s.contests.records).filterMap (Contest.ended ref) ∧
      (∀ line, refOf h.frame.payload = .pick line → t.contests.offers = s.contests.offers ∧
        (s.lineAt line = none → t.kept = s.kept ∧ opens []) ∧
        (∀ l, s.lineAt line = some l →
          let claimed := l.claimed + min k (l.quantity - l.claimed)
          let further : Prop := claimed < l.quantity ∧ l.short = false ∧ l.round < 6
          t.kept = (s.updateLine line fun x => { x with
            claimed := claimed,
            round := if claimed < l.quantity ∧ l.short = false ∧ l.round < 6 then l.round + 1 else l.round,
            short := l.short || (decide (claimed < l.quantity) && decide (6 ≤ l.round)) }).kept ∧
          (further → opens [{ ref := .pick line, round := l.round + 1, openedAt := h.stamp }]) ∧
          (¬further → opens []))) ∧
      (∀ id, refOf h.frame.payload = .store id → t.kept = s.kept ∧
        ((∀ o ∈ s.contests.offers, o.inboundId ≠ id) → t.contests.offers = s.contests.offers ∧ opens []) ∧
        (∀ before o after, s.contests.offers = before ++ o :: after → o.inboundId = id →
          (∀ x ∈ before ++ after, x.inboundId ≠ id ∧ x.state = .opened) →
          let claimed := o.claimed + min k (o.quantity - o.claimed)
          (claimed = o.quantity ∨ 6 ≤ o.round → t.contests.offers = before ++ after ∧ opens []) ∧
            (claimed < o.quantity → o.round < 6 → o.state = .opened →
              t.contests.offers = before ++ { o with claimed := claimed, round := o.round + 1 } :: after ∧
                opens [{ ref := .store id, round := o.round + 1, openedAt := h.stamp }])))

/-- This station's own pick claim (R109, R110), on records that read intact. One slot: still eligible, it becomes
PICK_CLAIMED and gets a PICK task at the tail of the queue; where the planner refuses the task the slot is asked back, and a
slot no longer eligible is left: both count as failed. The whole CLAIM: its record, CLAIMING or CLOSED, is freed, the first
k′ of its tentative slots are taken in their order, and the failures are given back as one relinquish, by which the own
claim falls again. Without a record the claim is an orphan, whose k′ slots all count as failed (R112). -/
def Obligations.OwnPickClaimTakesItsSlots : Prop :=
  (∀ (s : State) (line : LineRef) (l : OrderLine) (slot : Nat), s.lineAt line = some l → slot < maxPositions →
      (Memory.get s.store.table slot).flipped = 0 →
      (s.pickFit l slot = false → s.takePickSlot line slot = (s, false)) ∧
        (s.pickFit l slot = true → s.taskFits (.pick line) slot = true →
          s.takePickSlot line slot =
            ((s.writeRecord slot ((s.recordAt slot).keeping .pickClaimed)).addTask (.pick line) slot, true)) ∧
        (s.pickFit l slot = true → s.taskFits (.pick line) slot = false → s.tableOk = true →
          (s.takePickSlot line slot).2 = false ∧ (s.takePickSlot line slot).1.planner = s.planner ∧
            (s.takePickSlot line slot).1.recordAt slot =
              { state := .occupied, stock := (s.recordAt slot).stock, reason := none, inbound := none } ∧
            ∀ n, n ≠ slot → (s.takePickSlot line slot).1.recordAt n = s.recordAt n)) ∧
    (∀ (s : State) (h : Heard) (line : LineRef) (l : OrderLine), s.handed h .claim → s.control.service ≠ .setupWait →
      h.frame.key.station = s.own → refOf h.frame.payload = .pick line → s.lineAt line = some l → s.quiet → s.intact →
      s.tableOk = true → s.contests.relinquish.length < 32 →
      let k := min (byteAt h.frame.payload 4) (l.quantity - l.claimed)
      let owned (c : Contest) : Prop := c.ref = .pick line ∧ c.round = byteAt h.frame.payload 3 ∧
        (c.state = .claiming ∨ c.state = .closed) ∧ c.claimFrame.isSome = true
      ∃ t, exec .claim s = .next t ∧
        (∀ c, s.contests.records = [c] → owned c →
          let slots := c.slots.take k
          t.contests.records = [] ∧
            (slots.Nodup → (∀ n ∈ slots, s.pickFit l n = true ∧ s.taskOn n = none) →
              s.planner.queue.length + slots.length ≤ 24 → ordinaryCount s.planner.queue + slots.length ≤ 22 →
              (∀ n, t.recordAt n = if n ∈ slots then (s.recordAt n).keeping .pickClaimed else s.recordAt n) ∧
                t.taskList = s.taskList ++ slots.map (fun n => (.pick line, n, s.timer, 0)) ∧
                t.givenBack = s.givenBack ∧ (t.lineAt line).map OrderLine.ownClaim = some (l.ownClaim + k)) ∧
            (slots ≠ [] → (∀ n ∈ slots, s.pickFit l n = false) →
              t.store.table = s.store.table ∧ t.taskList = s.taskList ∧
                t.givenBack = s.givenBack ++ [(line, slots.length)] ∧
                (t.lineAt line).map OrderLine.ownClaim = some (l.ownClaim + k - slots.length)) ∧
            (∀ n, slots = [n] → s.pickFit l n = true → s.taskFits (.pick line) n = false →
              (∀ m, t.recordAt m = if m = n then (s.recordAt n).keeping .occupied else s.recordAt m) ∧
                t.taskList = s.taskList ∧ t.givenBack = s.givenBack ++ [(line, 1)] ∧
                (t.lineAt line).map OrderLine.ownClaim = some (l.ownClaim + k - 1))) ∧
        ((∀ c ∈ s.contests.records, ¬owned c) →
          t.store.table = s.store.table ∧ t.taskList = s.taskList ∧
            t.givenBack = s.givenBack ++ (if k = 0 then [] else [(line, k)]) ∧
            (t.lineAt line).map OrderLine.ownClaim = some l.ownClaim))

/-- This station's own store claim (R109, R111), on records that read intact: its record is freed; with room in the
receiving list each of the first k′ tentative slots that is still EMPTY and of a class large enough becomes RESERVED_IN with
the offered tyre's data and gets its LOAD task, and the receiving list counts the tasks made to the batch's record, or makes
one at its tail, with the deadline of this claim's arrival (R76). Without room, and where no slot is fit any more, all fail,
with one INBOUND_SHORT of cause CLAIM (R80). Without a record the claim is an orphan, whose k′ slots fail (R112). -/
def Obligations.OwnStoreClaimTakesItsSlots : Prop :=
  ∀ (s : State) (h : Heard) (id : Nat) (o : Offer), s.handed h .claim → s.control.service ≠ .setupWait →
    h.frame.key.station = s.own → refOf h.frame.payload = .store id →
    s.contests.offers.find? (fun x => decide (x.inboundId = id)) = some o → s.quiet → s.intact → s.tableOk = true →
    let k := min (byteAt h.frame.payload 4) (o.quantity - o.claimed)
    let owned (c : Contest) : Prop := c.ref = .store id ∧ c.round = byteAt h.frame.payload 3 ∧
      (c.state = .claiming ∨ c.state = .closed) ∧ c.claimFrame.isSome = true
    let known := s.face.receiving.find? fun r => decide (r.inboundId = id)
    let deadline := h.stamp + BitVec.ofNat 32 (s.values.inboundTimeout * 1000)
    let shortage (n : Nat) : Report :=
      { body := .inboundShort id n .claim ((known.map Receiving.claimed).getD 0) ((known.map Receiving.arrived).getD 0)
          ((known.map Receiving.loaded).getD 0),
        week := s.control.week, timer := s.timer }
    ∃ t, exec .claim s = .next t ∧
      (∀ c tyre, s.contests.records = [c] → owned c → c.offered = some tyre →
        let slots := c.slots.take k
        t.contests.records = [] ∧
          (slots ≠ [] → known.isSome = true ∨ s.face.receiving.length < 4 → slots.Nodup →
            (∀ n ∈ slots, s.storeFit tyre.size n = true ∧ s.taskOn n = none) →
            s.planner.queue.length + slots.length ≤ 24 → ordinaryCount s.planner.queue + slots.length ≤ 22 →
            (∀ n, t.recordAt n = if n ∈ slots then SlotRecord.reserved id tyre else s.recordAt n) ∧
              t.taskList = s.taskList ++ slots.map (fun n => (.load id, n, s.timer, 0)) ∧
              t.control.log = s.control.log ∧
              (known = none → t.face.receiving = s.face.receiving ++
                [{ inboundId := id, claimed := slots.length, arrived := 0, loaded := 0, deadline := deadline }]) ∧
              (∀ before r after, s.face.receiving = before ++ r :: after → r.inboundId = id →
                (∀ x ∈ before ++ after, x.inboundId ≠ id) →
                t.face.receiving =
                  before ++ { r with claimed := r.claimed + slots.length, deadline := deadline } :: after)) ∧
          (slots ≠ [] → s.control.log.length < 16 →
            (known = none ∧ 4 ≤ s.face.receiving.length) ∨ (∀ n ∈ slots, s.storeFit tyre.size n = false) →
            t.store.table = s.store.table ∧ t.taskList = s.taskList ∧ t.face.receiving = s.face.receiving ∧
              t.control.log = s.control.log ++ [shortage slots.length])) ∧
      ((∀ c ∈ s.contests.records, ¬owned c) → s.control.log.length < 16 →
        t.store.table = s.store.table ∧ t.taskList = s.taskList ∧ t.face.receiving = s.face.receiving ∧
          t.control.log = s.control.log ++ (if k = 0 then [] else [shortage k]))

/-! ### Orders, lanes and pockets -/

/-- An ORDER (R121): accepted under R121's conditions it opens its bay with fresh lines and joins the tail of the lane's bay
age list; otherwise nothing changes in the accounts. Round 1 of each line opens, in line order, and the lines are considered
one after the other (R82, R100, R101): the first at which the conditions of R101 hold begins its computation, whose result
is `bidResult` of that state (R81), and those behind it wait; where they hold at none, no computation begins. That the frame
is in hand meanwhile is log 7's, that the whole snapshot is read as the computation begins log 30's. -/
def Obligations.OrderOpensItsBay : Prop :=
  ∀ (s : State) (h : Heard), s.handed h .order → s.control.service ≠ .setupWait →
    let o := orderOf h.frame.payload
    let lane := s.lane o.lane
    let accepted : Prop := 1 ≤ o.lines.length ∧ lane.synced = true ∧ lane.bays[o.bay] = none ∧
      (∀ l ∈ o.lines, 1 ≤ l.quantity ∧ l.quantity ≤ 8) ∧
      (o.lines.map OrderLine.quantity).sum ≤ s.values.capacity[o.lane]
    ∃ t, exec .order s = .next t ∧ t.contests.offers = s.contests.offers ∧
      (∀ l ∈ o.lines, l.claimed = 0 ∧ l.delivered = 0 ∧ l.round = 1 ∧ l.short = false ∧ l.ownClaim = 0 ∧
        l.ownDelivered = 0) ∧
      (accepted →
        t.kept = (s.setLane o.lane { lane with
          bays := lane.bays.set o.bay (some { order := o.order, lines := o.lines }),
          ageList := lane.ageList ++ [o.bay] }).kept ∧
        let rounds : List RoundOpen := (List.range o.lines.length).map fun n =>
          { ref := .pick { lane := o.lane, bay := o.bay, line := n, order := o.order }, round := 1, openedAt := h.stamp }
        t.contests.records = rounds.foldl (fun xs r => xs.filterMap (Contest.ended r.ref)) s.contests.records ∧
          (s.quiet → s.contests.computing = none → (s.takeOrder o h.stamp).inHand.considers t rounds)) ∧
      (¬accepted → t.kept = s.kept ∧ t.contests.records = s.contests.records ∧ (s.quiet → t.work = s.work))

/-- A RELINQUISH heard (R123): the line's claimed count falls by the quantity, not below its delivered count, and a
remainder is judged as after a claim; the own claim is not changed; one that names no line is ignored. This station's own
one takes its entry out of the list, and the next oldest is queued (R114). An entry joins the tail of the list; a full list
takes it into the newest entry of the line whose frame has not been queued, or drops it and counts it lost; in each case the
own claim falls at once (R113). Where a remainder opens the line's next round (R100), the record of the line is ended, and a
computation begins if the conditions of R101 hold then, whose result is `bidResult` of that state (R81), and else none. That
the frame is in hand meanwhile is log 7's, that the whole snapshot is read as the computation begins log 30's. -/
def Obligations.RelinquishGivesBack : Prop :=
  (∀ (s : State) (h : Heard) (line : LineRef), s.handed h .relinquish → s.control.service ≠ .setupWait →
      refOf h.frame.payload = .pick line →
      let q := byteAt h.frame.payload 3 % 16
      ∃ t, exec .relinquish s = .next t ∧ t.contests.offers = s.contests.offers ∧
        let opens (rounds : List RoundOpen) : Prop := s.quiet → s.contests.computing = none →
          (s.hearRelinquish h.frame h.stamp).inHand.considers t rounds
        (s.lineAt line = none → t.kept = s.kept ∧ t.contests.records = s.contests.records ∧ opens []) ∧
        (∀ l, s.lineAt line = some l →
          let claimed := max l.delivered (l.claimed - q)
          let further : Prop := claimed < l.quantity ∧ l.short = false ∧ l.round < 6
          let after := { l with
            claimed := claimed,
            round := if claimed < l.quantity ∧ l.short = false ∧ l.round < 6 then l.round + 1 else l.round,
            short := l.short || (decide (claimed < l.quantity) && decide (6 ≤ l.round)) }
          t.kept = (s.updateLine line fun _ => after).kept ∧
            (s.hearRelinquish h.frame h.stamp).lineAt line = some after ∧
            (further → t.contests.records = s.contests.records.filterMap (Contest.ended (.pick line)) ∧
              opens [{ ref := .pick line, round := l.round + 1, openedAt := h.stamp }]) ∧
            (¬further → t.contests.records = s.contests.records ∧ opens [])) ∧
        (h.frame.key.station ≠ s.own → s.quiet → s.intact → t.givenBack = s.givenBack) ∧
        (∀ e rest, h.frame.key.station = s.own → s.contests.relinquish = e :: rest → e.queued = true → s.quiet →
          s.intact →
          t.givenBack = rest.map (fun x => (x.line, x.quantity)) ∧
            (∀ next more, rest = next :: more → (∀ x ∈ rest, x.queued = false) → s.contests.records = [] →
              s.txRoom = true → s.ownerWaits = false →
              s.port.tx ++ [{ frame := relinquishFrameOf s.own next, state := .queued, retries := 0 }] <+: t.port.tx ∧
                t.contests.relinquish = { next with queued := true } :: more))) ∧
    (∀ (s : State) (line : LineRef) (q : Nat),
      let u := s.addRelinquish line q
      let open' (e : RelinquishEntry) : Prop := e.line = line ∧ e.queued = false
      (s.contests.relinquish.length < 32 →
          u.contests.relinquish = s.contests.relinquish ++ [{ line := line, quantity := q, queued := false }] ∧
            u.control.lost = s.control.lost) ∧
        (∀ before e after, 32 ≤ s.contests.relinquish.length → s.contests.relinquish = before ++ e :: after →
          open' e → (∀ x ∈ after, ¬open' x) →
          u.contests.relinquish = before ++ { e with quantity := e.quantity + q } :: after ∧
            u.control.lost = s.control.lost) ∧
        (32 ≤ s.contests.relinquish.length → (∀ x ∈ s.contests.relinquish, ¬open' x) →
          u.contests.relinquish = s.contests.relinquish ∧ u.control.lost = min 255 (s.control.lost + 1)) ∧
        (∀ l, s.lineAt line = some l → u.lineAt line = some { l with ownClaim := l.ownClaim - q }))

/-- An INTENT (R125, R126): granted when its line has more claimed than delivered and the lane has room for this tyre and
for every older order; a grant counts in fill and on the line at every station, a refusal changes no account. The sender's
own entry is granted or refused with it. An anchor's INTENT within condition 1 is always granted. -/
def Obligations.IntentIsJudgedByTheReserve : Prop :=
  (∀ (s : State) (h : Heard) (lane : Fin 8), s.handed h (.intent lane) → s.control.service ≠ .setupWait →
      let line := intentLineOf lane h.frame.payload
      let granted : Prop := ∃ l, s.lineAt line = some l ∧ l.delivered < l.claimed ∧
        (s.lane lane).fill + 1 + (((s.lane lane).ageList.takeWhile fun b => decide (b ≠ line.bay)).map
          (s.lane lane).outstanding).sum ≤ s.values.capacity[lane]
      ∃ t, exec .intent s = .next t ∧ t.contests.records = s.contests.records ∧
        t.contests.offers = s.contests.offers ∧
        (¬granted → t.kept = s.kept) ∧
        (granted →
          let u := s.updateLine line fun l => { l with delivered := l.delivered + 1 }
          t.kept = (u.setLane lane { u.lane lane with fill := (s.lane lane).fill + 1 }).kept) ∧
        (∀ p e rest, h.frame.key.station = s.own → s.entriesWith line .onBus = (p, e) :: rest → s.quiet →
          e.state = .loaded →
          (granted → s.sensed p = true →
            t.pocket p = .entry { e with state := .granted, intent := .none, grantedAt := some s.timer }) ∧
            (¬granted → t.pocket p = .entry { e with intent := .refused })) ∧
        (∀ p e rest, h.frame.key.station = s.own → s.entriesWith line .onBus = (p, e) :: rest → s.quiet → ¬granted →
          e.state = .carried → t.pocket p = .entry { e with intent := .none })) ∧
    (∀ (s : State) (line : LineRef) (l : OrderLine), s.lanesOk = true → s.lineAt line = some l →
      s.isAnchor line = true → l.delivered < l.claimed → s.intentGranted line = true)

/-- A BAY CLEAR that applies (R128, R129): fill falls by the bay's delivered count, the bay is FREE and out of the age list,
its contest records are ended, its PICK tasks cancelled with their slots OCCUPIED again, and its entries in CARRIED and
LOADED turned RESTORE, each with its RESTORE task (R140); no entry in ASSIGNED, CARRIED or LOADED names it any more, and one
in GRANTED or JAMMED runs on. A REFUSED INTENT of another bay of the lane is queued again, unless HALT is in force (R127).
Two entries turn and are queued pocket 0 first (logs 41, 46). A BAY CLEAR that does not apply is ignored. A LANE IDLE deals
in the same way with the records, PICK tasks, slots and entries of every OPEN bay of the lane and ends it SYNCED with fill
0, no OPEN bay and an empty age list, whether it was SYNCED or BLIND, and leaves the accounts of the other lanes (R130). -/
def Obligations.ClearsFreeTheirBays : Prop :=
  let restored (s t : State) (p : Fin 2) (e : PocketEntry) : Prop :=
    t.pocket p = .entry { e with state := .restore, line := none, intent := .none, grantedAt := none } ∧
      (s.queueOk = true → s.planner.queue.length + 2 ≤ 24 → (∀ x ∈ s.planner.queue, x.slot ≠ e.slot ∧ x.work ≠ .restore p) →
        (∀ e', s.pocket (otherPocket p) = .entry e' → e'.slot ≠ e.slot) →
        ∃ x ∈ t.planner.queue, x.work = .restore p ∧ x.slot = e.slot)
  (∀ (s : State) (h : Heard) (lane : Fin 8), s.handed h (.bayClear lane) → s.control.service ≠ .setupWait →
      let bay : Fin 4 := Fin.ofNat 4 (byteAt h.frame.payload 0 % 4)
      let order := byteAt h.frame.payload 1 * 256 + byteAt h.frame.payload 2
      ∃ t, exec .bayClear s = .next t ∧
        (∀ b, (s.lane lane).synced = true → (s.lane lane).bays[bay] = some b → b.order = order →
          t.kept = (s.setLane lane { s.lane lane with
              fill := (s.lane lane).fill - b.delivered, bays := (s.lane lane).bays.set bay none,
              ageList := (s.lane lane).ageList.filter fun x => decide (x ≠ bay) }).kept ∧
            (s.queueOk = true → ∀ x ∈ t.planner.queue, ∀ l, x.work = .pick l → l.lane ≠ lane ∨ l.bay ≠ bay) ∧
            (∀ c ∈ t.contests.records, ∀ l, c.ref = .pick l → l.lane = lane → l.bay = bay → c.state = .closed) ∧
            (s.quiet → s.queueOk = true → s.tableOk = true → ∀ x ∈ s.planner.queue, ∀ l, x.work = .pick l →
              l.lane = lane → l.bay = bay → (Memory.get s.store.table x.slot).flipped = 0 →
              (s.recordAt x.slot).state = .pickClaimed →
              t.recordAt x.slot = (s.recordAt x.slot).keeping .occupied) ∧
            (∀ p e l, s.quiet → s.pocket p = .entry e → e.line = some l → l.lane = lane → l.bay = bay →
              (e.state = .carried ∨ e.state = .loaded → restored s t p e) ∧
                (e.state = .granted ∨ e.state = .jammed → t.pocket p = .entry e)) ∧
            (s.quiet → s.lanesOk = true → s.queueOk = true → s.pocketsOk = true →
              ∀ p e l, t.pocket p = .entry e → e.line = some l → l.lane = lane → l.bay = bay →
                e.state = .granted ∨ e.state = .jammed) ∧
            (∀ p e l, s.quiet → s.pocket p = .entry e → e.state = .loaded → e.intent = .refused → e.line = some l →
              l.lane = lane → l.bay ≠ bay →
              (s.control.halt = true → t.pocket p = .entry { e with intent := .none }) ∧
                (s.control.halt = false → s.port.tx.length + 2 ≤ 8 →
                  ∃ e', t.pocket p = .entry e' ∧ e'.intent = .queued ∧ e'.state = .loaded ∧ e'.line = some l))) ∧
        ((s.lane lane).synced = false ∨ (s.lane lane).bays[bay] = none ∨
            (∃ b, (s.lane lane).bays[bay] = some b ∧ b.order ≠ order) →
          t = State.settle s s.inHand ∧ s.standsStill t)) ∧
    (∀ (s : State) (h : Heard) (lane : Fin 8), s.handed h (.laneIdle lane) → s.control.service ≠ .setupWait →
      s.lanesOk = true →
      ∃ t, exec .laneIdle s = .next t ∧
        t.kept = (s.setLane lane { synced := true, fill := 0, ageList := [], bays := Vector.replicate 4 none }).kept ∧
        t.lane lane = { synced := true, fill := 0, ageList := [], bays := Vector.replicate 4 none } ∧
        (s.queueOk = true → ∀ x ∈ t.planner.queue, ∀ l, x.work = .pick l → l.lane ≠ lane ∨
          (s.lane lane).bays[l.bay] = none) ∧
        (∀ c ∈ t.contests.records, ∀ l, c.ref = .pick l → l.lane = lane → (s.lane lane).bays[l.bay] ≠ none →
          c.state = .closed) ∧
        (s.quiet → s.queueOk = true → s.tableOk = true → ∀ x ∈ s.planner.queue, ∀ l, x.work = .pick l →
          l.lane = lane → (s.lane lane).bays[l.bay] ≠ none → (Memory.get s.store.table x.slot).flipped = 0 →
          (s.recordAt x.slot).state = .pickClaimed →
          t.recordAt x.slot = (s.recordAt x.slot).keeping .occupied) ∧
        (∀ p e l, s.quiet → s.pocket p = .entry e → e.line = some l → l.lane = lane → s.openBay l ≠ none →
          e.state = .carried ∨ e.state = .loaded → restored s t p e) ∧
        (∀ p e l, s.quiet → s.pocket p = .entry e → e.line = some l → l.lane = lane →
          e.state = .granted ∨ e.state = .jammed → t.pocket p = .entry e) ∧
        (s.quiet → s.queueOk = true → s.pocketsOk = true →
          ∀ p e l, t.pocket p = .entry e → e.line = some l → l.lane = lane → e.state = .granted ∨ e.state = .jammed))

/-- A pocket sensor (R64, R136 to R138, R141). A tyre arriving makes the CARRIED entry LOADED, the pocket's own or else the
one of the other pocket, which moves here and leaves the other pocket free or to the ASSIGNED entry that stood here; its
INTENT is queued unless it is ON_BUS or HALT is in force (R137). One that no entry accounts for makes the pocket foreign
with its UNKNOWN record, an ASSIGNED entry being freed. A tyre leaving makes a LOADED entry CARRIED, its QUEUED INTENT
withdrawn and not the like one that the other entry queued earlier (R163, log 27), completes a granted entry, its slot EMPTY
again, and frees a foreign pocket. Every other account of the part stands. All this where the line has shown its level for
10 ms; before that the level is only timed (R64, log 24). -/
def Obligations.PocketSensorMovesItsEntry : Prop :=
  ∀ (s : State) (p : Fin 2) (high : Bool), s.isRunning = true →
    let active := inputActive (s.values.activeLow.pocket p) high
    let other := otherPocket p
    ∃ t, exec (.pocketSenseChange p high) s = .next t ∧
      t.contests.records = s.contests.records ∧ t.contests.offers = s.contests.offers ∧
      (¬s.shownLong (.pocket p) high →
        t.kept = { s.kept with debounces := t.face.debounces } ∧ (s.quiet → t.work = s.work)) ∧
      (s.shownLong (.pocket p) high →
        t.kept = { s.kept with
          debounces := s.levelTaken (.pocket p) high, pocketSense := s.face.pocketSense.set p (some active) } ∧
        (∀ c, s.face.pocketSense[p] = some false → active = true → s.quiet → c.state = .carried →
          let loads : Prop := ∃ e, t.pocket p = .entry e ∧ e.state = .loaded ∧ e.slot = c.slot ∧ e.line = c.line ∧
            (c.intent = .onBus → e.intent = .onBus) ∧
            (∀ l, c.intent = .none → c.line = some l → s.control.halt = false → s.txRoom = true →
              e.intent = .queued ∧
                s.port.tx ++ [{ frame := intentFrameOf s.own l, state := .queued, retries := 0 }] <+: t.port.tx)
          (s.pocket p = .entry c → loads) ∧
            (s.pocket p = .free → s.pocket other = .entry c → loads ∧ (t.pocket other).unassigned = .free) ∧
            (∀ a, s.pocket p = .entry a → a.state = .assigned → s.pocket other = .entry c →
              loads ∧ t.pocket other = .entry a)) ∧
        ((s.face.pocketSense[p] = some false ∨ s.face.pocketSense[p] = none) → active = true → s.quiet →
          s.control.log.length < 16 →
          s.pocket p = .free ∧ (s.face.pocketSense[p] = some false → s.entryIn other .carried = none) ∨
            (s.face.pocketSense[p] = some false ∧ s.entryIn other .carried = none ∧
              ∃ a, s.pocket p = .entry a ∧ a.state = .assigned) →
          t.pocket p = .foreign ∧
            t.control.log = s.control.log ++ [{
              body := .discrepancy .unknown (.pocket p.val) .absent false none none, week := s.control.week,
              timer := s.timer }]) ∧
        (∀ e, s.face.pocketSense[p] = some false → active = true → s.quiet → s.pocket p = .entry e →
          e.state = .loaded ∨ e.state = .granted ∨ e.state = .jammed ∨ e.state = .restore → t.pocket p = .entry e) ∧
        (∀ e, s.face.pocketSense[p] = some true → active = false → s.quiet → s.pocket p = .entry e →
          (e.state = .loaded → t.pocket p = .entry { e with
              state := .carried, intent := if e.intent = .onBus then .onBus else .none } ∧
            (∀ l, e.line = some l → e.intent = .queued →
              let own (x : TxFrame) : Bool := decide (x.frame = intentFrameOf s.own l ∧ x.state = .queued)
              let earlier : Prop := ∃ o, s.pocket other = .entry o ∧ o.line = some l ∧ o.intent = .queued ∧
                o.number < e.number
              (¬earlier → removeFirst own s.port.tx <+: t.port.tx) ∧
                (∀ before f between g after, earlier → s.port.tx = before ++ f :: between ++ g :: after →
                  own f = true → own g = true → (∀ x ∈ before ++ between, own x = false) →
                  before ++ f :: between ++ after <+: t.port.tx))) ∧
          (e.state = .carried ∨ e.state = .restore → t.pocket p = .entry e) ∧
          (e.state = .granted ∨ e.state = .jammed → e.slot < maxPositions →
            (Memory.get s.store.table e.slot).flipped = 0 → s.tableOk = true →
            (t.pocket p).unassigned = .free ∧ t.recordAt e.slot =
              (if (s.recordAt e.slot).state = .outbound then SlotRecord.empty else s.recordAt e.slot))) ∧
        (s.face.pocketSense[p] ≠ some false → active = false → s.quiet → s.pocket p = .foreign →
          (t.pocket p).unassigned = .free))

/-- A GRANTED entry whose sensor still reads present 10 s after its grant becomes JAMMED, gate open, with the jam flag set
and the TOWER_STATE pending flag with it (R139, R176); one JAM_TIMEOUT works both pockets (log 23). Entries not due stay,
and when none is due only the end of a step follows (log 33). -/
def Obligations.JamAfterTenSeconds : Prop :=
  ∀ s : State, s.isRunning = true →
    let due (p : Fin 2) : Prop := ∃ e since, s.pocket p = .entry e ∧ e.state = .granted ∧ e.grantedAt = some since ∧
      s.sensed p = true ∧ 10000 ≤ elapsedMs s.timer since
    ∃ t, exec .jamTimeout s = .next t ∧ t.kept = s.kept ∧ t.contests.records = s.contests.records ∧
      (∀ p e, s.quiet → s.pocket p = .entry e → due p →
        t.pocket p = .entry { e with state := .jammed } ∧ t.gateOpen p = true ∧ t.jamFlag = true ∧
          (s.jamFlag = false → s.control.reportOut ≠ none → t.control.statePending = true)) ∧
      (∀ p e, s.quiet → s.pocket p = .entry e → e.state = .granted → ¬due p → t.pocket p = .entry e) ∧
      ((∀ p, ¬due p) → t = State.settle s s ∧ s.standsStill t)

/-! ### The Carousel Drive -/

/-- An encoder count (R22, R23, R25, R26, R30, R35): it moves A by one, wrapping at N × P, in every state but UNHOMED and
FAULT; a count that goes on the way A came to an index position passes it, and its edge is expected (log 15); where the
position is known and a flag is missing, A standing more than the tolerance beyond an index position whose edge is still
expected (log 15), or the offset exceeds the tolerance in IDLE, SETTLING or at the home edge, the drive enters FAULT with
kind POSITION_LOST, duty removed and brake set (R39). A turning homing counts its spacing with A, and a count in its
direction restarts the stall interval; a spacing beyond P and the tolerance is POSITION_LOST (R38). While MOVING (R26, R29,
R32) a count in the direction of the move restarts the stall interval and covers one count of the ramp in progress, and
MOT_DUTY is the ramp's start and goal weighted by the share of its span that is covered, any fraction discarded; without a
ramp the duty stands. A short move whose ACCEL half is covered enters DECEL, a ramp from that duty to 0 over the remaining
travel. That a count against the move lowers the counts covered is log 52's choice, which half an odd travel gives its
middle count to log 39's. -/
def Obligations.EncoderCountMovesThePosition : Prop :=
  ∀ (s : State) (dir : Direction), s.isRunning = true →
    let u := s.countPosition dir
    let lost : Prop := u.flagMissing = true ∨
      ((s.drive.state = .idle ∨ s.drive.state = .settling ∨ s.drive.state = .homing) ∧ u.offsetWithin = false)
    let a : Nat := match dir with
      | .forward => (s.drive.position + 1) % s.values.loop
      | .reverse => (s.drive.position + s.values.loop - 1) % s.values.loop
    let here := s.drive.position / s.values.countsPerPitch
    let spacing := s.drive.homingSpacing.map fun c => if dir = .forward then c + 1 else c - 1
    let far : Prop := ∃ c, spacing = some c ∧ ((s.values.countsPerPitch + s.values.indexTolerance : Nat) : Int) < c
    let faulted (t : State) : Prop :=
      t.drive.state = .fault ∧ t.drive.faultKind = some .positionLost ∧ t.drive.duty = 0 ∧ t.drive.brake = true ∧
        t.drive.target = none ∧
        (s.control.service = .inService ∨ s.control.service = .starting →
          t.control.service = .outOfService ∧ t.planner.graceSince = some s.timer)
    ∃ t, exec (.encoderCount dir) s = .next t ∧ t.contests.offers = s.contests.offers ∧
      (s.drive.state ≠ .unhomed → s.drive.state ≠ .fault → t.drive.position = a ∧ t.drive.lastCount = some s.timer) ∧
      (s.drive.positionKnown = true → ¬lost → t.kept = { s.kept with position := a, lastCount := some s.timer } ∧
        t.drive.arrived = (if a % s.values.countsPerPitch = 0 then some dir else none) ∧
        t.drive.expectations = (if s.drive.arrived = some dir
          then s.drive.expectations.filter (fun e => decide (e.1 ≠ here)) ++ [(here, dir)] else s.drive.expectations)) ∧
      (s.drive.positionKnown = true → lost → faulted t) ∧
      (s.drive.state = .moving → ¬lost →
        let along : Bool := decide (dir = s.drive.direction)
        let travel : Int := if along then s.drive.travel - 1 else s.drive.travel + 1
        t.drive.state = .moving ∧ t.drive.direction = s.drive.direction ∧ t.drive.brake = s.drive.brake ∧
          t.drive.active = s.drive.active ∧ t.drive.stallSince = (if along then s.timer else s.drive.stallSince) ∧
          (s.drive.ramp = none →
            t.drive.ramp = none ∧ t.drive.duty = s.drive.duty ∧ t.drive.phase = s.drive.phase) ∧
          (∀ r, s.drive.ramp = some r →
            let covered : Int := if along then r.covered + 1 else r.covered - 1
            let c := min r.span covered.toNat
            let duty := if r.span = 0 then r.goal else (r.start * (r.span - c) + r.goal * c) / r.span
            let halfway : Prop := s.drive.phase = .accel ∧ s.drive.shortMove = true ∧ (r.span : Int) ≤ covered
            t.drive.duty = duty ∧
              (¬halfway → t.drive.ramp = some { r with covered := covered } ∧ t.drive.phase = s.drive.phase) ∧
              (halfway → t.drive.phase = .decel ∧
                t.drive.ramp = some { start := duty, goal := 0, span := travel.toNat, covered := 0 }))) ∧
      (s.drive.state = .homing → s.drive.homeFound = false →
        (¬far → t.kept = { s.kept with position := a, lastCount := some s.timer } ∧
          t.drive.unstuck = { s.drive.unstuck with
            position := a, lastCount := some s.timer, homingSpacing := spacing,
            stallSince := if dir = .forward then s.timer else s.drive.stallSince }) ∧
          (far → faulted t)) ∧
      (s.drive.state = .holding → s.drive.held ≠ some .move →
        t.kept = { s.kept with position := a, lastCount := some s.timer }) ∧
      (s.drive.state = .unhomed → t.kept = { s.kept with lastCount := some s.timer }) ∧
      (s.drive.state = .fault → t = State.settle s s ∧ s.standsStill t)

/-- An index edge (R23, R24, R29, R38): where the position is known, an edge within the tolerance sets A to the index
position and clears its expectation, one further off is POSITION_LOST, and so is a home flag that does not tell carrier 0,
or a realignment that takes A more than the tolerance beyond another index position whose edge is still expected (log 15).
Where A lies within the tolerance of two index positions the edge is taken for the nearest one, and the home flag judged
against its carrier (log 16); which edges are expected, and that A then passes nothing as it goes on (`arrived` none), is
log 15's reading. While MOVING the target's edge ends in SETTLING with the duty removed and the brake set; at any other the
active profile takes the requested value (R29, R32). There the ACCEL of a long move ends at the cruise duty, in CRUISE or,
with P or less to go, in DECEL; CRUISE enters DECEL with P or less to go, from the duty in force, and otherwise runs at the
cruise duty or, where the profile has changed, ramps from the old cruise duty to the new over P counts, a ramp still
unfinished ending first (log 51). In DECEL the ramp goes on, and so it does in the ACCEL of a short move (log 53). A turning
homing takes an edge whose spacing from the one before lies within the tolerance of P: with the home flag it stops there as
A = 0, without it it goes on, up to N + 1 edges; any other spacing, and the edge N + 1 without the home flag, is
POSITION_LOST. Elsewhere edges are not examined. -/
def Obligations.IndexEdgeRealigns : Prop :=
  ∀ (s : State) (flag : Bool), s.isRunning = true →
    let faulted (t : State) : Prop :=
      t.drive.state = .fault ∧ t.drive.faultKind = some .positionLost ∧ t.drive.duty = 0 ∧ t.drive.brake = true
    let u := s.realign
    let missed : Prop := ∃ e ∈ u.drive.expectations, s.values.indexTolerance < s.values.beyond u.drive.position e ∧
      2 * s.values.beyond u.drive.position e ≤ s.values.loop
    let taken : Prop := s.offsetWithin = true ∧ flag = decide (s.faceCarrier = 0) ∧ ¬missed
    let decelFrom (t : State) (duty : Nat) : Prop := t.drive.phase = .decel ∧ t.drive.duty = duty ∧
      t.drive.ramp = some { start := duty, goal := 0, span := u.drive.travel.toNat, covered := 0 }
    let spaced : Prop := ∀ c, s.drive.homingSpacing = some c →
      (c - (s.values.countsPerPitch : Int)).natAbs ≤ s.values.indexTolerance
    ∃ t, exec (.indexEdge flag) s = .next t ∧ t.contests.offers = s.contests.offers ∧
      (s.drive.positionKnown = true → taken →
        t.kept = { s.kept with position := s.faceCarrier * s.values.countsPerPitch } ∧ t.drive.arrived = none ∧
          t.drive.expectations = s.drive.expectations.filter fun e => decide (e.1 ≠ s.faceCarrier)) ∧
      (s.drive.positionKnown = true → ¬taken → faulted t) ∧
      (s.drive.state = .moving → taken → s.drive.target = some s.faceCarrier →
        t.drive.state = .settling ∧ t.drive.duty = 0 ∧ t.drive.brake = true ∧ t.drive.restSince = s.timer) ∧
      (s.drive.state = .moving → taken → s.drive.target ≠ some s.faceCarrier → s.drive.phase = .accel →
        s.drive.shortMove = false →
        t.drive.state = .moving ∧ t.drive.duty = s.values.cruiseDuty s.drive.requested ∧
          t.drive.active = s.drive.requested ∧
          (u.drive.travel ≤ s.values.countsPerPitch → decelFrom t (s.values.cruiseDuty s.drive.requested)) ∧
          ((s.values.countsPerPitch : Int) < u.drive.travel → t.drive.phase = .cruise ∧ t.drive.ramp = none)) ∧
      (s.drive.state = .moving → taken → s.drive.target ≠ some s.faceCarrier → s.drive.phase = .cruise →
        t.drive.state = .moving ∧ t.drive.active = s.drive.requested ∧
          (u.drive.travel ≤ s.values.countsPerPitch → decelFrom t s.drive.duty) ∧
          ((s.values.countsPerPitch : Int) < u.drive.travel → t.drive.phase = .cruise ∧
            let old := s.values.cruiseDuty s.drive.active
            let new := s.values.cruiseDuty s.drive.requested
            t.drive.duty = old ∧ t.drive.ramp = (if old = new then none else some {
              start := old, goal := new, span := s.values.countsPerPitch, covered := 0 }))) ∧
      (s.drive.state = .moving → taken → s.drive.target ≠ some s.faceCarrier →
        (s.drive.phase = .decel ∨ (s.drive.phase = .accel ∧ s.drive.shortMove = true)) →
        t.drive.state = .moving ∧ t.drive.active = s.drive.requested ∧ t.drive.phase = s.drive.phase ∧
          t.drive.duty = s.drive.duty ∧ t.drive.ramp = s.drive.ramp) ∧
      (s.drive.state = .homing → s.drive.homeFound = false →
        (spaced → flag = true →
          t.kept = { s.kept with position := 0, homeFound := true } ∧ t.drive.state = .homing ∧ t.drive.duty = 0 ∧
            t.drive.brake = true ∧ t.drive.restSince = s.timer) ∧
          (spaced → flag = false → s.drive.homingEdges < s.values.carriers →
            t.kept = s.kept ∧ t.drive.state = .homing ∧ t.drive.homingEdges = s.drive.homingEdges + 1 ∧
              t.drive.homingSpacing = some 0) ∧
          (spaced → flag = false → s.values.carriers ≤ s.drive.homingEdges → faulted t) ∧
          (¬spaced → faulted t)) ∧
      (s.drive.positionKnown = false → s.drive.state ≠ .homing → t = State.settle s s ∧ s.standsStill t)

/-- The drive's three intervals (R26, R30, R38): 500 ms without a count while duty is applied is STALL; 200 ms of rest in
SETTLING is SETTLED at the target, a dwell opening in SCANNING there even where another carrier lies nearest (log 43), or
POSITION_LOST beyond the tolerance; 200 ms of rest at the home edge is HOMED, which brings the service state IN_SERVICE
(R170), or POSITION_LOST. Before its interval has run only the end of a step follows each (log 33). -/
def Obligations.RestAndStallIntervals : Prop :=
  ∀ s : State, s.isRunning = true →
    let still (t : State) : Prop := t = State.settle s s ∧ s.standsStill t
    (∃ t, exec .stallTimeout s = .next t ∧
      (s.drive.dutyApplied = true → 500 ≤ elapsedMs s.timer s.drive.stallSince →
        t.drive.state = .fault ∧ t.drive.faultKind = some .stall ∧ t.drive.duty = 0 ∧ t.drive.brake = true ∧
          t.drive.target = none) ∧
      (s.drive.dutyApplied = false ∨ elapsedMs s.timer s.drive.stallSince < 500 → still t)) ∧
    (∃ t, exec .settleRestTimeout s = .next t ∧
      (s.drive.state = .settling → 200 ≤ elapsedMs s.timer s.drive.restSince → s.offsetWithin = true → s.quiet →
        let carrier := s.drive.target.getD s.faceCarrier
        t.kept = s.kept ∧ t.drive.state = .idle ∧ t.drive.target = none ∧ t.planner.inFlight = none ∧
          (∃ d, t.face.dwell = some d ∧ d.carrier = carrier ∧ d.phase = .scanning ∧ d.wrong = [] ∧ d.elapsed = 0) ∧
          (∃ c, t.face.settleScan = some c ∧ c.carrier = carrier ∧ c.cycles = 0) ∧
          t.face.image = Vector.replicate 12 SensorPos.unknown ∧
          (s.planner.parkTarget = some carrier → t.planner.parkTarget = none)) ∧
      (s.drive.state = .settling → 200 ≤ elapsedMs s.timer s.drive.restSince → s.offsetWithin = false →
        t.drive.state = .fault ∧ t.drive.faultKind = some .positionLost) ∧
      (s.drive.state ≠ .settling ∨ elapsedMs s.timer s.drive.restSince < 200 → still t)) ∧
    (∃ t, exec .homingRestTimeout s = .next t ∧
      (s.drive.state = .homing → s.drive.homeFound = true → 200 ≤ elapsedMs s.timer s.drive.restSince →
        s.offsetWithin = true →
        t.kept = { s.kept with
          homeFound := false,
          service := if s.control.service = .starting ∨ s.control.service = .outOfService then .inService
            else s.control.service,
          graceSince := if s.control.service = .outOfService then none else s.planner.graceSince }) ∧
      (s.drive.state = .homing → s.drive.homeFound = true → 200 ≤ elapsedMs s.timer s.drive.restSince →
        s.offsetWithin = false → t.drive.state = .fault ∧ t.drive.faultKind = some .positionLost) ∧
      (s.drive.state ≠ .homing ∨ s.drive.homeFound = false ∨ elapsedMs s.timer s.drive.restSince < 200 → still t))

/-- Held work resumes when every cause has cleared and the loop is at rest (R36, R37), at whatever clears the last cause:
RESUME, a debounced STOP turning inactive, the curtain cause after 1 s of clear, the supply cause after 500 ms above (R35);
or at the end of the rest (HOLD_REST_TIMEOUT). A held move settles within the tolerance of its target, its rest interval
then beginning anew (log 40), and otherwise runs toward it, reversed when the target has been passed, which its signed
travel tells (log 25), of an odd short travel the middle count falling to DECEL (log 39); a held homing turns forward again
at the SLOW cruise duty. While another cause is in force or the loop not at rest the work stays held. A command whose cause
or time is not there brings only the end of a step (log 33). -/
def Obligations.HeldWorkResumes : Prop :=
  ∀ s : State, s.isRunning = true →
    let still (t : State) : Prop := t = State.settle s s ∧ s.standsStill t
    let halt := s.control.halt
    let stop := s.face.stopActive
    let curtain := s.drive.curtainCause
    let supply := s.drive.supplyCause
    let resumes (t : State) (other : Bool) : Prop := s.drive.state = .holding →
      (other = false → s.rested → s.resumed t) ∧
        (other = true ∨ ¬s.rested → t.drive.unstuck = { s.drive.unstuck with
          curtainCause := t.drive.curtainCause, curtainClearSince := t.drive.curtainClearSince,
          supplyCause := t.drive.supplyCause, supplyClearSince := t.drive.supplyClearSince })
    (∃ t, exec .holdRestTimeout s = .next t ∧ t.kept = { s.kept with homeFound := t.drive.homeFound } ∧
      resumes t (halt || stop || curtain || supply) ∧
      (s.drive.state ≠ .holding ∨ s.causeInForce = true ∨ ¬s.rested → still t)) ∧
    (∀ h, s.handed h .resume → s.control.service ≠ .setupWait → halt = true →
      ∃ t, exec .resume s = .next t ∧ t.kept = { s.kept with halt := false, homeFound := t.drive.homeFound } ∧
        resumes t (stop || curtain || supply)) ∧
    (∀ high, s.shownLong .stop high → s.activeAt .stop high = false →
      ∃ t, exec (.stopLevelChange high) s = .next t ∧
        t.kept = { s.kept with
          debounces := s.levelTaken .stop high, stop := some false, homeFound := t.drive.homeFound } ∧
        resumes t (halt || curtain || supply)) ∧
    (∃ t, exec .curtainClearTimeout s = .next t ∧
      (∀ since, s.drive.curtainCause = true → s.drive.curtainClearSince = some since →
        1000 ≤ elapsedMs s.timer since →
        t.kept = { s.kept with curtainCause := false, curtainClearSince := none, homeFound := t.drive.homeFound } ∧
          resumes t (halt || stop || supply)) ∧
      (s.drive.curtainCause = false ∨ s.drive.curtainClearSince = none ∨
          (∃ since, s.drive.curtainClearSince = some since ∧ elapsedMs s.timer since < 1000) → still t)) ∧
    (∃ t, exec .supplyClearTimeout s = .next t ∧
      (∀ since, s.drive.supplyCause = true → s.drive.supplyClearSince = some since →
        500 ≤ elapsedMs s.timer since →
        t.kept = { s.kept with supplyCause := false, supplyClearSince := none, homeFound := t.drive.homeFound } ∧
          resumes t (halt || stop || curtain)) ∧
      (s.drive.supplyCause = false ∨ s.drive.supplyClearSince = none ∨
          (∃ since, s.drive.supplyClearSince = some since ∧ elapsedMs s.timer since < 500) → still t))

/-- The face inputs, STOP, the curtain and the supply (R33 to R36, R64). A debounced face input changes only when its line
has shown the other level for 10 ms without a break: until then a level is timed from when the line came to it, and one that
is the debounced level stops the timing. How levels arrive, and which of DONE_EDGE and DONE_RELEASE one of DONE_IN is, is
log 24's. STOP is in force while its input is active; a broken curtain brings its cause at once and its recovery starts the
clearing time. A comparison of the supply changes its live level only when the opposite reading has held for 2 ms; a reading
that agrees with the live level stops its filter, and the two filters run independently. A live level that falls sets its
sticky flag; a live CUT level that falls brings the supply cause, and one that rises starts the clearing time. A cause that
comes into force while MOVING holds the move, duty removed and brake set. How readings arrive is log 37's; a supply exactly
at a level is log 12's free value and nothing is said of it here. -/
def Obligations.LevelsAndHoldingCauses : Prop :=
  ∀ s : State, s.isRunning = true →
    let heldMove (t : State) : Prop := t.drive.state = .holding ∧ t.drive.held = some .move ∧ t.drive.duty = 0 ∧
      t.drive.brake = true ∧ t.drive.target = s.drive.target
    (∀ i high, ¬s.shownLong i high →
      let d := s.face.debounces.of i
      let shown := s.setDebounce i {
        line := some high,
        since := if s.face.levelOf i = some (s.activeAt i high) then none
          else some (if d.line = some high then d.since.getD s.timer else s.timer) }
      ∃ t, exec (s.inputCommand i high) s = .next t ∧ t = State.settle s shown ∧ t.kept = shown.kept) ∧
    (∀ high, s.shownLong .stop high → ∃ t, exec (.stopLevelChange high) s = .next t ∧
      t.kept = { s.kept with
        debounces := s.levelTaken .stop high, stop := some (inputActive s.values.activeLow.stop high),
        homeFound := t.drive.homeFound } ∧
      (inputActive s.values.activeLow.stop high = true → s.drive.state = .moving → heldMove t)) ∧
    (∀ high, s.shownLong .curtain high → ∃ t, exec (.curtainChange high) s = .next t ∧
      (inputActive s.values.activeLow.curtain high = true →
        t.kept = { s.kept with
            debounces := s.levelTaken .curtain high, curtain := some true, curtainCause := true,
            curtainClearSince := none } ∧
          (s.drive.state = .moving → heldMove t)) ∧
      (inputActive s.values.activeLow.curtain high = false →
        t.kept = { s.kept with
          debounces := s.levelTaken .curtain high, curtain := some false, curtainClearSince := some s.timer })) ∧
    (∀ level sense, sense ≠ s.values.supplyThreshold level →
      let below := decide (sense < s.values.supplyThreshold level)
      let since := (s.drive.filterOf level).since
      let read (x : Option Timer) : State := s.setDrive (s.drive.setFilter level { sense := sense, since := x })
      let ran : Prop := ∃ b, since = some b ∧ 2 ≤ elapsedMs s.timer b
      ∃ t, exec (.supplyLevelChange level sense) s = .next t ∧
        (below = s.drive.liveBelow level → t = State.settle s (read none) ∧ t.kept = (read none).kept) ∧
        (below ≠ s.drive.liveBelow level → ¬ran →
          t = State.settle s (read (some (since.getD s.timer))) ∧ t.kept = (read (some (since.getD s.timer))).kept) ∧
        (below ≠ s.drive.liveBelow level → ran → level = .warn →
          t.kept = { (read none).kept with warnBelow := below } ∧
            (below = true → s.control.reportOut ≠ none →
              t.drive.stickyWarn = true ∧ (s.drive.stickyWarn = false → t.control.statePending = true))) ∧
        (below ≠ s.drive.liveBelow level → ran → level = .cut → below = true →
          t.kept = { (read none).kept with cutBelow := true, supplyCause := true, supplyClearSince := none } ∧
            (s.drive.state = .moving → heldMove t) ∧
            (s.control.reportOut ≠ none →
              t.drive.stickyCut = true ∧ (s.drive.stickyCut = false → t.control.statePending = true))) ∧
        (below ≠ s.drive.liveBelow level → ran → level = .cut → below = false →
          t.kept = { (read none).kept with cutBelow := false, supplyClearSince := some s.timer }))

/-- The fault grace runs out (R57, R58): no PICK task stays in the queue, whatever its state, the others stand, the
cancelled slots are OCCUPIED again, and one relinquish is made for each line, carrying the number of its tasks, in the queue
order of each line's oldest. Before it has run only the end of a step follows (log 33). -/
def Obligations.FaultGraceCancelsPicks : Prop :=
  ∀ s : State, s.isRunning = true →
    let lines : List LineRef := s.planner.queue.filterMap fun x => match x.work with
      | .pick l => some l
      | .load _ => none
      | .restore _ => none
    ∃ t, exec .faultGraceTimeout s = .next t ∧
      (∀ since, s.control.service = .outOfService → s.planner.graceSince = some since →
        s.values.faultGrace * 1000 ≤ elapsedMs s.timer since → s.queueOk = true →
        t.kept = { s.kept with graceSince := none } ∧
          (∀ x ∈ t.planner.queue, ∀ l, x.work ≠ .pick l) ∧
          (s.quiet → s.taskList.filter (fun x => x.1.ordinary && !(lines.any fun l => decide (x.1 = .pick l)))
            = t.taskList.filter fun x => x.1.ordinary) ∧
          (s.quiet → s.contests.relinquish.length + lines.eraseDups.length ≤ 32 →
            t.givenBack = s.givenBack ++ lines.eraseDups.map fun l => (l, lines.count l)) ∧
          (s.quiet → s.tableOk = true → ∀ x ∈ s.planner.queue, ∀ l, x.work = .pick l →
            (Memory.get s.store.table x.slot).flipped = 0 → (s.recordAt x.slot).state = .pickClaimed →
            t.recordAt x.slot = (s.recordAt x.slot).keeping .occupied)) ∧
      (s.control.service ≠ .outOfService ∨ s.planner.graceSince = none ∨
          (∃ since, s.planner.graceSince = some since ∧ elapsedMs s.timer since < s.values.faultGrace * 1000) →
        t = State.settle s s ∧ s.standsStill t)

/-! ### The pick face -/

/-- A scan cycle (R61 to R63): it drives the strobes of row 0 to rows − 1 one at a time and in order, each released before
the next, and no other. In HOLDING, UNHOMED, FAULT and IDLE, once 5 ms have passed since the last cycle, every position in
use takes its sample, and a presence changes at the third equal sample that differs from it; before that the image stands.
While MOVING, SETTLING and HOMING every strobe is released, no sample is taken and every position is UNKNOWN, as it is where
a cycle in IDLE ends with the loop in motion or with a new dwell. How a command shows the lines a cycle reads, and that the
first cycle after a suspension is due at once, is log 55's. The settle scan of a dwell in SCANNING is complete at the first
cycle with no position UNKNOWN, or at the twentieth, and is then handed to the Audit Unit with the load pin reading (R142).
-/
def Obligations.ScanCycleSamples : Prop :=
  ∀ (s : State) (returns : BitVec 12) (pin : BitVec 16) (flips : List (Fin 512)), s.isRunning = true →
    let sample (i : Fin 12) : Bool := returns.getLsbD (4 * (i.val / s.values.columns) + i.val % s.values.columns)
    let used (i : Fin 12) : Prop := i.val < s.values.rows * s.values.columns
    let scanning (d : Dwell) : Prop := s.drive.state = .idle ∧ s.face.dwell = some d ∧ d.phase = .scanning
    let wiped (t : State) : Prop := ∀ i : Fin 12, (t.face.image[i]).debounced = .unknown ∧ (t.face.image[i]).run = 0
    let suspended : Prop := s.drive.state = .moving ∨ s.drive.state = .settling ∨ s.drive.state = .homing
    let levels := s.values.strobeLevels
    levels.length = 2 * s.values.rows ∧
    (∀ r, r < s.values.rows → levels[2 * r + 1]? = some (Vector.replicate 3 false) ∧
      ∃ x, levels[2 * r]? = some x ∧ ∀ j : Fin 3, x[j] = decide (j.val = r)) ∧
    (suspended → s.scanStrobes = []) ∧ (¬suspended → s.scanStrobes = levels) ∧
    ∃ t, exec (.scanCycle returns pin flips) s = .next t ∧
      t.kept = { s.kept with scans := t.audit.scans, view := some { returns := returns, loadPin := pin } } ∧
      (suspended → t.audit.scans = s.audit.scans ∧ wiped t ∧ t.face.lastScan = none) ∧
      (¬suspended → s.cycleOver → t.drive.state ≠ .moving → t.face.lastScan = some s.timer) ∧
      (¬suspended → ¬s.cycleOver → t.audit.scans = s.audit.scans) ∧
      (s.drive.state = .idle → (t.drive.state = .moving ∨ s.face.dwell ≠ t.face.dwell ∧ ∃ e, t.face.dwell = some e ∧
        e.phase = .scanning) → (∃ d, scanning d) ∨ wiped t) ∧
      (s.drive.state = .holding ∨ s.drive.state = .unhomed ∨ s.drive.state = .fault ∨ (∃ d, scanning d) ∨
          (s.drive.state = .idle ∧ t.drive.state ≠ .moving ∧ ∀ e, t.face.dwell = some e → e.phase = .working) →
        (¬s.cycleOver → t.face.image = s.face.image) ∧ (s.cycleOver → ∀ i : Fin 12,
          let p := s.face.image[i]
          (¬used i → t.face.image[i] = p) ∧
          (used i →
            (p.debounced = presenceOf (sample i) → t.face.image[i] = { p with run := 0, last := sample i }) ∧
            (p.debounced ≠ presenceOf (sample i) → (p.run = 0 ∨ p.last ≠ sample i) →
              t.face.image[i] = { p with run := 1, last := sample i }) ∧
            (p.debounced ≠ presenceOf (sample i) → p.run = 1 → p.last = sample i →
              t.face.image[i] = { p with run := 2, last := sample i }) ∧
            (p.debounced ≠ presenceOf (sample i) → 2 ≤ p.run → p.last = sample i →
              t.face.image[i] = { debounced := presenceOf (sample i), run := 0, last := sample i })))) ∧
      (∀ d c, scanning d → s.face.settleScan = some c → s.cycleOver →
        let known : Prop := ∀ i : Fin 12, used i → (t.face.image[i]).debounced ≠ .unknown
        (known ∨ 20 ≤ c.cycles + 1 → t.face.settleScan = none ∧
          ∃ scan, t.audit.scans = s.audit.scans ++ [scan] ∧ scan.carrier = c.carrier ∧ scan.hadDue = c.hadDue ∧
            scan.reading = pin.toNat ∧
            ∀ i : Fin 12, used i → scan.image[i.val]? = some (match (t.face.image[i]).debounced with
              | .present => true
              | .absent => false
              | .unknown => sample i)) ∧
          (¬(known ∨ 20 ≤ c.cycles + 1) →
            t.face.settleScan = some { c with cycles := c.cycles + 1 } ∧ t.audit.scans = s.audit.scans))

/-- One change of presence in an open dwell in phase WORKING (R55, R69 to R72), at a slot whose record reads intact or is
corrected. At a lit due slot a PICK going ABSENT, a LOAD going PRESENT and a RESTORE going PRESENT are confirmed: the slot
becomes OUTBOUND, OCCUPIED, or what R71's table gives, the ASSIGNED entry CARRIED, the receiving record counts one loaded
with its STOCK_IN, the RESTORE entry is freed, and the task has left the queue. A record found uncorrectable fails the pick,
with exactly one relinquish and its entry freed; for a LOAD, where every other record reads intact, it counts no load, and
the task moves to another slot or is cancelled. A change at a slot with a wrong event pending drops that event; any other
change makes one, which changes no record. With no due task and no wrong event left the dwell ends (R73). The cycle that
brings the change is one that is due (R61; log 55). The change-applied field of a restore to a slot already SUSPECT(UNKNOWN)
is log 29's. -/
def Obligations.ConfirmationsAndWrongEvents : Prop :=
  ∀ (s : State) (d : Dwell) (i : Fin 12) (returns : BitVec 12) (pin : BitVec 16), s.isRunning = true →
    s.drive.state = .idle → s.cycleOver → s.face.dwell = some d → d.phase = .working → s.face.settleScan = none → s.quiet →
    s.queueOk = true → s.tableOk = true → s.control.log.length + 2 ≤ 16 → s.contests.relinquish.length < 32 →
    let sample (j : Fin 12) : Bool := returns.getLsbD (4 * (j.val / s.values.columns) + j.val % s.values.columns)
    let x := sample i
    i.val < s.values.rows * s.values.columns →
    (s.face.image[i]).debounced = presenceOf (!x) → (s.face.image[i]).run = 2 → (s.face.image[i]).last = x →
    (∀ j : Fin 12, j ≠ i → j.val < s.values.rows * s.values.columns → (s.face.image[j]).debounced = presenceOf (sample j)) →
    let slot := d.carrier * (s.values.rows * s.values.columns) + i.val
    slot < maxPositions →
    let cell := Memory.get s.store.table slot
    let reads : Prop := cell.flipped = 0 ∨ (cell.flipped = 1 ∧ cell.record.legal = true)
    let lit : Prop := ∃ y ∈ d.due, y.slot = slot ∧ s.isLit y = true
    let pending : Prop := ∃ w ∈ d.wrong, w.slot = slot
    let others : List Due := d.due.filter fun y => decide (y.slot ≠ slot)
    let report (body : ReportBody) : Report := { body := body, week := s.control.week, timer := s.timer }
    let corrupt : Report := report (.discrepancy .corrupt (.slot slot) .unreadable true none none)
    let unknown (found : SlotRecord) (applied : Bool) : Report :=
      report (.discrepancy .unknown (.slot slot) found.book applied none none)
    let dwellIs (t : State) (due : List Due) (wrong : List WrongEvent) : Prop :=
      (due = [] ∧ wrong = [] → ∀ e, t.face.dwell = some e → e.phase = .scanning ∧ e.wrong = [] ∧ e.elapsed = 0) ∧
        (¬(due = [] ∧ wrong = []) → ∃ e, t.face.dwell = some e ∧ e.carrier = d.carrier ∧ e.phase = .working ∧
          e.wrong = wrong ∧ due.map Due.slot <+: e.due.map Due.slot)
    let onlySlot (t : State) (r : SlotRecord) : Prop := ∀ n, t.recordAt n = if n = slot then r else s.recordAt n
    let taskDone (t : State) (k : Task) : Prop := (s.taskList.filter fun y => decide (y.2.1 ≠ slot)) <+: t.taskList ∧
      ∀ y ∈ t.planner.queue, y.slot = slot → y.work ≠ k.work
    ∃ t, exec (.scanCycle returns pin []) s = .next t ∧
      t.kept = { s.kept with view := some { returns := returns, loadPin := pin } } ∧
      (pending → dwellIs t d.due (d.wrong.filter fun w => decide (w.slot ≠ slot)) ∧ t.store = s.store ∧
        t.taskList = s.taskList ∧ t.control.log = s.control.log) ∧
      (∀ k l p e, ¬pending → lit → s.taskOn slot = some k → k.work = .pick l → x = false →
        s.assignedPocket slot = some p → s.pocket p = .entry e →
        (reads → cell.record.state = .pickClaimed →
          onlySlot t (cell.record.keeping .outbound) ∧ t.pocket p = .entry { e with state := .carried } ∧ taskDone t k ∧
            dwellIs t others d.wrong ∧ t.control.log = s.control.log ∧ t.givenBack = s.givenBack) ∧
          (¬reads →
            onlySlot t (SlotRecord.suspect .corrupt) ∧ taskDone t k ∧ dwellIs t others d.wrong ∧
              t.control.log = s.control.log ++ [corrupt] ∧ t.givenBack = s.givenBack ++ [(l, 1)] ∧
              t.pocket p ≠ .entry e)) ∧
      (∀ k id, ¬pending → lit → s.taskOn slot = some k → k.work = .load id → x = true →
        (reads → cell.record.state = .reservedIn →
          onlySlot t (cell.record.keeping .occupied) ∧ taskDone t k ∧ dwellIs t others d.wrong ∧
            t.control.log = s.control.log ++ [report (.stockIn slot id)] ∧
            t.face.receiving = (s.face.receiving.map fun r =>
              if r.inboundId = id then { r with loaded := r.loaded + 1 } else r).filter
                fun r => decide (r.loaded ≠ r.claimed)) ∧
          (¬reads → (∀ m, m ≠ slot → (Memory.get s.store.table m).flipped = 0) →
            t.recordAt slot = SlotRecord.suspect .corrupt ∧ (taskDone t k ∨ ∃ n, n ≠ slot ∧
              (s.taskList.map fun y => if y.2.1 = slot then (y.1, n, y.2.2) else y) <+: t.taskList) ∧
            s.control.log ++ [corrupt] <+: t.control.log ∧
            ∀ y ∈ t.control.log.drop s.control.log.length, y.body ≠ .stockIn slot id)) ∧
      (∀ k p, ¬pending → lit → s.taskOn slot = some k → k.work = .restore p → x = true →
        let found := if cell.flipped = 0 ∨ (cell.flipped = 1 ∧ cell.record.legal = true) then cell.record
          else SlotRecord.suspect .corrupt
        taskDone t k ∧ dwellIs t others d.wrong ∧
          (found.state = .outbound → onlySlot t (found.keeping .occupied)) ∧
          (found.state = .retired → onlySlot t found) ∧
          (found.state ≠ .outbound → found.state ≠ .retired → onlySlot t (SlotRecord.suspect .unknown)) ∧
          (∀ e, s.pocket p = .entry e → e.state = .restore → s.sensed p = false →
            (t.pocket p).unassigned = .free ∧
              (reads → found.state = .outbound → t.control.log = s.control.log) ∧
              (reads → found.state ≠ .outbound →
                t.control.log = s.control.log ++ [unknown found
                  (decide (found.state ≠ .retired) && decide (found ≠ SlotRecord.suspect .unknown))])) ∧
          (∀ e, s.pocket p = .entry e → e.state = .restore → s.sensed p = true → t.pocket p = .foreign)) ∧
      (¬pending →
        ¬(lit ∧ ∃ k, s.taskOn slot = some k ∧
          ((∃ l, k.work = .pick l ∧ x = false) ∨ (∃ id, k.work = .load id ∧ x = true) ∨
            ∃ p, k.work = .restore p ∧ x = true)) →
        dwellIs t d.due (d.wrong ++ [{ slot := slot, kind := if x = true then .wrongPlace else .wrongPick }]) ∧
          t.store = s.store ∧ t.taskList = s.taskList ∧ t.control.log = s.control.log ∧ t.givenBack = s.givenBack)

/-- DONE and the dwell timeout (R40, R73, R74): a DONE edge ends an open dwell in phase WORKING, an elapsed time at the
timeout one in either phase. Each due task left becomes DEFERRED with its count one higher, up to 15, a DEFERRED_TASK report
where the count comes to 3 (R44), and keeps no ASSIGNED pocket. A wrong event pending at the close is resolved first: a
WRONG_PICK makes an OCCUPIED or PICK_CLAIMED slot SUSPECT(MISSING), its PICK task failing, a WRONG_PLACE an EMPTY, OUTBOUND
or RESERVED_IN one SUSPECT(UNKNOWN), the LOAD task of the last moving to another slot or being cancelled (R148, R149), any
other slot being left as it is, with one discrepancy record in every case. In FAULT an active DONE starts the 2 s after
which homing begins (R38), and an inactive one stops them. A level of the line is a DONE_EDGE where its polarity makes the
input active, and otherwise a DONE_RELEASE (R64; log 24), and it takes effect where the line has shown it for 10 ms; a first
level adopted is no edge. A timeout not due brings only the end of a step (log 33). -/
def Obligations.DoneAndDwellTimeout : Prop :=
  ∀ s : State, s.isRunning = true →
    let still (t : State) : Prop := t = State.settle s s ∧ s.standsStill t
    let closed (t : State) (d : Dwell) : Prop :=
      let isDue (n : Nat) : Bool := d.due.any fun y => decide (y.slot = n)
      let book (w : WrongEvent) (applied : Bool) : Report :=
        { body := .discrepancy (if w.kind = .wrongPick then .wrongPick else .wrongPlace) (.slot w.slot)
            (s.recordAt w.slot).book applied none none,
          week := s.control.week, timer := s.timer }
      (∀ e, t.face.dwell = some e → e.phase = .scanning ∧ e.wrong = [] ∧ e.elapsed = 0) ∧
        (d.wrong = [] →
          t.taskList = s.taskList.map (fun x =>
              (x.1, x.2.1, x.2.2.1, if isDue x.2.1 then min 15 (x.2.2.2 + 1) else x.2.2.2)) ∧
            (t.face.dwell = none → t.planner.queue.map Task.state =
              s.planner.queue.map fun x => if isDue x.slot then .deferred else x.state) ∧
            (s.control.log.length + s.planner.queue.length ≤ 16 →
              t.control.log = s.control.log ++
                (s.planner.queue.filter fun x => isDue x.slot && decide (x.deferrals = 2)).map fun x =>
                  { body := .deferredTask x.work x.slot (s.values.carrierOf x.slot) 3, week := s.control.week,
                    timer := s.timer }) ∧
            (s.pocketsOk = true → ∀ p e, t.pocket p = .entry e → e.state = .assigned → isDue e.slot = false)) ∧
        (∀ w k id, d.wrong = [w] → w.kind = .wrongPlace → (s.recordAt w.slot).state = .reservedIn →
          s.taskOn w.slot = some k → k.work = .load id → s.control.log.length < 16 → s.intact → s.tableOk = true →
          s.setupOk = true → w.slot < maxPositions →
          t.recordAt w.slot = SlotRecord.suspect .unknown ∧ s.control.log ++ [book w true] <+: t.control.log ∧
            (∀ y ∈ t.planner.queue, y.slot = w.slot → y.work ≠ .load id) ∧
            ((∃ n, n ≠ w.slot ∧ (t.recordAt n).state = .reservedIn ∧ (t.recordAt n).inbound = some id ∧
                (s.recordAt n).state = .empty ∧ ∃ y ∈ t.planner.queue, y.slot = n ∧ y.work = .load id ∧
                  y.created = k.created) ∨
              ((∀ n, n ≠ w.slot → t.recordAt n = s.recordAt n) ∧
                (s.control.log.length + s.planner.queue.length + 2 ≤ 16 →
                  ∃ a b c, ∃ y ∈ t.control.log, y.body = .inboundShort id 1 .early a b c)))) ∧
        (∀ w, d.wrong = [w] → s.control.log.length < 16 → (Memory.get s.store.table w.slot).flipped = 0 →
          s.tableOk = true → w.slot < maxPositions →
          (w.kind = .wrongPick → (s.recordAt w.slot).state = .occupied ∨ (s.recordAt w.slot).state = .pickClaimed →
            t.recordAt w.slot = (s.recordAt w.slot).missing ∧ s.control.log ++ [book w true] <+: t.control.log ∧
              (∀ k l, (s.recordAt w.slot).state = .pickClaimed → s.taskOn w.slot = some k → k.work = .pick l →
                s.contests.relinquish.length < 32 → t.givenBack = s.givenBack ++ [(l, 1)])) ∧
            (w.kind = .wrongPlace → (s.recordAt w.slot).state = .empty ∨ (s.recordAt w.slot).state = .outbound →
              t.recordAt w.slot = SlotRecord.suspect .unknown ∧ s.control.log ++ [book w true] <+: t.control.log) ∧
            (w.kind = .wrongPick → (s.recordAt w.slot).state ≠ .occupied → (s.recordAt w.slot).state ≠ .pickClaimed →
              t.recordAt w.slot = s.recordAt w.slot ∧ s.control.log ++ [book w false] <+: t.control.log) ∧
            (w.kind = .wrongPlace → (s.recordAt w.slot).state ≠ .empty → (s.recordAt w.slot).state ≠ .outbound →
              (s.recordAt w.slot).state ≠ .reservedIn →
              t.recordAt w.slot = s.recordAt w.slot ∧ s.control.log ++ [book w false] <+: t.control.log))
    (∀ high, s.doneCommand high = if inputActive s.values.activeLow.done high = true then .doneEdge else .doneRelease) ∧
    (let high := inputActive s.values.activeLow.done false
      ∃ t, exec .doneRelease s = .next t ∧ (s.quiet → t.work = s.work) ∧
        (¬s.shownLong .done high → t.kept = { s.kept with debounces := t.face.debounces }) ∧
        (s.shownLong .done high → t.kept = { s.kept with
          debounces := s.levelTaken .done high, done := some false, doneSince := none })) ∧
    (let high := inputActive s.values.activeLow.done true
      ∃ t, exec .doneEdge s = .next t ∧
        (¬s.shownLong .done high →
          t.kept = { s.kept with debounces := t.face.debounces } ∧ (s.quiet → t.work = s.work)) ∧
        (s.shownLong .done high →
          t.kept = { s.kept with
            debounces := s.levelTaken .done high, done := some true,
            doneSince := if s.drive.state = .fault then some s.timer else s.drive.doneSince } ∧
          (s.face.done = none → s.quiet → t.work = s.work) ∧
          (s.face.done = some false → (∀ d, s.face.dwell = some d → d.phase = .scanning) → s.quiet → t.work = s.work) ∧
          (∀ d, s.face.done = some false → s.face.dwell = some d → d.phase = .working → s.quiet → s.queueOk = true →
            closed t d))) ∧
    (∃ t, exec .doneHoldTimeout s = .next t ∧
      (∀ since, s.drive.state = .fault → s.drive.doneSince = some since → 2000 ≤ elapsedMs s.timer since →
        t.kept = { s.kept with faultKind := none, doneSince := none, homeFound := false } ∧
          (s.causeInForce = false → t.drive.state = .homing ∧ t.drive.direction = .forward ∧ t.drive.brake = false ∧
            t.drive.duty = s.values.slowDuty) ∧
          (s.causeInForce = true → t.drive.state = .holding ∧ t.drive.held = some .homing)) ∧
      (s.drive.state ≠ .fault ∨ s.drive.doneSince = none ∨
          (∃ since, s.drive.doneSince = some since ∧ elapsedMs s.timer since < 2000) → still t)) ∧
    (∃ t, exec .dwellTimeout s = .next t ∧ t.kept = s.kept ∧
      (∀ d, s.face.dwell = some d → s.values.dwellTimeout * 1000 ≤ d.elapsed → s.quiet → s.queueOk = true →
        closed t d) ∧
      ((∀ d, s.face.dwell = some d → d.elapsed < s.values.dwellTimeout * 1000) → still t))

/-- The load port (R76, R77, R79, R80): an arrival is counted to the oldest record with a tyre still to come, and is
reported STRAY_ARRIVAL where there is none; the line has then shown its level for 10 ms (R64, log 24), and a first level
adopted is no edge. When the timer reaches a record's deadline its newest LOAD tasks, as many as tyres have not arrived, are
cancelled, their slots EMPTY again, claimed becomes arrived, and one INBOUND_SHORT of cause TIMEOUT is written if any task
was cancelled; a record whose tyres are all loaded is freed. With no deadline due only the end of a step follows
INBOUND_DEADLINE (log 33). -/
def Obligations.ArrivalsAndDeadlines : Prop :=
  ∀ s : State, s.isRunning = true →
    (∀ high, ∃ t, exec (.arrival high) s = .next t ∧
      (¬s.shownLong .arrival high → t.kept = { s.kept with debounces := t.face.debounces }) ∧
      (s.shownLong .arrival high → t.kept = { s.kept with
        debounces := s.levelTaken .arrival high, arrival := some (inputActive s.values.activeLow.arrival high) }) ∧
      (¬s.shownLong .arrival high ∨ inputActive s.values.activeLow.arrival high = false ∨ s.face.arrival ≠ some false →
        s.quiet → t.work = s.work) ∧
      (s.shownLong .arrival high → inputActive s.values.activeLow.arrival high = true → s.face.arrival = some false →
        s.quiet →
        (∀ before r after, s.face.receiving = before ++ r :: after → (∀ x ∈ before, x.claimed ≤ x.arrived) →
          r.arrived < r.claimed →
          t.work = { s.work with receiving := before ++ { r with arrived := r.arrived + 1 } :: after }) ∧
        ((∀ x ∈ s.face.receiving, x.claimed ≤ x.arrived) → s.control.log.length < 16 →
          t.work = { s.work with log := s.control.log ++ [{
            body := .discrepancy .strayArrival .nowhere .absent false none none, week := s.control.week,
            timer := s.timer }] }))) ∧
    (∃ t, exec .inboundDeadline s = .next t ∧ t.kept = s.kept ∧
      ((∀ r ∈ s.face.receiving, s.deadlinePassed r.deadline = false ∨ r.claimed ≤ r.arrived) →
        t = State.settle s s ∧ s.standsStill t) ∧
      (∀ before r after, s.face.receiving = before ++ r :: after → s.deadlinePassed r.deadline = true →
        r.arrived < r.claimed → s.quiet →
        (∀ x ∈ before ++ after, x.inboundId ≠ r.inboundId ∧ x.loaded ≠ x.claimed ∧
          (s.deadlinePassed x.deadline = false ∨ x.claimed ≤ x.arrived)) →
        let loads := s.planner.queue.filter fun x => decide (x.work = .load r.inboundId)
        let newest := loads.drop (loads.length - (r.claimed - r.arrived))
        let slots := newest.map Task.slot
        let left := before ++ (if r.loaded = r.arrived then [] else [{ r with claimed := r.arrived }]) ++ after
        t.face.receiving = left ∧
          (newest = [] → t.work = { s.work with receiving := left }) ∧
          (newest ≠ [] → s.queueOk = true → s.intact → s.tableOk = true →
            (∀ n ∈ slots, (s.recordAt n).state = .reservedIn) → s.control.log.length < 16 →
            (s.taskList.filter fun x => !(slots.contains x.2.1)) <+: t.taskList ∧
              (∀ x ∈ t.planner.queue, x.work = .load r.inboundId → x.slot ∉ slots) ∧
              (∀ n, t.recordAt n = if n ∈ slots then SlotRecord.empty else s.recordAt n) ∧
              t.control.log = s.control.log ++ [{
                body := .inboundShort r.inboundId newest.length .timeout r.arrived r.arrived r.loaded,
                week := s.control.week, timer := s.timer }])))

/-- A LOAD task handed over for relocation (R148, R149), on records that read intact. The expected data are those handed
over, or else those of the first other slot reserved for the batch. The task goes to the fitting slot of the least waste,
then the least distance from the planning position, then the lowest number: EMPTY, of a class large enough, sensed ABSENT
where it lies at the face, and named by no other task (log 17). That slot is then RESERVED_IN, and the task keeps its place,
creation time and deferral count, WAITING where it leaves the dwell's carrier (R52). Without data or without a fitting slot
it is cancelled: its record counts one claimed the less, and one INBOUND_SHORT of cause EARLY is written (R78, R80). -/
def Obligations.LoadTasksAreRelocated : Prop :=
  ∀ (s : State) (r : Relocation) (k : Task), s.isRunning = true → s.audit.relocations = [r] →
    s.contests.considering = [] → s.taskOn r.slot = some k → k.work = .load r.inboundId → s.queueOk = true → s.intact →
    s.tableOk = true → s.setupOk = true →
    let v := s.values
    let batch (n : Nat) : Bool := decide (n < v.slots) && decide ((s.recordAt n).state = .reservedIn) &&
      decide ((s.recordAt n).inbound = some r.inboundId)
    let expected (data : Option StockData) : Prop :=
      (∀ x, r.expected = some x → data = some x) ∧
        (∀ n, r.expected = none → batch n = true → (∀ m, m < n → batch m = false) → data = (s.recordAt n).stock) ∧
        (r.expected = none → (∀ n, n < v.slots → batch n = false) → data = none)
    let fits (size n : Nat) : Prop := n < v.slots ∧ (s.recordAt n).state = .empty ∧ size ≤ v.rowClassOf n ∧
      (s.drive.positionKnown = true → v.carrierOf n = s.faceCarrier →
        (s.face.image.toList[n % (v.rows * v.columns)]?).map SensorPos.debounced = some .absent) ∧
      s.taskOn n = none
    let waste (size n : Nat) : Nat := v.rowClassOf n - size
    let far (n : Nat) : Nat := match s.planningPosition with
      | none => 0
      | some c => v.distanceBetween c (v.carrierOf n)
    let before (size a b : Nat) : Prop := waste size a < waste size b ∨
      (waste size a = waste size b ∧ (far a < far b ∨ (far a = far b ∧ a ≤ b)))
    let cancelled (t : State) : Prop :=
      (s.taskList.filter fun y => decide (y.2.1 ≠ r.slot)) <+: t.taskList ∧
        (∀ y ∈ t.planner.queue, y.slot = r.slot → y.work ≠ k.work) ∧ t.store.table = s.store.table ∧
        (∀ x, s.face.receiving = [x] → x.inboundId = r.inboundId → s.control.log.length < 16 →
          let y := { x with claimed := x.claimed - 1, arrived := min x.arrived (x.claimed - 1) }
          t.face.receiving = (if y.loaded = y.claimed then [] else [y]) ∧
            t.control.log = s.control.log ++ [{
              body := .inboundShort r.inboundId 1 .early y.claimed y.arrived y.loaded, week := s.control.week,
              timer := s.timer }])
    ∃ t, exec (.frameHeld .receiver) s = .next t ∧ t.kept = s.kept ∧ t.audit.relocations = [] ∧
      (∀ data, expected (some data) →
        (∀ n, fits data.size n → (∀ m, m < v.slots → fits data.size m → before data.size n m) →
          (∀ m, t.recordAt m = if m = n then SlotRecord.reserved r.inboundId data else s.recordAt m) ∧
            t.taskList = s.taskList.map (fun y => if y.2.1 = r.slot then (y.1, n, y.2.2) else y) ∧
            t.face.receiving = s.face.receiving ∧ t.control.log = s.control.log ∧
            (∀ d, s.face.dwell = some d → (d.due.any fun y => decide (y.slot = r.slot)) = true →
              v.carrierOf n ≠ d.carrier →
              (∃ y ∈ t.planner.queue, y.slot = n ∧ (y.state = .waiting ∨ ∃ e, t.face.dwell = some e ∧ e.carrier ≠ d.carrier)) ∧
                ∀ e, t.face.dwell = some e → ∀ y ∈ e.due, y.slot ≠ r.slot)) ∧
          ((∀ n, n < v.slots → ¬fits data.size n) → cancelled t)) ∧
      (expected none → cancelled t)

/-! ### Audits, bids and stops -/

/-- A settle scan worked (R49, R66, R150, R151, R153, R154): it leaves the list and its carrier leaves the sweep set. The
weight check marks its carrier, and no other: NOT_CHECKED where a slot was UNKNOWN or UNVERIFIED before or is UNKNOWN after,
or the reading is 65,535, MISMATCH where the reading lies further from the expected weight than the tolerance, OK otherwise.
For a carrier of the set the scanned counter rises by one and the found counter by the discrepancy records made, up to 255
each; when the set becomes empty both go out in an AUDIT_DONE and are 0. The task-stop run becomes 0 for a sweep stop and
rises for a task stop. An open dwell in SCANNING there enters WORKING, and ends at once where nothing is due. The weight and
found clauses are about a face that agrees with its settle scan and records that read intact. There, where the audit finds
nothing, the due tasks of the dwell are those handed over and the ready tasks of the carrier that have joined (R52), and
they are asked for in turn (R66, R68): each due PICK without a pocket that the pocket rule gives one (R134) gets pocket 0 if
it is free and otherwise pocket 1, with an ASSIGNED entry that names its slot and line, and that pocket counts as taken for
the next. A slot's lamp is then STEADY for a due PICK with a pocket, FLASH for a due LOAD or RESTORE and OFF otherwise
(R67). At any time a pending wrong event shows FAST, and no lamp is lit in SCANNING, without a dwell, or beyond the
positions in use (R67). -/
def Obligations.AuditScanWorksTheScan : Prop :=
  ∀ (s : State) (scan : Scan) (rest : List Scan), s.isRunning = true → s.audit.scans = scan :: rest →
    let v := s.values
    let slots := (List.range (v.rows * v.columns)).map fun i => scan.carrier * (v.rows * v.columns) + i
    let steady : Prop := ∀ i : Fin 12, i.val < v.rows * v.columns → (s.face.image[i]).debounced ≠ .unknown →
      scan.image[i.val]? = some (decide ((s.face.image[i]).debounced = .present))
    ∃ t, exec .auditScan s = .next t ∧ t.audit.scans = rest ∧
      t.kept = { s.kept with
        scans := rest, sweep := t.audit.sweep, scanned := t.audit.scanned, found := t.audit.found,
        marks := t.audit.marks, stopRun := t.planner.stopRun } ∧
      (∀ i : Fin 48, i.val ≠ scan.carrier → t.audit.marks[i] = s.audit.marks[i]) ∧
      (scan.carrier ∉ s.audit.sweep →
        t.audit.sweep = s.audit.sweep ∧ t.audit.scanned = s.audit.scanned ∧ t.audit.found = s.audit.found ∧
          t.planner.stopRun = (if scan.hadDue then min 15 (s.planner.stopRun + 1) else s.planner.stopRun)) ∧
      (scan.carrier ∈ s.audit.sweep →
        t.audit.sweep = s.audit.sweep.filter (fun c => decide (c ≠ scan.carrier)) ∧ t.planner.stopRun = 0 ∧
          (t.audit.sweep = [] → t.audit.scanned = 0 ∧ t.audit.found = 0) ∧
          (t.audit.sweep ≠ [] → t.audit.scanned = min 255 (s.audit.scanned + 1))) ∧
      (steady → s.quiet → s.intact → s.tableOk = true → s.queueOk = true → scan.image.length = v.rows * v.columns →
        scan.carrier < v.carriers → v.slots ≤ maxPositions →
        let unnamed (r : SlotRecord) (reason : SuspectReason) : Bool :=
          decide (r.state = .suspect) && decide (r.reason = some reason)
        let unweighed : Bool :=
          (slots.any fun n => unnamed (s.recordAt n) .unknown || unnamed (s.recordAt n) .unverified) ||
            slots.any fun n => unnamed (t.recordAt n) .unknown
        let expected := v.tare + (slots.map fun n =>
          if (t.recordAt n).state = .occupied ∨ (t.recordAt n).state = .pickClaimed
          then ((t.recordAt n).stock.map StockData.weight).getD 0 else 0).sum
        let off : Bool := decide (scan.reading + v.weightTolerance < expected) ||
          decide (expected + v.weightTolerance < scan.reading)
        let weighed := if unweighed || !(off || decide (scan.reading = 65535)) then 0 else 1
        let made := ((slots.zip scan.image).filter fun x =>
          ((findingOf (s.recordAt x.1) x.2).bind Finding.kind).isSome).length + weighed
        let report (body : ReportBody) : Report := { body := body, week := s.control.week, timer := s.timer }
        (∀ i : Fin 48, i.val = scan.carrier → t.audit.marks[i] =
            (if unweighed || decide (scan.reading = 65535) then .notChecked else if off then .mismatch else .ok)) ∧
          (weighed = 1 → t.control.log.length < 16 → report (.discrepancy .weight (.carrier scan.carrier) .absent false
            (if scan.reading = 65535 then none else some scan.reading) (some expected)) ∈ t.control.log) ∧
          (scan.carrier ∈ s.audit.sweep → t.audit.sweep ≠ [] → t.audit.found = min 255 (s.audit.found + made)) ∧
          (scan.carrier ∈ s.audit.sweep → t.audit.sweep = [] → t.control.log.length < 16 →
            report (.auditDone (min 255 (s.audit.scanned + 1)) (min 255 (s.audit.found + made))) ∈ t.control.log)) ∧
      (∀ d, steady → s.quiet → s.face.dwell = some d → d.phase = .scanning → d.carrier = scan.carrier → d.wrong = [] →
        ((∃ e, t.face.dwell = some e ∧ e.carrier = d.carrier ∧ e.phase = .working ∧ e.scan = scan.image ∧
            e.wrong = [] ∧ e.due ≠ []) ∨
          (∀ e, t.face.dwell = some e → e.phase = .scanning ∧ e.wrong = [] ∧ e.elapsed = 0)) ∧
          (d.due = [] → s.planner.queue = [] →
            ∀ e, t.face.dwell = some e → e.phase = .scanning ∧ e.wrong = [] ∧ e.elapsed = 0) ∧
          (s.intact → s.tableOk = true → s.queueOk = true → scan.image.length = v.rows * v.columns →
            scan.carrier < v.carriers → v.slots ≤ maxPositions →
            (∀ x ∈ slots.zip scan.image, findingOf (s.recordAt x.1) x.2 = none) →
            let joined := s.planner.queue.filter fun k => decide (v.carrierOf k.slot = d.carrier) && s.ready k &&
              !(d.due.any fun y => decide (y.slot = k.slot))
            let due := d.due.map Due.slot ++ joined.map Task.slot
            let asked (u : State) (n : Nat) : State := match (s.taskOn n).map Task.work with
              | some (.pick l) =>
                if (u.assignedPocket n).isNone && u.pocketRule l
                then u.setPocket (if u.pocket 0 = .free then 0 else 1) (.entry {
                  state := .assigned, slot := n, line := some l, intent := .none, grantedAt := none, number := 0 })
                else u
              | _ => u
            due ≠ [] →
            (∃ e, t.face.dwell = some e ∧ e.carrier = d.carrier ∧ e.phase = .working ∧ e.wrong = [] ∧
              e.due.map Due.slot = due) ∧
              (∀ y ∈ t.planner.queue, y.slot ∈ joined.map Task.slot → y.state = .atFace) ∧
              (∀ p, t.pocket p = (due.foldl asked s).pocket p) ∧
              ∀ i : Fin 12,
                let n := scan.carrier * (v.rows * v.columns) + i.val
                (n ∉ due ∨ v.rows * v.columns ≤ i.val → t.slotLamp i.val = .off) ∧
                  (∀ k, i.val < v.rows * v.columns → n ∈ due → s.taskOn n = some k → t.slotLamp i.val =
                    (match k.work with
                     | .pick _ => if (t.assignedPocket n).isSome then .steady else .off
                     | .load _ => .flash
                     | .restore _ => .flash)))) ∧
      (∀ (u : State) (l : LineRef), u.pocketRule l = true ↔
        (u.lane l.lane).synced = true ∧ (∃ b, (u.lane l.lane).bays[l.bay] = some b ∧ b.order = l.order) ∧
          ((u.pocket 0 = .free ∧ u.pocket 1 = .free) ∨
            ((u.pocket 0 = .free ∨ u.pocket 1 = .free) ∧ (u.lane l.lane).ageList.head? = some l.bay))) ∧
      (∀ (u : State) (i : Nat),
        (u.face.dwell = none ∨ (∃ d, u.face.dwell = some d ∧ d.phase = .scanning) ∨ v.rows * v.columns ≤ i ∧ u.values = v →
          u.slotLamp i = .off) ∧
        (∀ d w, u.face.dwell = some d → d.phase = .working → i < u.values.rows * u.values.columns → w ∈ d.wrong →
          w.slot = d.carrier * (u.values.rows * u.values.columns) + i → u.slotLamp i = .fast))

/-- The comparison of one slot (R143, R144), on a record that reads intact: the table of R144 decides the finding; a finding
is asked of the store and, but for UNVERIFIED found absent, one discrepancy record is written with the state read and
whether the request was applied. -/
def Obligations.ComparisonFollowsTheTable : Prop :=
  (∀ r : SlotRecord,
      (r.state = .empty → findingOf r false = none ∧ findingOf r true = some ⟨.suspect .unknown, some .stray⟩) ∧
      (r.state = .occupied → findingOf r true = none ∧ findingOf r false = some ⟨r.missing, some .phantom⟩) ∧
      (r.state = .pickClaimed → findingOf r true = none ∧ findingOf r false = some ⟨r.missing, some .phantom⟩) ∧
      (r.state = .outbound → findingOf r false = none ∧ findingOf r true = some ⟨.suspect .unknown, some .double⟩) ∧
      (r.state = .reservedIn → findingOf r false = none ∧ findingOf r true = some ⟨.suspect .unknown, some .early⟩) ∧
      (r.state = .suspect → r.reason = some .unverified →
        findingOf r false = some ⟨.empty, none⟩ ∧
          findingOf r true = some ⟨.suspect .unknown, some .unverifiedFound⟩) ∧
      (r.state = .suspect → r.reason ≠ some .unverified → ∀ present, findingOf r present = none) ∧
      (r.state = .retired → ∀ present, findingOf r present = none) ∧
      (r.missing.stock = r.stock ∧ r.missing.state = .suspect ∧ r.missing.reason = some .missing)) ∧
    (∀ (c : Comparison) (slot : Nat) (present : Bool), slot < maxPositions →
      (Memory.get c.state.store.table slot).flipped = 0 → c.state.tableOk = true → c.state.control.log.length < 16 →
      c.state.taskOn slot = none →
      (findingOf (c.state.recordAt slot) present = none →
        (c.slot slot present).state = c.state ∧ (c.slot slot present).found = c.found) ∧
      (∀ f, findingOf (c.state.recordAt slot) present = some f →
        (c.slot slot present).state.recordAt slot = f.new ∧
          (∀ n, n ≠ slot → (c.slot slot present).state.recordAt n = c.state.recordAt n) ∧
          (f.kind = none → (c.slot slot present).state.control.log = c.state.control.log ∧
            (c.slot slot present).found = c.found) ∧
          (∀ k, f.kind = some k →
            (c.slot slot present).state.control.log = c.state.control.log ++ [{
                body := .discrepancy k (.slot slot) (c.state.recordAt slot).book true none none,
                week := c.state.control.week, timer := c.state.timer }] ∧
              (c.slot slot present).found = c.found + 1)))

/-- Age and bid (R83, R90 to R93): the age is the store week less the DOT week and 0 for a DOT week ahead of it; m is 256
less the age up to 104, so from 152 to 256; a pick takes m of the first chosen slot, which is the oldest, a store 256. The
base of a pick is wD·D + wP·P + wL·L + wF·F + 16·S, that of a store wD·D + wP·P + wU·U + 24·X + 16·S − C and not below 0;
the bid is the base times m over 1024 rounded to the nearest, an exact half up, and at most 255. There is a result exactly
where a slot is offered and the planner gives a planning position. -/
def Obligations.BidsFollowTheArithmetic : Prop :=
  (∀ week dot : Nat, ageAt week dot = if dot ≤ week then week - dot else 0) ∧
    (∀ age : Nat, ageMultiplier age = 256 - min age 104 ∧ 152 ≤ ageMultiplier age ∧ ageMultiplier age ≤ 256) ∧
    (∀ base m : Nat, bidOf base m = min 255 ((base * m + 512) / 1024) ∧ bidOf base m ≤ 255) ∧
    (∀ base : Nat, 1018 ≤ base → bidOf base 256 = 255) ∧
    (bidOf 148 226 = 33 ∧ bidOf 388 256 = 97 ∧ bidOf 2015 256 = 255 ∧ bidOf 2 256 = 1 ∧ bidOf 1 256 = 0 ∧
      bidOf 126 152 = 19 ∧ bidOf 74 161 = 12) ∧
    (∀ s : State,
      let v := s.values
      let tasks := s.planner.queue.length
      let inUse (n : Nat) : Bool := decide ((s.recordAt n).state ≠ .empty) && decide ((s.recordAt n).state ≠ .retired)
      let used := ((List.range v.slots).filter inUse).length
      let shelves := ((List.range v.slots).filter fun n => decide ((s.recordAt n).state ≠ .retired)).length
      let share := if shelves = 0 then 100 else 100 * used / shelves
      let entries := (if (s.pocket 0).hasEntry then 1 else 0) + (if (s.pocket 1).hasEntry then 1 else 0)
      let beside (d : StockData) : Bool := (List.range v.slots).any fun n =>
        decide ((s.recordAt n).state = .occupied) && decide ((s.recordAt n).stock.map StockData.article = some d.article) &&
          decide ((s.recordAt n).stock.map StockData.batch = some d.batch)
      (∀ p slots, slots ≠ [] →
          (∃ n ∈ slots, s.termD p slots = v.distanceBetween p (v.carrierOf n)) ∧
            ∀ n ∈ slots, s.termD p slots ≤ v.distanceBetween p (v.carrierOf n)) ∧
        (∀ (line : LineRef) (p : Nat),
          (s.lineAt line = none → s.pickResult line p = none) ∧
            (∀ l, s.lineAt line = some l → s.pickOffer l = [] → s.pickResult line p = none) ∧
            (∀ l first rest, s.lineAt line = some l → s.pickOffer l = first :: rest →
              let slots := first :: rest
              let base := v.wD * s.termD p slots + v.wP * tasks + v.wL * v.distance[line.lane] + v.wF * entries +
                16 * (l.quantity - l.claimed - slots.length)
              let m := 256 - min (s.control.week - s.dotAt first) 104
              s.pickResult line p = some {
                  bid := min 255 ((base * m + 512) / 1024), quantity := slots.length, slots := slots } ∧
                ∀ n ∈ slots, s.dotAt first ≤ s.dotAt n ∧ s.control.week - s.dotAt n ≤ v.saleLimit)) ∧
        (∀ (id p : Nat),
          let offer := s.contests.offers.find? fun o => decide (o.inboundId = id)
          (offer = none → s.storeResult id p = none) ∧
            (∀ o, offer = some o → s.storeOffer o = [] → s.storeResult id p = none) ∧
            (∀ o, offer = some o → s.storeOffer o ≠ [] →
              let slots := s.storeOffer o
              let base := v.wD * s.termD p slots + v.wP * tasks + v.wU * share +
                24 * (slots.map fun n => v.rowClassOf n - o.stock.size).sum +
                16 * (o.quantity - o.claimed - slots.length) - (if beside o.stock then 64 else 0)
              s.storeResult id p = some {
                bid := min 255 ((base * 256 + 512) / 1024), quantity := slots.length, slots := slots })) ∧
        (∀ ref, s.planningPosition = none → s.bidResult ref = none) ∧
        (∀ p line, s.planningPosition = some p → s.bidResult (.pick line) = s.pickResult line p) ∧
        (∀ p id, s.planningPosition = some p → s.bidResult (.store id) = s.storeResult id p))

/-- The stop choice (R46 to R48) and the retarget (R51), which every command of a running part ends with (`State.settle`;
log 8). The choice: the sweep first, when the set is not empty and the task-stop run has come to K or no task is a
candidate; then the oldest candidate past the aging limit; then the nearest candidate; then the park target, unless it is at
the face (R47). In IDLE and IN_SERVICE, with no dwell open and no stop in flight, the chosen stop is sent to the drive (R28,
R48): at the face it is SETTLED at once and a dwell opens there; a carrier of N or above is refused; any other is recorded
in flight, and the drive enters MOVING in ACCEL the shorter way round with the brake released, forward on a tie, or HOLDING
under a cause with the move held, its direction taken at once (log 38). Of an odd short travel the middle count falls to
DECEL (log 39). A choice without a stop clears a park target at the face. A retarget (R31, R51) is sent while MOVING for a
new candidate, a task that has become one (known again by log 31's marks) or a carrier that has joined the sweep set, of a
kind that the stop in flight may become, ahead of the loop and before the target, the one the loop reaches first; it is
taken in ACCEL and CRUISE where its index position lies P counts or more ahead, and then only the target, the travel and the
stop in flight change. -/
def Obligations.StopChoiceTakesTheFirstStep : Prop :=
  (∀ s : State,
    let sweeps : Prop := s.audit.sweep ≠ [] ∧ (s.values.sweepEvery ≤ s.planner.stopRun ∨ s.candidates = [])
    (sweeps → ∃ c, s.chooseStop = some { target := c, kind := .sweep } ∧ c ∈ s.audit.sweep ∧
        ∀ d ∈ s.audit.sweep, s.values.distanceBetween s.faceCarrier c ≤ s.values.distanceBetween s.faceCarrier d) ∧
      (∀ before x after, ¬sweeps → s.candidates = before ++ x :: after → (∀ y ∈ before, s.aged y = false) →
        s.aged x = true → s.chooseStop = some { target := s.taskCarrier x, kind := .aged }) ∧
      (¬sweeps → s.candidates ≠ [] → (∀ y ∈ s.candidates, s.aged y = false) →
        ∃ x ∈ s.candidates, s.chooseStop = some { target := s.taskCarrier x, kind := .nearest } ∧
          ∀ y ∈ s.candidates, s.values.distanceBetween s.faceCarrier (s.taskCarrier x) ≤
            s.values.distanceBetween s.faceCarrier (s.taskCarrier y)) ∧
      (s.audit.sweep = [] → s.candidates = [] →
        s.chooseStop = (match s.planner.parkTarget with
          | none => none
          | some c => if c = s.faceCarrier then none else some { target := c, kind := .park }))) ∧
    (∀ s : State, s.isRunning = true →
      exec (.frameHeld .receiver) s = .next (State.settle s s) ∧
        ∀ effect, s.during effect = State.settle s (effect s)) ∧
    (∀ (v : SetupValues) (a j k : Nat), 0 < v.countsPerPitch → v.indexTolerance ≤ v.countsPerPitch → a < v.loop →
      j < v.carriers → k < v.carriers →
      let p := v.countsPerPitch
      let first (span : Nat) (place : Nat → Prop) : Prop := v.indexTolerance < span ∧ place span ∧
        ∀ n, v.indexTolerance < n → n < span → ¬place n
      (v.directionTo j k = .forward ↔ (k + v.carriers - j) % v.carriers ≤ (j + v.carriers - k) % v.carriers) ∧
        (v.countsTo a .forward k < v.loop ∧ (a + v.countsTo a .forward k) % v.loop = k * p) ∧
        (v.countsTo a .reverse k < v.loop ∧ (k * p + v.countsTo a .reverse k) % v.loop = a) ∧
        first (v.accelSpan a .forward) (fun n => (a + n) % p = 0) ∧
        first (v.accelSpan a .reverse) (fun n => (((a : Int) - n) % p) = 0)) ∧
    (∀ b s : State, b.drive.state ≠ .moving → s.drive.state = .idle → s.quiet →
      let t := State.settle b s
      let stays : Prop := t.drive.unstuck = s.drive.unstuck ∧ t.planner.inFlight = s.planner.inFlight
      (s.control.service ≠ .inService ∨ s.planner.inFlight ≠ none ∨
          (∃ d, s.face.dwell = some d ∧ d.phase = .scanning) → stays) ∧
      (s.control.service = .inService → s.planner.inFlight = none → s.face.dwell = none →
        (∀ st, s.chooseStop = some st →
          let dir := s.values.directionTo s.faceCarrier st.target
          let travel := s.values.countsTo s.drive.position dir st.target
          (s.values.carriers ≤ st.target → stays ∧ t.face.dwell = none) ∧
            (st.target < s.values.carriers → st.target = s.faceCarrier →
              stays ∧ ∃ d, t.face.dwell = some d ∧ d.carrier = st.target ∧ d.phase = .scanning ∧ d.wrong = [] ∧
                d.elapsed = 0) ∧
            (st.target < s.values.carriers → st.target ≠ s.faceCarrier →
              t.planner.inFlight = some st ∧ t.planner.parkTarget = s.planner.parkTarget ∧ t.face.dwell = none ∧
                t.drive.target = some st.target ∧
                (s.causeInForce = false → s.begunMove t dir travel) ∧
                (s.causeInForce = true → t.drive.unstuck = { s.drive.unstuck with
                  state := .holding, held := some .move, target := some st.target, direction := dir,
                  travel := (travel : Int) }))) ∧
        (s.chooseStop = none → stays ∧ t.face.dwell = none ∧
          t.planner.parkTarget =
            if s.planner.parkTarget = some s.faceCarrier then none else s.planner.parkTarget))) ∧
    (∀ (b s : State) (old : Stop), b.drive.state = .moving → s.drive.state = .moving → s.face.dwell = none → s.quiet →
      s.planner.inFlight = some old →
      let t := State.settle b s
      let ahead (c : Nat) : Nat := s.values.countsTo s.drive.position s.drive.direction c
      let isNew (x : Stop) : Prop :=
        (x.kind = .nearest ∧ ∃ k ∈ s.candidates, s.taskCarrier k = x.target ∧
          ∀ y ∈ b.candidates, (y.work, y.created, y.joined) ≠ (k.work, k.created, k.joined)) ∨
        (x.kind = .sweep ∧ x.target ∈ s.audit.sweep ∧ x.target ∉ b.audit.sweep)
      let eligible (x : Stop) : Prop := isNew x ∧
        (old.kind = .park ∨ (x.kind = old.kind ∧ (old.kind = .nearest ∨ old.kind = .sweep))) ∧
        0 < ahead x.target ∧ (ahead x.target : Int) < s.drive.travel
      let taken (x : Stop) : Prop := s.drive.phase ≠ .decel ∧ x.target < s.values.carriers ∧
        s.values.countsPerPitch ≤ ahead x.target
      let stands : Prop := t.drive.unstuck = s.drive.unstuck ∧ t.planner.inFlight = some old
      ((∀ x, ¬eligible x) → stands) ∧
        ((∃ x, eligible x) → ∃ x, eligible x ∧ (∀ y, eligible y → ahead x.target ≤ ahead y.target) ∧
          (taken x → t.planner.inFlight = some x ∧
            t.drive.unstuck = { s.drive.unstuck with target := some x.target, travel := (ahead x.target : Int) }) ∧
          (¬taken x → stands)))

end
end

