-- ==== Sys2Proof/Laws/State.lean ====
section
/-! SUPPORT. One lemma per field and setter of the state: the setter's own field, and every other field unchanged. -/

namespace Sys2Proof.Machine.State

section setPending
variable (s : State) (x y : List Instr)
@[simp] theorem setPending_pending : (s.setPending x).pending = x := rfl
@[simp] theorem setPending_power : (s.setPending x).power = s.power := rfl
@[simp] theorem setPending_timer : (s.setPending x).timer = s.timer := rfl
@[simp] theorem setPending_store : (s.setPending x).store = s.store := rfl
@[simp] theorem setPending_drive : (s.setPending x).drive = s.drive := rfl
@[simp] theorem setPending_planner : (s.setPending x).planner = s.planner := rfl
@[simp] theorem setPending_face : (s.setPending x).face = s.face := rfl
@[simp] theorem setPending_contests : (s.setPending x).contests = s.contests := rfl
@[simp] theorem setPending_lanes : (s.setPending x).lanes = s.lanes := rfl
@[simp] theorem setPending_audit : (s.setPending x).audit = s.audit := rfl
@[simp] theorem setPending_port : (s.setPending x).port = s.port := rfl
@[simp] theorem setPending_control : (s.setPending x).control = s.control := rfl
@[simp] theorem setPending_setPending : (s.setPending x).setPending y = s.setPending y := rfl
end setPending

section setPower
variable (s : State) (x y : Power)
@[simp] theorem setPower_pending : (s.setPower x).pending = s.pending := rfl
@[simp] theorem setPower_power : (s.setPower x).power = x := rfl
@[simp] theorem setPower_timer : (s.setPower x).timer = s.timer := rfl
@[simp] theorem setPower_store : (s.setPower x).store = s.store := rfl
@[simp] theorem setPower_drive : (s.setPower x).drive = s.drive := rfl
@[simp] theorem setPower_planner : (s.setPower x).planner = s.planner := rfl
@[simp] theorem setPower_face : (s.setPower x).face = s.face := rfl
@[simp] theorem setPower_contests : (s.setPower x).contests = s.contests := rfl
@[simp] theorem setPower_lanes : (s.setPower x).lanes = s.lanes := rfl
@[simp] theorem setPower_audit : (s.setPower x).audit = s.audit := rfl
@[simp] theorem setPower_port : (s.setPower x).port = s.port := rfl
@[simp] theorem setPower_control : (s.setPower x).control = s.control := rfl
@[simp] theorem setPower_setPower : (s.setPower x).setPower y = s.setPower y := rfl
end setPower

section setTimer
variable (s : State) (x y : Timer)
@[simp] theorem setTimer_pending : (s.setTimer x).pending = s.pending := rfl
@[simp] theorem setTimer_power : (s.setTimer x).power = s.power := rfl
@[simp] theorem setTimer_timer : (s.setTimer x).timer = x := rfl
@[simp] theorem setTimer_store : (s.setTimer x).store = s.store := rfl
@[simp] theorem setTimer_drive : (s.setTimer x).drive = s.drive := rfl
@[simp] theorem setTimer_planner : (s.setTimer x).planner = s.planner := rfl
@[simp] theorem setTimer_face : (s.setTimer x).face = s.face := rfl
@[simp] theorem setTimer_contests : (s.setTimer x).contests = s.contests := rfl
@[simp] theorem setTimer_lanes : (s.setTimer x).lanes = s.lanes := rfl
@[simp] theorem setTimer_audit : (s.setTimer x).audit = s.audit := rfl
@[simp] theorem setTimer_port : (s.setTimer x).port = s.port := rfl
@[simp] theorem setTimer_control : (s.setTimer x).control = s.control := rfl
@[simp] theorem setTimer_setTimer : (s.setTimer x).setTimer y = s.setTimer y := rfl
end setTimer

section setStore
variable (s : State) (x y : StockStore)
@[simp] theorem setStore_pending : (s.setStore x).pending = s.pending := rfl
@[simp] theorem setStore_power : (s.setStore x).power = s.power := rfl
@[simp] theorem setStore_timer : (s.setStore x).timer = s.timer := rfl
@[simp] theorem setStore_store : (s.setStore x).store = x := rfl
@[simp] theorem setStore_drive : (s.setStore x).drive = s.drive := rfl
@[simp] theorem setStore_planner : (s.setStore x).planner = s.planner := rfl
@[simp] theorem setStore_face : (s.setStore x).face = s.face := rfl
@[simp] theorem setStore_contests : (s.setStore x).contests = s.contests := rfl
@[simp] theorem setStore_lanes : (s.setStore x).lanes = s.lanes := rfl
@[simp] theorem setStore_audit : (s.setStore x).audit = s.audit := rfl
@[simp] theorem setStore_port : (s.setStore x).port = s.port := rfl
@[simp] theorem setStore_control : (s.setStore x).control = s.control := rfl
@[simp] theorem setStore_setStore : (s.setStore x).setStore y = s.setStore y := rfl
end setStore

section setDrive
variable (s : State) (x y : Drive)
@[simp] theorem setDrive_pending : (s.setDrive x).pending = s.pending := rfl
@[simp] theorem setDrive_power : (s.setDrive x).power = s.power := rfl
@[simp] theorem setDrive_timer : (s.setDrive x).timer = s.timer := rfl
@[simp] theorem setDrive_store : (s.setDrive x).store = s.store := rfl
@[simp] theorem setDrive_drive : (s.setDrive x).drive = x := rfl
@[simp] theorem setDrive_planner : (s.setDrive x).planner = s.planner := rfl
@[simp] theorem setDrive_face : (s.setDrive x).face = s.face := rfl
@[simp] theorem setDrive_contests : (s.setDrive x).contests = s.contests := rfl
@[simp] theorem setDrive_lanes : (s.setDrive x).lanes = s.lanes := rfl
@[simp] theorem setDrive_audit : (s.setDrive x).audit = s.audit := rfl
@[simp] theorem setDrive_port : (s.setDrive x).port = s.port := rfl
@[simp] theorem setDrive_control : (s.setDrive x).control = s.control := rfl
@[simp] theorem setDrive_setDrive : (s.setDrive x).setDrive y = s.setDrive y := rfl
end setDrive

section setPlanner
variable (s : State) (x y : Planner)
@[simp] theorem setPlanner_pending : (s.setPlanner x).pending = s.pending := rfl
@[simp] theorem setPlanner_power : (s.setPlanner x).power = s.power := rfl
@[simp] theorem setPlanner_timer : (s.setPlanner x).timer = s.timer := rfl
@[simp] theorem setPlanner_store : (s.setPlanner x).store = s.store := rfl
@[simp] theorem setPlanner_drive : (s.setPlanner x).drive = s.drive := rfl
@[simp] theorem setPlanner_planner : (s.setPlanner x).planner = x := rfl
@[simp] theorem setPlanner_face : (s.setPlanner x).face = s.face := rfl
@[simp] theorem setPlanner_contests : (s.setPlanner x).contests = s.contests := rfl
@[simp] theorem setPlanner_lanes : (s.setPlanner x).lanes = s.lanes := rfl
@[simp] theorem setPlanner_audit : (s.setPlanner x).audit = s.audit := rfl
@[simp] theorem setPlanner_port : (s.setPlanner x).port = s.port := rfl
@[simp] theorem setPlanner_control : (s.setPlanner x).control = s.control := rfl
@[simp] theorem setPlanner_setPlanner : (s.setPlanner x).setPlanner y = s.setPlanner y := rfl
end setPlanner

section setFace
variable (s : State) (x y : FaceUnit)
@[simp] theorem setFace_pending : (s.setFace x).pending = s.pending := rfl
@[simp] theorem setFace_power : (s.setFace x).power = s.power := rfl
@[simp] theorem setFace_timer : (s.setFace x).timer = s.timer := rfl
@[simp] theorem setFace_store : (s.setFace x).store = s.store := rfl
@[simp] theorem setFace_drive : (s.setFace x).drive = s.drive := rfl
@[simp] theorem setFace_planner : (s.setFace x).planner = s.planner := rfl
@[simp] theorem setFace_face : (s.setFace x).face = x := rfl
@[simp] theorem setFace_contests : (s.setFace x).contests = s.contests := rfl
@[simp] theorem setFace_lanes : (s.setFace x).lanes = s.lanes := rfl
@[simp] theorem setFace_audit : (s.setFace x).audit = s.audit := rfl
@[simp] theorem setFace_port : (s.setFace x).port = s.port := rfl
@[simp] theorem setFace_control : (s.setFace x).control = s.control := rfl
@[simp] theorem setFace_setFace : (s.setFace x).setFace y = s.setFace y := rfl
end setFace

section setContests
variable (s : State) (x y : ContestEngine)
@[simp] theorem setContests_pending : (s.setContests x).pending = s.pending := rfl
@[simp] theorem setContests_power : (s.setContests x).power = s.power := rfl
@[simp] theorem setContests_timer : (s.setContests x).timer = s.timer := rfl
@[simp] theorem setContests_store : (s.setContests x).store = s.store := rfl
@[simp] theorem setContests_drive : (s.setContests x).drive = s.drive := rfl
@[simp] theorem setContests_planner : (s.setContests x).planner = s.planner := rfl
@[simp] theorem setContests_face : (s.setContests x).face = s.face := rfl
@[simp] theorem setContests_contests : (s.setContests x).contests = x := rfl
@[simp] theorem setContests_lanes : (s.setContests x).lanes = s.lanes := rfl
@[simp] theorem setContests_audit : (s.setContests x).audit = s.audit := rfl
@[simp] theorem setContests_port : (s.setContests x).port = s.port := rfl
@[simp] theorem setContests_control : (s.setContests x).control = s.control := rfl
@[simp] theorem setContests_setContests : (s.setContests x).setContests y = s.setContests y := rfl
end setContests

section setLanes
variable (s : State) (x y : LaneTracker)
@[simp] theorem setLanes_pending : (s.setLanes x).pending = s.pending := rfl
@[simp] theorem setLanes_power : (s.setLanes x).power = s.power := rfl
@[simp] theorem setLanes_timer : (s.setLanes x).timer = s.timer := rfl
@[simp] theorem setLanes_store : (s.setLanes x).store = s.store := rfl
@[simp] theorem setLanes_drive : (s.setLanes x).drive = s.drive := rfl
@[simp] theorem setLanes_planner : (s.setLanes x).planner = s.planner := rfl
@[simp] theorem setLanes_face : (s.setLanes x).face = s.face := rfl
@[simp] theorem setLanes_contests : (s.setLanes x).contests = s.contests := rfl
@[simp] theorem setLanes_lanes : (s.setLanes x).lanes = x := rfl
@[simp] theorem setLanes_audit : (s.setLanes x).audit = s.audit := rfl
@[simp] theorem setLanes_port : (s.setLanes x).port = s.port := rfl
@[simp] theorem setLanes_control : (s.setLanes x).control = s.control := rfl
@[simp] theorem setLanes_setLanes : (s.setLanes x).setLanes y = s.setLanes y := rfl
end setLanes

section setAudit
variable (s : State) (x y : AuditUnit)
@[simp] theorem setAudit_pending : (s.setAudit x).pending = s.pending := rfl
@[simp] theorem setAudit_power : (s.setAudit x).power = s.power := rfl
@[simp] theorem setAudit_timer : (s.setAudit x).timer = s.timer := rfl
@[simp] theorem setAudit_store : (s.setAudit x).store = s.store := rfl
@[simp] theorem setAudit_drive : (s.setAudit x).drive = s.drive := rfl
@[simp] theorem setAudit_planner : (s.setAudit x).planner = s.planner := rfl
@[simp] theorem setAudit_face : (s.setAudit x).face = s.face := rfl
@[simp] theorem setAudit_contests : (s.setAudit x).contests = s.contests := rfl
@[simp] theorem setAudit_lanes : (s.setAudit x).lanes = s.lanes := rfl
@[simp] theorem setAudit_audit : (s.setAudit x).audit = x := rfl
@[simp] theorem setAudit_port : (s.setAudit x).port = s.port := rfl
@[simp] theorem setAudit_control : (s.setAudit x).control = s.control := rfl
@[simp] theorem setAudit_setAudit : (s.setAudit x).setAudit y = s.setAudit y := rfl
end setAudit

section setPort
variable (s : State) (x y : BusPort)
@[simp] theorem setPort_pending : (s.setPort x).pending = s.pending := rfl
@[simp] theorem setPort_power : (s.setPort x).power = s.power := rfl
@[simp] theorem setPort_timer : (s.setPort x).timer = s.timer := rfl
@[simp] theorem setPort_store : (s.setPort x).store = s.store := rfl
@[simp] theorem setPort_drive : (s.setPort x).drive = s.drive := rfl
@[simp] theorem setPort_planner : (s.setPort x).planner = s.planner := rfl
@[simp] theorem setPort_face : (s.setPort x).face = s.face := rfl
@[simp] theorem setPort_contests : (s.setPort x).contests = s.contests := rfl
@[simp] theorem setPort_lanes : (s.setPort x).lanes = s.lanes := rfl
@[simp] theorem setPort_audit : (s.setPort x).audit = s.audit := rfl
@[simp] theorem setPort_port : (s.setPort x).port = x := rfl
@[simp] theorem setPort_control : (s.setPort x).control = s.control := rfl
@[simp] theorem setPort_setPort : (s.setPort x).setPort y = s.setPort y := rfl
end setPort

section setControl
variable (s : State) (x y : StationControl)
@[simp] theorem setControl_pending : (s.setControl x).pending = s.pending := rfl
@[simp] theorem setControl_power : (s.setControl x).power = s.power := rfl
@[simp] theorem setControl_timer : (s.setControl x).timer = s.timer := rfl
@[simp] theorem setControl_store : (s.setControl x).store = s.store := rfl
@[simp] theorem setControl_drive : (s.setControl x).drive = s.drive := rfl
@[simp] theorem setControl_planner : (s.setControl x).planner = s.planner := rfl
@[simp] theorem setControl_face : (s.setControl x).face = s.face := rfl
@[simp] theorem setControl_contests : (s.setControl x).contests = s.contests := rfl
@[simp] theorem setControl_lanes : (s.setControl x).lanes = s.lanes := rfl
@[simp] theorem setControl_audit : (s.setControl x).audit = s.audit := rfl
@[simp] theorem setControl_port : (s.setControl x).port = s.port := rfl
@[simp] theorem setControl_control : (s.setControl x).control = x := rfl
@[simp] theorem setControl_setControl : (s.setControl x).setControl y = s.setControl y := rfl
end setControl

end Sys2Proof.Machine.State
end

