-- ==== Sys2Proof/Laws/Face.lean ====
section
/-! SUPPORT. The lines of the face: the two outcomes of a level shown on an input (R64), when a scan cycle is made and which
sample is which position's (R61), the strobes of a cycle (R61), and the on and off times of a lamp line (R67). -/

namespace Sys2Proof.Machine

/-! ### The debounced inputs (R64) -/

@[simp] theorem Debounces.of_set (d : Debounces) (i : FaceInput) (x : Debounce) : (d.set i x).of i = x := by
  cases i <;> simp [Debounces.set, Debounces.of]

theorem Debounces.of_set_other (d : Debounces) {i j : FaceInput} (x : Debounce) (h : j ≠ i) :
    (d.set i x).of j = d.of j := by
  cases i <;> cases j <;> first | rfl | contradiction | skip
  rename_i p q
  have : p.val ≠ q.val := fun e => h (by rw [Fin.ext e])
  simp [Debounces.set, Debounces.of, Vector.getElem_set_ne _ _ this]

/-- A level is active at one level of its line and not at the other. -/
@[simp] theorem inputActive_twice (activeLow x : Bool) : inputActive activeLow (inputActive activeLow x) = x := by
  cases activeLow <;> cases x <;> rfl

/-- The line that DONE_EDGE and DONE_RELEASE show makes the input active, and inactive. -/
@[simp] theorem State.activeAt_doneLine (s : State) (active : Bool) : s.activeAt .done (s.doneLine active) = active :=
  inputActive_twice _ _

/-- A level differs exactly when it would make the debounced level another. -/
theorem State.levelDiffers_iff {s : State} {i : FaceInput} {high : Bool} :
    s.levelDiffers i high = true ↔ s.face.levelOf i ≠ some (s.activeAt i high) := by simp [State.levelDiffers]

/-- An interval is over when the timer stands so far past its start. -/
theorem State.reached_iff {s : State} {start : Timer} {ms : Nat} :
    s.reached start ms = true ↔ ms ≤ elapsedMs s.timer start := decide_eq_true_iff

/-- The line has shown its level for 10 ms exactly when its timing, if any runs, is 10 ms old. -/
theorem State.levelHeld_iff {s : State} {i : FaceInput} :
    s.levelHeld i = true ↔ ∃ b, (s.face.debounces.of i).since = some b ∧ 10 ≤ elapsedMs s.timer b := by
  unfold State.levelHeld
  cases (s.face.debounces.of i).since with
  | none => simp
  | some b => simp [State.reached_iff, inputMs]

/-- When a level changes the debounced one. -/
theorem State.shownLong_iff {s : State} {i : FaceInput} {high : Bool} :
    s.shownLong i high ↔
      s.levelDiffers i high = true ∧ (s.face.debounces.of i).line = some high ∧ s.levelHeld i = true := by
  rw [State.levelDiffers_iff, State.levelHeld_iff]; rfl

/-- A level shown for 10 ms changes the debounced level. -/
theorem State.debounced_changes {s : State} {i : FaceInput} {high : Bool} (change : State → Bool → State)
    (h : s.shownLong i high) :
    s.debounced i high change =
      change (s.setDebounce i { line := some high, since := none }) (s.activeAt i high) := by
  unfold State.debounced; rw [if_pos (State.shownLong_iff.1 h)]

/-- Any other level is only timed. -/
theorem State.debounced_holds {s : State} {i : FaceInput} {high : Bool} (change : State → Bool → State)
    (h : ¬s.shownLong i high) : s.debounced i high change = s.showLevel i high := by
  unfold State.debounced; rw [if_neg (fun g => h (State.shownLong_iff.2 g))]

/-- Showing a level touches the debounces of the face alone. -/
theorem State.showLevel_debounces (s : State) (i : FaceInput) (high : Bool) :
    s.showLevel i high = s.setFace { s.face with debounces := (s.showLevel i high).face.debounces } := rfl

/-- A level that is the debounced one stops the timing. -/
theorem State.showLevel_same {s : State} {i : FaceInput} {high : Bool} (h : s.levelDiffers i high = false) :
    s.showLevel i high = s.setDebounce i { line := some high, since := none } := by simp [State.showLevel, h]

/-- A level other than the debounced one is timed from when the line came to it. -/
theorem State.showLevel_other {s : State} {i : FaceInput} {high : Bool} (h : s.levelDiffers i high = true) :
    let d := s.face.debounces.of i
    s.showLevel i high = s.setDebounce i {
      line := some high, since := some (if d.line = some high then d.since.getD s.timer else s.timer) } := by
  simp [State.showLevel, h]

/-! ### Scan cycles (R61) -/

/-- A cycle is due exactly when scanning runs and the last one is over. -/
theorem State.scanDue_iff {s : State} : s.scanDue = true ↔ s.scanning = true ∧ s.cycleOver := by
  unfold State.scanDue State.cycleOver
  cases s.face.lastScan with
  | none => simp
  | some b => simp [State.reached_iff, scanMs]

/-- Scanning is suspended while MOVING, SETTLING and HOMING, and runs in every other state. -/
theorem State.scanning_iff {s : State} :
    s.scanning = true ↔ ¬(s.drive.state = .moving ∨ s.drive.state = .settling ∨ s.drive.state = .homing) := by
  unfold State.scanning; cases s.drive.state <;> simp

/-- A position in use is sampled in the read of its row, at its column. -/
theorem SetupValues.sampleAt_eq {v : SetupValues} {place : Nat} (returns : BitVec 12) (h : place < v.rows * v.columns) :
    v.sampleAt returns place = returns.getLsbD (4 * (place / v.columns) + place % v.columns) := by
  have hc : 0 < v.columns := Nat.pos_of_ne_zero fun e => by simp [e] at h
  have hr : place / v.columns < v.rows := Nat.div_lt_of_lt_mul (by rwa [Nat.mul_comm] at h)
  have hm : place % v.columns < v.columns := Nat.mod_lt _ hc
  simp [SetupValues.sampleAt, SetupValues.rowReads, List.getElem?_map, List.getElem?_range hr, List.getD,
    List.getElem?_range hm]

/-- A position off the setup geometry has no row, and reads nothing. -/
theorem SetupValues.sampleAt_beyond {v : SetupValues} {place : Nat} (returns : BitVec 12) (h : v.rows ≤ place / v.columns) :
    v.sampleAt returns place = false := by
  have : (v.rowReads returns)[place / v.columns]? = none := List.getElem?_eq_none (by simpa [SetupValues.rowReads] using h)
  simp [SetupValues.sampleAt, this]

/-- The strobes of a cycle are those of the rows in use, in order, each released before the next. -/
theorem SetupValues.strobeLevels_eq (v : SetupValues) :
    v.strobeLevels = (List.range v.rows).flatMap fun r => [rowStrobe r, strobesReleased] := by
  simp [SetupValues.strobeLevels, SetupValues.rowReads, List.flatMap_map]

/-! ### Lamps (R67) -/

/-- A line whose lamp a step leaves as it was goes on with its on and off times. -/
theorem State.takeLamps_same {before s : State} {i : Fin 12} (h : before.slotLamp i.val = s.slotLamp i.val) :
    (State.takeLamps before s).face.blink[i] = s.face.blink[i] := by simp [State.takeLamps, h]

/-- A line whose lamp a step changes begins its on and off times. -/
theorem State.takeLamps_other {before s : State} {i : Fin 12} (h : before.slotLamp i.val ≠ s.slotLamp i.val) :
    (State.takeLamps before s).face.blink[i] = (s.slotLamp i.val).blinkStart i.val s.timer := by
  simp [State.takeLamps, h]

/-- The lamps are those of the dwell, whatever the on and off times of their lines. -/
@[simp] theorem State.slotLamp_takeLamps (before s : State) (place : Nat) :
    (State.takeLamps before s).slotLamp place = s.slotLamp place := rfl

/-- So many milliseconds on, a FLASH line stands so much later in its second, and a FAST line in its quarter second. -/
theorem Lamp.blinkNext_iterate (n b : Nat) :
    Nat.iterate (Lamp.blinkNext .flash) (n + 1) b = (b + (n + 1)) % 1000 ∧
      Nat.iterate (Lamp.blinkNext .fast) (n + 1) b = (b + (n + 1)) % 250 := by
  induction n with
  | zero => exact ⟨rfl, rfl⟩
  | succ n ih =>
    rw [Function.iterate_succ_apply', Function.iterate_succ_apply' (Lamp.blinkNext .fast), ih.1, ih.2]
    simp only [Lamp.blinkNext, flashMs, fastMs]
    omega

end Sys2Proof.Machine
end

