-- ==== Sys2Proof/Laws/Kept.lean ====
section
/-! SUPPORT. The shared operations on reports, tasks, pockets, records and the dwell leave the kept part of a state
(`State.kept`) as it is. One lemma per operation. -/

namespace Sys2Proof.Machine

/-- A fold of operations that keep the kept part keeps it. -/
theorem foldl_kept {α : Type} (f : State → α → State) (h : ∀ s x, (f s x).kept = s.kept) (xs : List α) (s : State) :
    (xs.foldl f s).kept = s.kept := by
  induction xs generalizing s with
  | nil => rfl
  | cons x rest ih => exact (ih (f s x)).trans (h s x)

/-! ### Reports and frames -/

@[simp] theorem State.countLost_kept (s : State) : s.countLost.kept = s.kept := rfl

@[simp] theorem State.writeReport_kept (s : State) (b : ReportBody) : (s.writeReport b).kept = s.kept := by
  unfold State.writeReport; split <;> rfl

@[simp] theorem State.queueFrame_kept (s : State) (f : Frame) : (s.queueFrame f).kept = s.kept := rfl

@[simp] theorem State.withdrawNth_kept (s : State) (f : Frame) (n : Nat) : (s.withdrawNth f n).kept = s.kept := rfl

@[simp] theorem State.withdrawFrame_kept (s : State) (f : Frame) : (s.withdrawFrame f).kept = s.kept := rfl

@[simp] theorem State.setPendingFlag_kept (s : State) : s.setPendingFlag.kept = s.kept := rfl

@[simp] theorem State.noteNews_kept (b s : State) : (State.noteNews b s).kept = s.kept := by
  unfold State.noteNews; split <;> rfl

@[simp] theorem State.offerReport_kept (s : State) : s.offerReport.kept = s.kept := by
  unfold State.offerReport
  split
  · split
    · rfl
    · split <;> rfl
  · rfl

@[simp] theorem State.queueRelinquish_kept (s : State) : s.queueRelinquish.kept = s.kept := by
  unfold State.queueRelinquish
  split
  · rfl
  · split
    · rfl
    · split <;> rfl

/-! ### Lines and pockets -/

@[simp] theorem State.setPocket_kept (s : State) (p : Fin 2) (x : Pocket) : (s.setPocket p x).kept = s.kept := rfl

@[simp] theorem State.setEntry_kept (s : State) (p : Fin 2) (e : PocketEntry) : (s.setEntry p e).kept = s.kept := rfl

/-- Replacing a lane by one with the same shared account keeps the shared accounts. -/
theorem State.setLane_sharedLanes (s : State) (l : Fin 8) (x : Lane) (h : x.shared = (s.lane l).shared) :
    (s.setLane l x).sharedLanes = s.sharedLanes := by
  unfold State.sharedLanes State.setLane State.lane at *
  apply Vector.ext
  intro i hi
  simp only [State.setLanes, Vector.getElem_map, Vector.getElem_set]
  split
  · rw [h]; simp only [Fin.getElem_fin]; congr 2
  · rfl

/-- Replacing a lane by one with the same shared account keeps the kept part. -/
theorem State.setLane_kept (s : State) (l : Fin 8) (x : Lane) (h : x.shared = (s.lane l).shared) :
    (s.setLane l x).kept = s.kept := by
  have hl := State.setLane_sharedLanes s l x h
  unfold State.kept
  rw [hl]
  rfl

/-- A change of a line's own counts keeps the kept part. -/
theorem State.updateLine_kept (s : State) (l : LineRef) (f : OrderLine → OrderLine)
    (h : ∀ x, (f x).shared = x.shared) : (s.updateLine l f).kept = s.kept := by
  unfold State.updateLine
  split
  · rfl
  · rename_i b hb
    split
    · rfl
    · rename_i line hline
      have hbay : (s.lane l.lane).bays[l.bay] = some b := by
        unfold State.openBay at hb
        split at hb
        · split at hb
          · exact absurd hb (by simp)
          · rename_i b' hb'
            split at hb
            · rw [hb', ← hb]
            · exact absurd hb (by simp)
        · exact absurd hb (by simp)
      apply State.setLane_kept
      unfold Lane.shared
      simp only [Lane.mk.injEq, true_and]
      apply Vector.ext
      intro i hi
      simp only [Vector.getElem_map, Vector.getElem_set]
      split
      · rename_i hi'
        subst hi'
        have hb2 : (s.lane l.lane).bays[l.bay.val] = some b := by simpa using hbay
        rw [hb2]
        simp only [Option.map_some, Option.some.injEq, OpenBay.mk.injEq, true_and]
        apply List.ext_getElem?
        intro n
        simp only [List.getElem?_map, List.getElem?_set]
        split
        · rename_i hn
          subst hn
          split
          · simp [hline, h]
          · simp_all
        · rfl
      · rfl

@[simp] theorem State.addRelinquish_kept (s : State) (line : LineRef) (q : Nat) :
    (s.addRelinquish line q).kept = s.kept := by
  have h := State.updateLine_kept s line (fun l => { l with ownClaim := l.ownClaim - q }) (fun _ => rfl)
  unfold State.addRelinquish
  simp only
  split
  · exact h
  · split <;> exact h

@[simp] theorem State.freeAssigned_kept (s : State) (slot : Nat) : (s.freeAssigned slot).kept = s.kept := by
  unfold State.freeAssigned; split <;> rfl

/-! ### The task queue and the dwell -/

@[simp] theorem State.setQueue_kept (s : State) (q : List Task) : (s.setQueue q).kept = s.kept := rfl

@[simp] theorem State.addTask_kept (s : State) (w : TaskWork) (slot : Nat) : (s.addTask w slot).kept = s.kept := rfl

@[simp] theorem State.requestRestore_kept (s : State) (p : Fin 2) : (s.requestRestore p).kept = s.kept := by
  unfold State.requestRestore
  split
  · rfl
  · split <;> rfl

@[simp] theorem State.dropTask_kept (s : State) (slot : Nat) : (s.dropTask slot).kept = s.kept := by
  unfold State.dropTask
  split
  · rw [foldl_kept _ State.requestRestore_kept]; rfl
  · rfl

@[simp] theorem State.updateTask_kept (s : State) (slot : Nat) (f : Task → Task) :
    (s.updateTask slot f).kept = s.kept := rfl

@[simp] theorem State.setDwell_kept (s : State) (d : Option Dwell) : (s.setDwell d).kept = s.kept := rfl

@[simp] theorem State.dropDue_kept (s : State) (slot : Nat) : (s.dropDue slot).kept = s.kept := by
  unfold State.dropDue; split <;> rfl

@[simp] theorem State.testCompletion_kept (s : State) : s.testCompletion.kept = s.kept := by
  unfold State.testCompletion
  split
  · rfl
  · split <;> rfl

@[simp] theorem State.failPick_kept (s : State) (slot : Nat) (line : LineRef) : (s.failPick slot line).kept = s.kept := by
  unfold State.failPick; simp

@[simp] theorem State.handOn_kept (s : State) (slot : Nat) (d : Option StockData) : (s.handOn slot d).kept = s.kept := by
  unfold State.handOn
  split
  · rfl
  · split
    · simp
    · rfl
    · rfl

@[simp] theorem State.freeReceived_kept (s : State) : s.freeReceived.kept = s.kept := rfl

@[simp] theorem State.updateReceiving_kept (s : State) (id : Nat) (f : Receiving → Receiving) :
    (s.updateReceiving id f).kept = s.kept := rfl

@[simp] theorem State.reportShort_kept (s : State) (id n : Nat) (c : ShortCause) (r : Option Receiving) :
    (s.reportShort id n c r).kept = s.kept := by
  unfold State.reportShort; split <;> simp

/-! ### Slot records -/

@[simp] theorem State.writeRecord_kept (s : State) (slot : Nat) (r : SlotRecord) : (s.writeRecord slot r).kept = s.kept := by
  unfold State.writeRecord; split <;> rfl

@[simp] theorem State.readSlot_kept (s : State) (slot : Nat) : (s.readSlot slot).state.kept = s.kept := by
  unfold State.readSlot
  simp only
  split
  · rfl
  · split
    · simp only [State.writeRecord]; split <;> rfl
    · simp

@[simp] theorem State.request_kept (s : State) (slot : Nat) (a : SlotRecord → Bool) (n : SlotRecord → SlotRecord) :
    (s.request slot a n).state.kept = s.kept := by
  unfold State.request
  simp only
  split
  · simp only; split <;> simp
  · simp

@[simp] theorem State.readSlots_kept (s : State) (slots : List Nat) : (s.readSlots slots).kept = s.kept :=
  foldl_kept _ (fun t n => State.readSlot_kept t n) slots s

@[simp] theorem State.readTable_kept (s : State) : s.readTable.kept = s.kept := by
  unfold State.readTable; exact State.readSlots_kept s _

@[simp] theorem State.removeTask_kept (s : State) (slot : Nat) : (s.removeTask slot).kept = s.kept := by
  unfold State.removeTask; simp

@[simp] theorem State.cancelPick_kept (s : State) (slot : Nat) : (s.cancelPick slot).kept = s.kept := by
  unfold State.cancelPick; simp

@[simp] theorem State.cancelLoad_kept (s : State) (slot : Nat) : (s.cancelLoad slot).kept = s.kept := by
  unfold State.cancelLoad; simp

@[simp] theorem State.cancelPicks_kept (s : State) (test : LineRef → Bool) : (s.cancelPicks test).kept = s.kept := by
  unfold State.cancelPicks; exact foldl_kept _ (fun t (x : Task) => State.cancelPick_kept t x.slot) _ s

@[simp] theorem State.applyAdjust_kept (s : State) (a : AdjustFields) : (s.applyAdjust a).kept = s.kept := by
  unfold State.applyAdjust
  simp only
  split
  · simp
  · split <;> simp

/-! ### Contest records -/

/-- A walk whose visits keep the kept part keeps it. -/
theorem State.walkRecords_kept (s : State) (visit : State → Contest → State × Option Contest)
    (h : ∀ t c, (visit t c).1.kept = t.kept) : (s.walkRecords visit).kept = s.kept := by
  unfold State.walkRecords
  have hf : ∀ (cs : List Contest) (acc : State × List Contest),
      (cs.foldl (fun acc c => ((visit acc.1 c).1, acc.2 ++ (visit acc.1 c).2.toList)) acc).1.kept = acc.1.kept := by
    intro cs
    induction cs with
    | nil => intro acc; rfl
    | cons c rest ih => intro acc; exact (ih _).trans (h acc.1 c)
  exact hf s.contests.records (s, [])

@[simp] theorem State.withdrawBid_kept (s : State) (c : Contest) : (s.withdrawBid c).kept = s.kept := by
  unfold State.withdrawBid; split <;> rfl

@[simp] theorem State.withdrawClaim_kept (s : State) (c : Contest) : (s.withdrawClaim c).kept = s.kept := by
  unfold State.withdrawClaim; split <;> rfl

@[simp] theorem State.withdrawOwn_kept (s : State) (c : Contest) : (s.withdrawOwn c).kept = s.kept := by
  unfold State.withdrawOwn; simp

@[simp] theorem State.endRecord_kept (s : State) (c : Contest) : (s.endRecord c).1.kept = s.kept := by
  unfold State.endRecord
  split
  · rfl
  · split <;> simp

@[simp] theorem State.endRecords_kept (s : State) (test : Contest → Bool) : (s.endRecords test).kept = s.kept := by
  apply State.walkRecords_kept
  intro t c
  split <;> simp

@[simp] theorem State.freeRecords_kept (s : State) (test : Contest → Bool) : (s.freeRecords test).kept = s.kept := by
  apply State.walkRecords_kept
  intro t c
  split <;> simp

@[simp] theorem State.discardComputation_kept (s : State) (test : Ref → Bool) :
    (s.discardComputation test).kept = s.kept := by
  unfold State.discardComputation
  split
  · rfl
  · split <;> rfl

@[simp] theorem State.contestExit_kept (s : State) : s.contestExit.kept = s.kept := by
  unfold State.contestExit; simp

@[simp] theorem State.claimRecord_kept (s : State) (c : Contest) : (s.claimRecord c).1.kept = s.kept := by
  unfold State.claimRecord
  split
  · rfl
  · split <;> rfl

@[simp] theorem State.decideRecord_kept (s : State) (c : Contest) : (s.decideRecord c).1.kept = s.kept := by
  unfold State.decideRecord
  split
  · simp
  · split <;> simp

@[simp] theorem State.openRound_kept (s : State) (o : RoundOpen) : (s.openRound o).kept = s.kept := by
  unfold State.openRound
  exact State.endRecords_kept s _

@[simp] theorem State.emptyOffers_kept (s : State) : s.emptyOffers.kept = s.kept := rfl

/-! ### Outfeed -/

@[simp] theorem State.queueIntent_kept (s : State) (p : Fin 2) : (s.queueIntent p).kept = s.kept := by
  unfold State.queueIntent
  split
  · rfl
  · rfl
  · split
    · rfl
    · split <;> rfl

@[simp] theorem State.withdrawIntent_kept (s : State) (p : Fin 2) : (s.withdrawIntent p).kept = s.kept := by
  unfold State.withdrawIntent
  split
  · rfl
  · rfl
  · split
    · rfl
    · split <;> rfl

@[simp] theorem State.turnRestore_kept (s : State) (p : Fin 2) : (s.turnRestore p).kept = s.kept := by
  unfold State.turnRestore
  simp only
  split <;> simp

@[simp] theorem State.restoreEntries_kept (s : State) (test : LineRef → Bool) :
    (s.restoreEntries test).kept = s.kept := by
  apply foldl_kept
  intro t p
  split
  · rfl
  · split
    · rfl
    · split <;> simp

@[simp] theorem State.becomeForeign_kept (s : State) (p : Fin 2) : (s.becomeForeign p).kept = s.kept := by
  unfold State.becomeForeign; simp

@[simp] theorem State.completeGrant_kept (s : State) (p : Fin 2) (e : PocketEntry) :
    (s.completeGrant p e).kept = s.kept := by
  unfold State.completeGrant
  simp only [State.setPocket_kept, State.request_kept]
  split
  · rfl
  · exact State.updateLine_kept _ _ _ (fun _ => rfl)

@[simp] theorem State.grantEntry_kept (s : State) (p : Fin 2) (e : PocketEntry) : (s.grantEntry p e).kept = s.kept := by
  unfold State.grantEntry
  simp only
  split <;> simp

@[simp] theorem State.refuseEntry_kept (s : State) (p : Fin 2) (e : PocketEntry) : (s.refuseEntry p e).kept = s.kept := rfl

@[simp] theorem State.resendRefused_kept (s : State) (lane : Fin 8) : (s.resendRefused lane).kept = s.kept := by
  apply foldl_kept
  intro t p
  split
  · rfl
  · split
    · rfl
    · split <;> simp

@[simp] theorem State.assignPocket_kept (s : State) (p : Fin 2) (slot : Nat) (line : LineRef) :
    (s.assignPocket p slot line).kept = s.kept := rfl

@[simp] theorem State.loadEntry_kept (s : State) (p : Fin 2) (e : PocketEntry) : (s.loadEntry p e).kept = s.kept := by
  unfold State.loadEntry; simp

@[simp] theorem State.freeRestore_kept (s : State) (p : Fin 2) : (s.freeRestore p).kept = s.kept := by
  unfold State.freeRestore
  split
  · rfl
  · split <;> simp

/-! ### Relocation -/

@[simp] theorem State.moveTask_kept (s : State) (old new : Nat) : (s.moveTask old new).kept = s.kept := by
  unfold State.moveTask
  split
  · rfl
  · split
    · split
      · rfl
      · simp
    · rfl

@[simp] theorem State.cancelRelocated_kept (s : State) (r : Relocation) : (s.cancelRelocated r).kept = s.kept := by
  unfold State.cancelRelocated
  simp only [State.testCompletion_kept, State.freeReceived_kept, State.reportShort_kept]
  exact State.removeTask_kept s r.slot

@[simp] theorem State.placeTask_kept (s : State) (r : Relocation) (d : StockData) : (s.placeTask r d).kept = s.kept := by
  unfold State.placeTask
  split
  · simp
  · simp only; split <;> simp

@[simp] theorem State.relocateOne_kept (s : State) (r : Relocation) : (s.relocateOne r).kept = s.kept := by
  unfold State.relocateOne
  split
  · rfl
  · split
    · simp only; split <;> simp
    · rfl

@[simp] theorem State.relocateUpTo_kept (fuel : Nat) (s : State) : (s.relocateUpTo fuel).kept = s.kept := by
  induction fuel generalizing s with
  | zero => rfl
  | succ n ih =>
    unfold State.relocateUpTo
    split
    · rfl
    · rw [ih, State.relocateOne_kept]; rfl

@[simp] theorem State.relocateAll_kept (s : State) : s.relocateAll.kept = s.kept := State.relocateUpTo_kept _ s

/-! ### The dwell at work -/

@[simp] theorem State.joinDue_kept (s : State) : s.joinDue.kept = s.kept := by
  unfold State.joinDue
  split
  · rfl
  · simp only [State.setDwell_kept]
    exact foldl_kept _ (fun t (x : Task) => State.updateTask_kept t x.slot _) _ s

@[simp] theorem State.lightOne_kept (s : State) (d : Due) : (s.lightOne d).1.kept = s.kept := by
  unfold State.lightOne
  split
  · rfl
  · split
    · rfl
    · rfl
    · split
      · rfl
      · split <;> simp

@[simp] theorem State.lightAll_kept (s : State) (due : List Due) : (s.lightAll due).1.kept = s.kept := by
  unfold State.lightAll
  have hf : ∀ (ds : List Due) (acc : State × List Due),
      (ds.foldl (fun acc d => ((acc.1.lightOne d).1, acc.2 ++ [(acc.1.lightOne d).2])) acc).1.kept = acc.1.kept := by
    intro ds
    induction ds with
    | nil => intro acc; rfl
    | cons d rest ih => intro acc; exact (ih _).trans (State.lightOne_kept acc.1 d)
  exact hf due (s, [])

@[simp] theorem State.lightDue_kept (s : State) : s.lightDue.kept = s.kept := by
  unfold State.lightDue
  split
  · rfl
  · split
    · simp
    · rfl

@[simp] theorem State.refreshDwell_kept (s : State) : s.refreshDwell.kept = s.kept := by
  unfold State.refreshDwell; simp

@[simp] theorem State.resolveWrong_kept (s : State) (w : WrongEvent) : (s.resolveWrong w).kept = s.kept := by
  unfold State.resolveWrong; split <;> simp

@[simp] theorem State.deferTask_kept (s : State) (t : Task) : (s.deferTask t).kept = s.kept := by
  unfold State.deferTask
  simp only
  split <;> simp

@[simp] theorem State.endDwell_kept (s : State) : s.endDwell.kept = s.kept := by
  unfold State.endDwell
  split
  · rfl
  · simp only [State.setDwell_kept]
    unfold State.deferDue State.freeDuePockets
    rw [foldl_kept _ State.deferTask_kept, foldl_kept _ (fun t (d : Due) => State.freeAssigned_kept t d.slot)]

@[simp] theorem State.closeWrong_kept (s : State) (w : WrongEvent) : (s.closeWrong w).kept = s.kept := by
  unfold State.closeWrong; simp

@[simp] theorem State.dropMoved_kept (s : State) (due : List Due) : (s.dropMoved due).kept = s.kept := by
  unfold State.dropMoved
  split
  · rfl
  · exact foldl_kept _ (fun t (x : Due) => by simp) _ s

@[simp] theorem State.closeDwell_kept (s : State) : s.closeDwell.kept = s.kept := by
  unfold State.closeDwell
  split
  · rfl
  · simp only [State.endDwell_kept, State.dropMoved_kept]
    exact foldl_kept _ State.closeWrong_kept _ s

@[simp] theorem State.confirmPick_kept (s : State) (slot : Nat) (line : LineRef) :
    (s.confirmPick slot line).kept = s.kept := by
  unfold State.confirmPick
  simp only
  split
  · simp only [State.dropDue_kept, State.dropTask_kept]
    split
    · simp
    · split <;> simp
  · split
    · simp
    · split <;> simp

@[simp] theorem State.confirmLoad_kept (s : State) (slot id : Nat) : (s.confirmLoad slot id).kept = s.kept := by
  unfold State.confirmLoad
  simp only
  split <;> simp

@[simp] theorem State.confirmRestore_kept (s : State) (slot : Nat) (p : Fin 2) :
    (s.confirmRestore slot p).kept = s.kept := by
  unfold State.confirmRestore
  simp only [State.freeRestore_kept, State.dropDue_kept, State.dropTask_kept]
  split <;> simp

@[simp] theorem State.addWrong_kept (s : State) (slot : Nat) (b : Bool) : (s.addWrong slot b).kept = s.kept := by
  unfold State.addWrong; split <;> rfl

@[simp] theorem State.dropWrong_kept (s : State) (slot : Nat) : (s.dropWrong slot).kept = s.kept := by
  unfold State.dropWrong; split <;> rfl

@[simp] theorem State.useChange_kept (s : State) (d : Dwell) (slot : Nat) (b : Bool) :
    (s.useChange d slot b).kept = s.kept := by
  unfold State.useChange
  split
  · split <;> simp
  · simp

@[simp] theorem State.presenceChange_kept (s : State) (place : Nat) (b : Bool) :
    (s.presenceChange place b).kept = s.kept := by
  unfold State.presenceChange
  split
  · rfl
  · split
    · simp only [State.refreshDwell_kept, State.testCompletion_kept]
      split <;> simp
    · rfl

/-! ### The planner -/

@[simp] theorem State.beginMotion_kept (s : State) (d : Direction) (n : Nat) : (s.beginMotion d n).kept = s.kept := rfl

@[simp] theorem State.takeMove_kept (s : State) (t : Nat) : (s.takeMove t).kept = s.kept := by
  unfold State.takeMove
  simp only
  split <;> rfl

@[simp] theorem State.takeRetarget_kept (s : State) (t : Nat) : (s.takeRetarget t).kept = s.kept := rfl

@[simp] theorem State.settledAt_kept (s : State) (c : Nat) : (s.settledAt c).kept = s.kept := by
  unfold State.settledAt
  simp only
  have hf : ∀ (t : State) (x : Option SettleScan), (t.setFace { t.face with settleScan := x }).kept = t.kept :=
    fun _ _ => rfl
  rw [hf, State.joinDue_kept]
  rfl

@[simp] theorem State.startStop_kept (s : State) (st : Stop) : (s.startStop st).kept = s.kept := by
  unfold State.startStop
  split
  · have hp : ∀ (t : State) (x : Option Stop), (t.setPlanner { t.planner with inFlight := x }).kept = t.kept :=
      fun _ _ => rfl
    simp only [hp, State.takeMove_kept]
  · simp
  · rfl

@[simp] theorem State.chooseNext_kept (s : State) : s.chooseNext.kept = s.kept := by
  unfold State.chooseNext
  split
  · split
    · simp
    · unfold State.clearParked; split <;> rfl
  · rfl

@[simp] theorem State.retarget_kept (b s : State) : (State.retarget b s).kept = s.kept := by
  unfold State.retarget
  split
  · split
    · rfl
    · split <;> rfl
  · rfl

/-! ### Considering rounds -/

@[simp] theorem State.beginComputation_kept (s : State) (o : RoundOpen) : (s.beginComputation o).kept = s.kept := by
  unfold State.beginComputation
  simp only [State.relocateAll_kept]
  exact State.readTable_kept s

@[simp] theorem State.considerList_kept (s : State) (os : List RoundOpen) : (s.considerList os).kept = s.kept := by
  induction os with
  | nil => rfl
  | cons o rest ih =>
    unfold State.considerList
    split
    · rw [State.beginComputation_kept]; rfl
    · exact ih

@[simp] theorem State.considerRounds_kept (s : State) : s.considerRounds.kept = s.kept := by
  unfold State.considerRounds
  split
  · simp
  · rfl

end Sys2Proof.Machine
end

