-- ==== Sys2Proof/Laws/Memory.lean ====
section
/-! SUPPORT. The retained table: what a read gives after a write, and that every write keeps the canonical form. -/

namespace Sys2Proof.Machine

/-- An unlisted position reads as SUSPECT(UNVERIFIED). -/
@[simp] theorem Memory.get_nil (n : Nat) : Memory.get [] n = Cell.unverified := rfl

/-- A table rising from above `n` does not list `n`. -/
theorem Memory.get_below (table : List (Nat × Cell)) (low n : Nat) (h : Memory.wfFrom low table = true) (hn : n < low) :
    Memory.get table n = Cell.unverified := by
  induction table generalizing low with
  | nil => rfl
  | cons e rest ih =>
    obtain ⟨k, c⟩ := e
    simp only [Memory.wfFrom, Bool.and_eq_true, decide_eq_true_eq] at h
    have hk : k ≠ n := by omega
    simp only [Memory.get, if_neg hk]
    exact ih (k + 1) h.2 (by omega)

/-- Reading the position written gives the cell written. -/
theorem Memory.get_set_self (table : List (Nat × Cell)) (low p : Nat) (c : Cell) (h : Memory.wfFrom low table = true) :
    Memory.get (Memory.set p c table) p = c := by
  induction table generalizing low with
  | nil => unfold Memory.set; split <;> simp_all [Memory.get]
  | cons e rest ih =>
    obtain ⟨k, d⟩ := e
    simp only [Memory.wfFrom, Bool.and_eq_true, decide_eq_true_eq] at h
    unfold Memory.set
    split
    · split
      · have hk : k ≠ p := by omega
        simp only [Memory.get, if_neg hk]
        rw [Memory.get_below rest (k + 1) p h.2 (by omega)]
        symm; assumption
      · simp [Memory.get]
    · split
      · split
        · rw [Memory.get_below rest (k + 1) p h.2 (by omega)]
          symm; assumption
        · simp [Memory.get]
      · have hk : k ≠ p := by omega
        simp only [Memory.get, if_neg hk]
        exact ih (k + 1) h.2

/-- Reading another position gives what it gave before. -/
theorem Memory.get_set_other (table : List (Nat × Cell)) (p q : Nat) (c : Cell) (h : q ≠ p) :
    Memory.get (Memory.set p c table) q = Memory.get table q := by
  induction table with
  | nil => unfold Memory.set; split <;> simp_all [Memory.get, Ne.symm h]
  | cons e rest ih =>
    obtain ⟨k, d⟩ := e
    unfold Memory.set
    split
    · split <;> simp [Memory.get, Ne.symm h]
    · split
      · have hk : k ≠ q := by omega
        split <;> simp [Memory.get, hk, Ne.symm h]
      · simp only [Memory.get]
        split
        · rfl
        · exact ih

/-- A write below 512 keeps the canonical form above a bound. -/
theorem Memory.wfFrom_set (table : List (Nat × Cell)) (low p : Nat) (c : Cell) (h : Memory.wfFrom low table = true)
    (hl : low ≤ p) (hp : p < maxPositions) : Memory.wfFrom low (Memory.set p c table) = true := by
  induction table generalizing low with
  | nil => unfold Memory.set; split <;> simp_all [Memory.wfFrom]
  | cons e rest ih =>
    obtain ⟨k, d⟩ := e
    simp only [Memory.wfFrom, Bool.and_eq_true, decide_eq_true_eq] at h
    have widen : ∀ (t : List (Nat × Cell)) (a b : Nat), a ≤ b → Memory.wfFrom b t = true → Memory.wfFrom a t = true := by
      intro t a b hab ht
      cases t with
      | nil => rfl
      | cons e t =>
        simp only [Memory.wfFrom, Bool.and_eq_true, decide_eq_true_eq] at ht ⊢
        exact ⟨⟨⟨by omega, ht.1.1.2⟩, ht.1.2⟩, ht.2⟩
    unfold Memory.set
    split
    · split
      · simp only [Memory.wfFrom, Bool.and_eq_true, decide_eq_true_eq]
        exact h
      · simp only [Memory.wfFrom, Bool.and_eq_true, decide_eq_true_eq]
        exact ⟨⟨⟨hl, hp⟩, by assumption⟩, ⟨⟨⟨by omega, h.1.1.2⟩, h.1.2⟩, h.2⟩⟩
    · split
      · split
        · exact widen rest low (k + 1) (by omega) h.2
        · simp only [Memory.wfFrom, Bool.and_eq_true, decide_eq_true_eq]
          subst_vars
          exact ⟨⟨⟨hl, hp⟩, by assumption⟩, h.2⟩
      · simp only [Memory.wfFrom, Bool.and_eq_true, decide_eq_true_eq]
        exact ⟨h.1, ih (k + 1) h.2 (by omega)⟩

/-- A write of an existing position keeps the canonical form. -/
theorem Memory.wf_set (table : List (Nat × Cell)) (p : Nat) (c : Cell) (h : Memory.wf table = true)
    (hp : p < maxPositions) : Memory.wf (Memory.set p c table) = true :=
  Memory.wfFrom_set table 0 p c h (Nat.zero_le p) hp

/-- A flipped bit keeps the canonical form. -/
theorem Memory.wf_flip (table : List (Nat × Cell)) (p : Nat) (h : Memory.wf table = true) (hp : p < maxPositions) :
    Memory.wf (Memory.flip table p) = true := Memory.wf_set table p _ h hp

/-- Every bit flipped while the part was not running keeps the canonical form. -/
theorem StockStore.flipped_wf (st : StockStore) (flips : List (Fin 512)) (h : Memory.wf st.table = true) :
    Memory.wf (st.flipped flips).table = true := by
  unfold StockStore.flipped
  simp only
  generalize st.table = t at h
  induction flips generalizing t with
  | nil => exact h
  | cons p rest ih => exact ih _ (Memory.wf_flip t p.val h p.isLt)

/-- A record write keeps the canonical form. -/
theorem State.writeRecord_wf (s : State) (slot : Nat) (r : SlotRecord) (h : Memory.wf s.store.table = true) :
    Memory.wf (s.writeRecord slot r).store.table = true := by
  unfold State.writeRecord
  split
  · exact Memory.wf_set _ _ _ h (by assumption)
  · exact h

end Sys2Proof.Machine
end

