-- ==== Sys2Proof/Laws/Outer.lean ====
section
/-! SUPPORT. Work on what has been handed over (relocations, tasks, the dwell, open rounds) leaves the port, the drive, the
contest records and the offers as they are (`State.outer`), and all of it but the consideration of rounds the computation
and the rounds to consider. One lemma per operation. -/

namespace Sys2Proof.Machine

/-- A fold of operations that keep the outer part keeps it. -/
theorem foldl_outer {α : Type} (f : State → α → State) (h : ∀ s x, (f s x).outer = s.outer) (xs : List α) (s : State) :
    (xs.foldl f s).outer = s.outer := by
  induction xs generalizing s with
  | nil => rfl
  | cons x rest ih => exact (ih (f s x)).trans (h s x)

theorem State.updateLine_outer (s : State) (l : LineRef) (f : OrderLine → OrderLine) :
    (s.updateLine l f).outer = s.outer := by
  unfold State.updateLine
  split
  · rfl
  · split <;> rfl

@[simp] theorem State.countLost_outer (s : State) : s.countLost.outer = s.outer := rfl

@[simp] theorem State.writeReport_outer (s : State) (b : ReportBody) : (s.writeReport b).outer = s.outer := by
  unfold State.writeReport; split <;> rfl

@[simp] theorem State.setPocket_outer (s : State) (p : Fin 2) (x : Pocket) : (s.setPocket p x).outer = s.outer := rfl

@[simp] theorem State.setEntry_outer (s : State) (p : Fin 2) (e : PocketEntry) : (s.setEntry p e).outer = s.outer := rfl

@[simp] theorem State.addRelinquish_outer (s : State) (line : LineRef) (q : Nat) :
    (s.addRelinquish line q).outer = s.outer := by
  have h := State.updateLine_outer s line (fun l => { l with ownClaim := l.ownClaim - q })
  unfold State.addRelinquish
  simp only
  split
  · exact h
  · split <;> exact h

@[simp] theorem State.freeAssigned_outer (s : State) (slot : Nat) : (s.freeAssigned slot).outer = s.outer := by
  unfold State.freeAssigned; split <;> rfl

@[simp] theorem State.setQueue_outer (s : State) (q : List Task) : (s.setQueue q).outer = s.outer := rfl

@[simp] theorem State.addTask_outer (s : State) (w : TaskWork) (slot : Nat) : (s.addTask w slot).outer = s.outer := rfl

@[simp] theorem State.requestRestore_outer (s : State) (p : Fin 2) : (s.requestRestore p).outer = s.outer := by
  unfold State.requestRestore
  split
  · rfl
  · split <;> rfl

@[simp] theorem State.dropTask_outer (s : State) (slot : Nat) : (s.dropTask slot).outer = s.outer := by
  unfold State.dropTask
  split
  · rw [foldl_outer _ State.requestRestore_outer]; rfl
  · rfl

@[simp] theorem State.updateTask_outer (s : State) (slot : Nat) (f : Task → Task) :
    (s.updateTask slot f).outer = s.outer := rfl

@[simp] theorem State.setDwell_outer (s : State) (d : Option Dwell) : (s.setDwell d).outer = s.outer := rfl

@[simp] theorem State.dropDue_outer (s : State) (slot : Nat) : (s.dropDue slot).outer = s.outer := by
  unfold State.dropDue; split <;> rfl

@[simp] theorem State.testCompletion_outer (s : State) : s.testCompletion.outer = s.outer := by
  unfold State.testCompletion
  split
  · rfl
  · split <;> rfl

@[simp] theorem State.failPick_outer (s : State) (slot : Nat) (line : LineRef) : (s.failPick slot line).outer = s.outer := by
  unfold State.failPick; simp

@[simp] theorem State.handOn_outer (s : State) (slot : Nat) (d : Option StockData) : (s.handOn slot d).outer = s.outer := by
  unfold State.handOn
  split
  · rfl
  · split
    · simp
    · rfl
    · rfl

@[simp] theorem State.freeReceived_outer (s : State) : s.freeReceived.outer = s.outer := rfl

@[simp] theorem State.updateReceiving_outer (s : State) (id : Nat) (f : Receiving → Receiving) :
    (s.updateReceiving id f).outer = s.outer := rfl

@[simp] theorem State.reportShort_outer (s : State) (id n : Nat) (c : ShortCause) (r : Option Receiving) :
    (s.reportShort id n c r).outer = s.outer := by
  unfold State.reportShort; split <;> simp

@[simp] theorem State.writeRecord_outer (s : State) (slot : Nat) (r : SlotRecord) : (s.writeRecord slot r).outer = s.outer := by
  unfold State.writeRecord; split <;> rfl

@[simp] theorem State.readSlot_outer (s : State) (slot : Nat) : (s.readSlot slot).state.outer = s.outer := by
  unfold State.readSlot
  simp only
  split
  · rfl
  · split
    · simp only [State.writeRecord]; split <;> rfl
    · simp

@[simp] theorem State.request_outer (s : State) (slot : Nat) (a : SlotRecord → Bool) (n : SlotRecord → SlotRecord) :
    (s.request slot a n).state.outer = s.outer := by
  unfold State.request
  simp only
  split
  · simp only; split <;> simp
  · simp

@[simp] theorem State.readSlots_outer (s : State) (slots : List Nat) : (s.readSlots slots).outer = s.outer :=
  foldl_outer _ (fun t n => State.readSlot_outer t n) slots s

@[simp] theorem State.readTable_outer (s : State) : s.readTable.outer = s.outer := by
  unfold State.readTable; exact State.readSlots_outer s _

@[simp] theorem State.removeTask_outer (s : State) (slot : Nat) : (s.removeTask slot).outer = s.outer := by
  unfold State.removeTask; simp

@[simp] theorem State.cancelPick_outer (s : State) (slot : Nat) : (s.cancelPick slot).outer = s.outer := by
  unfold State.cancelPick; simp

@[simp] theorem State.cancelLoad_outer (s : State) (slot : Nat) : (s.cancelLoad slot).outer = s.outer := by
  unfold State.cancelLoad; simp

@[simp] theorem State.cancelPicks_outer (s : State) (test : LineRef → Bool) : (s.cancelPicks test).outer = s.outer := by
  unfold State.cancelPicks; exact foldl_outer _ (fun t (x : Task) => State.cancelPick_outer t x.slot) _ s

@[simp] theorem State.applyAdjust_outer (s : State) (a : AdjustFields) : (s.applyAdjust a).outer = s.outer := by
  unfold State.applyAdjust
  simp only
  split
  · simp
  · split <;> simp

@[simp] theorem State.becomeForeign_outer (s : State) (p : Fin 2) : (s.becomeForeign p).outer = s.outer := by
  unfold State.becomeForeign; simp

@[simp] theorem State.assignPocket_outer (s : State) (p : Fin 2) (slot : Nat) (line : LineRef) :
    (s.assignPocket p slot line).outer = s.outer := rfl

@[simp] theorem State.freeRestore_outer (s : State) (p : Fin 2) : (s.freeRestore p).outer = s.outer := by
  unfold State.freeRestore
  split
  · rfl
  · split <;> simp

@[simp] theorem State.moveTask_outer (s : State) (old new : Nat) : (s.moveTask old new).outer = s.outer := by
  unfold State.moveTask
  split
  · rfl
  · split
    · split
      · rfl
      · simp
    · rfl

@[simp] theorem State.cancelRelocated_outer (s : State) (r : Relocation) : (s.cancelRelocated r).outer = s.outer := by
  unfold State.cancelRelocated
  simp only [State.testCompletion_outer, State.freeReceived_outer, State.reportShort_outer]
  exact State.removeTask_outer s r.slot

@[simp] theorem State.placeTask_outer (s : State) (r : Relocation) (d : StockData) : (s.placeTask r d).outer = s.outer := by
  unfold State.placeTask
  split
  · simp
  · simp only; split <;> simp

@[simp] theorem State.relocateOne_outer (s : State) (r : Relocation) : (s.relocateOne r).outer = s.outer := by
  unfold State.relocateOne
  split
  · rfl
  · split
    · simp only; split <;> simp
    · rfl

@[simp] theorem State.relocateUpTo_outer (fuel : Nat) (s : State) : (s.relocateUpTo fuel).outer = s.outer := by
  induction fuel generalizing s with
  | zero => rfl
  | succ n ih =>
    unfold State.relocateUpTo
    split
    · rfl
    · rw [ih, State.relocateOne_outer]; rfl

@[simp] theorem State.relocateAll_outer (s : State) : s.relocateAll.outer = s.outer := State.relocateUpTo_outer _ s

@[simp] theorem State.joinDue_outer (s : State) : s.joinDue.outer = s.outer := by
  unfold State.joinDue
  split
  · rfl
  · simp only [State.setDwell_outer]
    exact foldl_outer _ (fun t (x : Task) => State.updateTask_outer t x.slot _) _ s

@[simp] theorem State.lightOne_outer (s : State) (d : Due) : (s.lightOne d).1.outer = s.outer := by
  unfold State.lightOne
  split
  · rfl
  · split
    · rfl
    · rfl
    · split
      · rfl
      · split <;> simp

@[simp] theorem State.lightAll_outer (s : State) (due : List Due) : (s.lightAll due).1.outer = s.outer := by
  unfold State.lightAll
  have hf : ∀ (ds : List Due) (acc : State × List Due),
      (ds.foldl (fun acc d => ((acc.1.lightOne d).1, acc.2 ++ [(acc.1.lightOne d).2])) acc).1.outer = acc.1.outer := by
    intro ds
    induction ds with
    | nil => intro acc; rfl
    | cons d rest ih => intro acc; exact (ih _).trans (State.lightOne_outer acc.1 d)
  exact hf due (s, [])

@[simp] theorem State.lightDue_outer (s : State) : s.lightDue.outer = s.outer := by
  unfold State.lightDue
  split
  · rfl
  · split
    · simp
    · rfl

@[simp] theorem State.refreshDwell_outer (s : State) : s.refreshDwell.outer = s.outer := by
  unfold State.refreshDwell; simp

@[simp] theorem State.resolveWrong_outer (s : State) (w : WrongEvent) : (s.resolveWrong w).outer = s.outer := by
  unfold State.resolveWrong; split <;> simp

@[simp] theorem State.deferTask_outer (s : State) (t : Task) : (s.deferTask t).outer = s.outer := by
  unfold State.deferTask
  simp only
  split <;> simp

@[simp] theorem State.endDwell_outer (s : State) : s.endDwell.outer = s.outer := by
  unfold State.endDwell
  split
  · rfl
  · simp only [State.setDwell_outer]
    unfold State.deferDue State.freeDuePockets
    rw [foldl_outer _ State.deferTask_outer, foldl_outer _ (fun t (d : Due) => State.freeAssigned_outer t d.slot)]

@[simp] theorem State.closeWrong_outer (s : State) (w : WrongEvent) : (s.closeWrong w).outer = s.outer := by
  unfold State.closeWrong; simp

@[simp] theorem State.dropMoved_outer (s : State) (due : List Due) : (s.dropMoved due).outer = s.outer := by
  unfold State.dropMoved
  split
  · rfl
  · exact foldl_outer _ (fun t (x : Due) => by simp) _ s

@[simp] theorem State.closeDwell_outer (s : State) : s.closeDwell.outer = s.outer := by
  unfold State.closeDwell
  split
  · rfl
  · simp only [State.endDwell_outer, State.dropMoved_outer]
    exact foldl_outer _ State.closeWrong_outer _ s

@[simp] theorem State.confirmPick_outer (s : State) (slot : Nat) (line : LineRef) :
    (s.confirmPick slot line).outer = s.outer := by
  unfold State.confirmPick
  simp only
  split
  · simp only [State.dropDue_outer, State.dropTask_outer]
    split
    · simp
    · split <;> simp
  · split
    · simp
    · split <;> simp

@[simp] theorem State.confirmLoad_outer (s : State) (slot id : Nat) : (s.confirmLoad slot id).outer = s.outer := by
  unfold State.confirmLoad
  simp only
  split <;> simp

@[simp] theorem State.confirmRestore_outer (s : State) (slot : Nat) (p : Fin 2) :
    (s.confirmRestore slot p).outer = s.outer := by
  unfold State.confirmRestore
  simp only [State.freeRestore_outer, State.dropDue_outer, State.dropTask_outer]
  split <;> simp

@[simp] theorem State.addWrong_outer (s : State) (slot : Nat) (b : Bool) : (s.addWrong slot b).outer = s.outer := by
  unfold State.addWrong; split <;> rfl

@[simp] theorem State.dropWrong_outer (s : State) (slot : Nat) : (s.dropWrong slot).outer = s.outer := by
  unfold State.dropWrong; split <;> rfl

@[simp] theorem State.useChange_outer (s : State) (d : Dwell) (slot : Nat) (b : Bool) :
    (s.useChange d slot b).outer = s.outer := by
  unfold State.useChange
  split
  · split <;> simp
  · simp

@[simp] theorem State.presenceChange_outer (s : State) (place : Nat) (b : Bool) :
    (s.presenceChange place b).outer = s.outer := by
  unfold State.presenceChange
  split
  · rfl
  · split
    · simp only [State.refreshDwell_outer, State.testCompletion_outer]
      split <;> simp
    · rfl

/-- A computation that begins changes the computation alone: its result is that of the table as read (R81). -/
theorem State.beginComputation_outer (s : State) (o : RoundOpen) :
    (s.beginComputation o).outer =
      { s.outer with computing := some { opening := o, result := s.readTable.bidResult o.ref } } := by
  unfold State.beginComputation
  rw [State.relocateAll_outer, ← State.readTable_outer s]
  rfl

/-- Considering rounds changes the computation and the rounds to consider alone. -/
theorem State.considerRounds_outer (s : State) :
    s.considerRounds.outer =
      { s.outer with
        computing := s.considerRounds.contests.computing, considering := s.considerRounds.contests.considering } := by
  have hl : ∀ os : List RoundOpen, (s.considerList os).outer =
      { s.outer with
        computing := (s.considerList os).contests.computing, considering := (s.considerList os).contests.considering } := by
    intro os
    induction os with
    | nil => rfl
    | cons o rest ih =>
      unfold State.considerList
      split
      · have h := State.beginComputation_outer (s.setContests { s.contests with considering := rest }) o
        have h1 := congrArg Outer.computing h
        have h2 := congrArg Outer.considering h
        simp only [State.outer] at h1 h2
        rw [h, h1, h2]
        rfl
      · exact ih
  unfold State.considerRounds
  split
  · exact hl _
  · rfl

end Sys2Proof.Machine
end

