-- ==== Sys2Proof/Laws/Queue.lean ====
section
/-! SUPPORT. Which element leaves a queue when one of several alike is removed (R137, R163). -/

namespace Sys2Proof.Machine

/-- With nothing ahead it is the first that satisfies the test. -/
theorem removeBehind_zero {α : Type} (test : α → Bool) (xs : List α) : removeBehind test 0 xs = removeFirst test xs := by
  induction xs with
  | nil => rfl
  | cons x rest ih => simp only [removeBehind, removeFirst]; split <;> simp [ih]

/-- The element that leaves is the one with exactly so many like it ahead; everything else stays in its order. -/
theorem removeBehind_append {α : Type} (test : α → Bool) (xs : List α) (x : α) (rest : List α) (hx : test x = true) :
    removeBehind test (xs.filter test).length (xs ++ x :: rest) = xs ++ rest := by
  induction xs with
  | nil => simp [removeBehind, hx]
  | cons y ys ih =>
    cases hy : test y with
    | true => simp [removeBehind, hy, ih]
    | false =>
      have h : removeBehind test (ys.filter test).length (y :: (ys ++ x :: rest)) =
          y :: removeBehind test (ys.filter test).length (ys ++ x :: rest) := by
        cases (ys.filter test).length <;> simp [removeBehind, hy]
      simp [hy, h, ih]

/-- A withdrawal changes the transmit queue alone. -/
@[simp] theorem State.withdrawNth_tx (s : State) (f : Frame) (ahead : Nat) :
    (s.withdrawNth f ahead).port.tx =
      removeBehind (fun t => decide (t.frame = f ∧ t.state = .queued)) ahead s.port.tx := rfl

/-- The withdrawal of a frame with none like it ahead. -/
theorem State.withdrawNth_zero (s : State) (f : Frame) : s.withdrawNth f 0 = s.withdrawFrame f := by
  simp [State.withdrawNth, State.withdrawFrame, removeBehind_zero]

end Sys2Proof.Machine
end

