-- ==== Sys2Proof/Laws/Settle.lean ====
section
/-! SUPPORT. What the end of a step (`State.settle`) can do, said once: it keeps the kept part; with nothing handed over it
keeps the book and the work; it moves the drive only from IDLE, or to a nearer target while MOVING; it takes nothing out of
the transmit queue. -/

namespace Sys2Proof.Machine

/-! ### The parts of the end of a step -/

@[simp] theorem State.suspendScan_kept (s : State) : s.suspendScan.kept = s.kept := by
  unfold State.suspendScan; split <;> rfl

@[simp] theorem State.takeLamps_kept (b s : State) : (State.takeLamps b s).kept = s.kept := rfl

@[simp] theorem State.releaseHead_kept (s : State) : s.releaseHead.kept = s.kept := by
  unfold State.releaseHead; split <;> rfl

@[simp] theorem State.offerRest_kept (s : State) : s.offerRest.kept = s.kept := by
  unfold State.offerRest; split <;> simp

@[simp] theorem State.plan_kept (b s : State) : (State.plan b s).kept = s.kept := by
  unfold State.plan; simp

/-- The end of a step keeps the kept part. -/
@[simp] theorem State.settle_kept (b s : State) : (State.settle b s).kept = s.kept := by
  unfold State.settle; simp

/-! ### Work, when nothing handed over waits -/

@[simp] theorem State.setDwell_work (s : State) (d : Option Dwell) : (s.setDwell d).work = s.work := rfl

theorem foldl_work {α : Type} (f : State → α → State) (h : ∀ s x, (f s x).work = s.work) (xs : List α) (s : State) :
    (xs.foldl f s).work = s.work := by
  induction xs generalizing s with
  | nil => rfl
  | cons x rest ih => exact (ih (f s x)).trans (h s x)

/-- A change of task states alone keeps the work. -/
theorem State.updateTask_work (s : State) (slot : Nat) (f : Task → Task)
    (h : ∀ t, ((f t).work, (f t).slot, (f t).created, (f t).deferrals) = (t.work, t.slot, t.created, t.deferrals)) :
    (s.updateTask slot f).work = s.work := by
  unfold State.updateTask State.work
  simp only [State.setPlanner, List.map_map, Work.mk.injEq, and_true, true_and]
  apply List.map_congr_left
  intro t _
  simp only [Function.comp]
  split
  · exact h t
  · rfl

@[simp] theorem State.joinDue_work (s : State) : s.joinDue.work = s.work := by
  unfold State.joinDue
  split
  · rfl
  · simp only [State.setDwell_work]
    exact foldl_work _ (fun t (x : Task) => State.updateTask_work t x.slot Task.atFace (fun _ => rfl)) _ s

@[simp] theorem State.testCompletion_work (s : State) : s.testCompletion.work = s.work := by
  unfold State.testCompletion
  split
  · rfl
  · split <;> rfl

/-- Assigning a free pocket keeps the work: an ASSIGNED entry counts as a free pocket there. -/
theorem State.assignPocket_work (s : State) (p : Fin 2) (slot : Nat) (line : LineRef)
    (h : (s.pocket p).isFree = true) : (s.assignPocket p slot line).work = s.work := by
  have hf : s.lanes.pockets[p] = Pocket.free := by
    unfold State.pocket Pocket.isFree at h
    split at h <;> simp_all
  unfold State.assignPocket State.setEntry State.setPocket State.work
  simp only [State.setLanes, Work.mk.injEq, and_true, true_and]
  apply Vector.ext
  intro i hi
  simp only [Vector.getElem_map, Vector.getElem_set]
  split
  · rename_i he
    subst he
    have : s.lanes.pockets[p.val] = Pocket.free := hf
    rw [this]
    rfl
  · rfl

theorem State.pocketFor_free (s : State) (line : LineRef) (p : Fin 2) (h : s.pocketFor line = some p) :
    (s.pocket p).isFree = true := by
  unfold State.pocketFor at h
  by_cases hr : s.pocketRule line = true
  · rw [if_pos hr] at h
    by_cases h0 : (s.pocket 0).isFree = true
    · rw [if_pos h0, Option.some.injEq] at h
      rw [← h]; exact h0
    · rw [if_neg h0, Option.some.injEq] at h
      rw [← h]
      unfold State.pocketRule at hr
      rw [Bool.and_eq_true] at hr
      have h2 := hr.2
      split at h2
      · simpa [h0] using h2
      · simp [h0] at h2
  · rw [if_neg hr] at h; cases h

@[simp] theorem State.lightOne_work (s : State) (d : Due) : (s.lightOne d).1.work = s.work := by
  unfold State.lightOne
  split
  · rfl
  · split
    · rfl
    · rfl
    · split
      · rfl
      · split
        · rfl
        · rename_i p hp
          exact State.assignPocket_work _ _ _ _ (State.pocketFor_free _ _ _ hp)

@[simp] theorem State.lightAll_work (s : State) (due : List Due) : (s.lightAll due).1.work = s.work := by
  unfold State.lightAll
  have hf : ∀ (ds : List Due) (acc : State × List Due),
      (ds.foldl (fun acc d => ((acc.1.lightOne d).1, acc.2 ++ [(acc.1.lightOne d).2])) acc).1.work = acc.1.work := by
    intro ds
    induction ds with
    | nil => intro acc; rfl
    | cons d rest ih => intro acc; exact (ih _).trans (State.lightOne_work acc.1 d)
  exact hf due (s, [])

@[simp] theorem State.refreshDwell_work (s : State) : s.refreshDwell.work = s.work := by
  unfold State.refreshDwell State.lightDue
  split
  · simp
  · split <;> simp

/-- With no LOAD task handed over, nothing is relocated. -/
theorem State.relocateAll_quiet (s : State) (h : s.audit.relocations = []) : s.relocateAll = s := by
  unfold State.relocateAll State.relocateUpTo
  split
  · rfl
  · rename_i he; rw [h] at he; cases he

/-- With no open round, nothing is considered. -/
theorem State.considerRounds_quiet (s : State) (h : s.contests.considering = []) : s.considerRounds = s := by
  unfold State.considerRounds
  split
  · rw [h]
    unfold State.considerList State.setContests
    rw [← h]
  · rfl

@[simp] theorem State.takeMove_work (s : State) (t : Nat) : (s.takeMove t).work = s.work := by
  unfold State.takeMove
  simp only
  split <;> rfl

@[simp] theorem State.settledAt_work (s : State) (c : Nat) : (s.settledAt c).work = s.work := by
  unfold State.settledAt
  simp only
  have hf : ∀ (t : State) (x : Option SettleScan), (t.setFace { t.face with settleScan := x }).work = t.work :=
    fun _ _ => rfl
  rw [hf, State.joinDue_work]
  rfl

@[simp] theorem State.chooseNext_work (s : State) : s.chooseNext.work = s.work := by
  unfold State.chooseNext
  split
  · split
    · unfold State.startStop
      split
      · have hp : ∀ (t : State) (x : Option Stop), (t.setPlanner { t.planner with inFlight := x }).work = t.work :=
          fun _ _ => rfl
        simp only [hp, State.takeMove_work]
      · simp
      · rfl
    · unfold State.clearParked; split <;> rfl
  · rfl

@[simp] theorem State.plan_work (b s : State) : (State.plan b s).work = s.work := by
  unfold State.plan State.retarget
  split
  · split
    · simp
    · split
      · exact State.chooseNext_work s
      · simp
      · simp
  · simp

@[simp] theorem State.suspendScan_work (s : State) : s.suspendScan.work = s.work := by
  unfold State.suspendScan; split <;> rfl

@[simp] theorem State.takeLamps_work (b s : State) : (State.takeLamps b s).work = s.work := rfl

@[simp] theorem State.noteNews_work (b s : State) : (State.noteNews b s).work = s.work := by
  unfold State.noteNews; split <;> rfl

@[simp] theorem State.releaseHead_work (s : State) : s.releaseHead.work = s.work := by
  unfold State.releaseHead; split <;> rfl

@[simp] theorem State.offerReport_work (s : State) : s.offerReport.work = s.work := by
  unfold State.offerReport
  split
  · split
    · rfl
    · split <;> rfl
  · rfl

@[simp] theorem State.queueRelinquish_work (s : State) : s.queueRelinquish.work = s.work := by
  unfold State.queueRelinquish
  split
  · rfl
  · split
    · rfl
    · split
      · rename_i h _ _
        unfold State.work
        simp [State.setContests, State.queueFrame, State.setPort, h]
      · rfl

@[simp] theorem State.offerRest_work (s : State) : s.offerRest.work = s.work := by
  unfold State.offerRest; split <;> simp

/-- With nothing handed over, the end of a step keeps the book and the work. -/
theorem State.settle_work (b s : State) (h : s.quiet) : (State.settle b s).work = s.work := by
  unfold State.settle
  simp only [State.offerRest_work, State.releaseHead_work, State.noteNews_work, State.takeLamps_work, State.suspendScan_work, State.plan_work,
    State.testCompletion_work, State.refreshDwell_work]
  rw [State.relocateAll_quiet s h.1, State.considerRounds_quiet s h.2]

/-! ### The port, the drive, the records and the offers -/

/-- The state before the planner's part. -/
def State.faced (s : State) : State := s.relocateAll.considerRounds.refreshDwell.testCompletion

theorem State.faced_outer (s : State) :
    s.faced.outer = { s.outer with
      computing := s.relocateAll.considerRounds.contests.computing,
      considering := s.relocateAll.considerRounds.contests.considering } := by
  unfold State.faced
  rw [State.testCompletion_outer, State.refreshDwell_outer, State.considerRounds_outer, State.relocateAll_outer]

theorem State.faced_port (s : State) : s.faced.port = s.port := congrArg Outer.port s.faced_outer
theorem State.faced_drive (s : State) : s.faced.drive = s.drive := congrArg Outer.drive s.faced_outer
theorem State.faced_records (s : State) : s.faced.contests.records = s.contests.records :=
  congrArg Outer.records s.faced_outer
theorem State.faced_offers (s : State) : s.faced.contests.offers = s.contests.offers := congrArg Outer.offers s.faced_outer

theorem State.joinDue_outerParts (s : State) :
    s.joinDue.port = s.port ∧ s.joinDue.drive = s.drive ∧ s.joinDue.contests = s.contests ∧ s.joinDue.lanes = s.lanes := by
  have hf : ∀ (xs : List Task) (t : State),
      (xs.foldl (fun u x => u.updateTask x.slot Task.atFace) t).port = t.port ∧
      (xs.foldl (fun u x => u.updateTask x.slot Task.atFace) t).drive = t.drive ∧
      (xs.foldl (fun u x => u.updateTask x.slot Task.atFace) t).contests = t.contests ∧
      (xs.foldl (fun u x => u.updateTask x.slot Task.atFace) t).lanes = t.lanes := by
    intro xs
    induction xs with
    | nil => intro t; exact ⟨rfl, rfl, rfl, rfl⟩
    | cons x rest ih => intro t; exact ih _
  unfold State.joinDue
  split
  · exact ⟨rfl, rfl, rfl, rfl⟩
  · exact hf _ s

theorem State.settledAt_parts (s : State) (c : Nat) :
    (s.settledAt c).port = s.port ∧ (s.settledAt c).drive = s.drive ∧ (s.settledAt c).contests = s.contests ∧
      (s.settledAt c).lanes = s.lanes := by
  unfold State.settledAt
  exact State.joinDue_outerParts _

/-- The planner leaves the port, the contests and the lanes alone. -/
theorem State.plan_parts (b s : State) :
    (State.plan b s).port = s.port ∧ (State.plan b s).contests = s.contests ∧ (State.plan b s).lanes = s.lanes := by
  have h1 : s.chooseNext.port = s.port ∧ s.chooseNext.contests = s.contests ∧ s.chooseNext.lanes = s.lanes := by
    unfold State.chooseNext
    split
    · split
      · unfold State.startStop
        split
        · unfold State.takeMove; simp only; split <;> exact ⟨rfl, rfl, rfl⟩
        · have h := State.settledAt_parts s (by assumption : Stop).target
          exact ⟨(State.settledAt_parts s _).1, (State.settledAt_parts s _).2.2.1, (State.settledAt_parts s _).2.2.2⟩
        · exact ⟨rfl, rfl, rfl⟩
      · unfold State.clearParked; split <;> exact ⟨rfl, rfl, rfl⟩
    · exact ⟨rfl, rfl, rfl⟩
  unfold State.plan State.retarget
  split
  · split
    · exact h1
    · split
      · exact h1
      · exact h1
      · exact h1
  · exact h1

/-- The planner moves the drive only from IDLE, and while MOVING only to a nearer target (R46, R51). -/
theorem State.plan_drive (b s : State) :
    (s.drive.state ≠ .idle → s.drive.state ≠ .moving → (State.plan b s).drive = s.drive) ∧
      (s.drive.state = .moving →
        (State.plan b s).drive =
          { s.drive with target := (State.plan b s).drive.target, travel := (State.plan b s).drive.travel }) := by
  have hc : s.drive.state ≠ .idle → s.chooseNext = s := by
    intro hi
    unfold State.chooseNext State.mayChoose
    simp [hi]
  constructor
  · intro hi hm
    unfold State.plan State.retarget
    rw [hc hi]
    simp [hm]
  · intro hm
    unfold State.plan State.retarget
    rw [hc (by simp [hm])]
    split
    · split
      · rfl
      · split <;> rfl
    · rfl

theorem State.offerReport_drive (s : State) :
    s.offerReport.drive.unstuck = s.drive.unstuck ∧ s.offerReport.contests = s.contests := by
  unfold State.offerReport
  split
  · split
    · exact ⟨rfl, rfl⟩
    · split <;> exact ⟨rfl, rfl⟩
  · exact ⟨rfl, rfl⟩

theorem State.queueRelinquish_drive (s : State) :
    s.queueRelinquish.drive = s.drive ∧ s.queueRelinquish.contests.records = s.contests.records ∧
      s.queueRelinquish.contests.offers = s.contests.offers := by
  unfold State.queueRelinquish
  split
  · exact ⟨rfl, rfl, rfl⟩
  · split
    · exact ⟨rfl, rfl, rfl⟩
    · split <;> exact ⟨rfl, rfl, rfl⟩

theorem State.releaseHead_parts (s : State) : s.releaseHead.drive = s.drive ∧ s.releaseHead.contests = s.contests := by
  unfold State.releaseHead; split <;> exact ⟨rfl, rfl⟩

/-- What the last parts of the end of a step do to the drive, the records and the offers. -/
theorem State.finish_parts (s : State) :
    (s.releaseHead.offerRest).drive.unstuck = s.drive.unstuck ∧
      (s.releaseHead.offerRest).contests.records = s.contests.records ∧
      (s.releaseHead.offerRest).contests.offers = s.contests.offers := by
  unfold State.offerRest
  split
  · rw [(State.releaseHead_parts s).1, (State.releaseHead_parts s).2]; exact ⟨rfl, rfl, rfl⟩
  · rw [(State.offerReport_drive _).1, (State.offerReport_drive _).2, (State.queueRelinquish_drive _).1,
      (State.queueRelinquish_drive _).2.1, (State.queueRelinquish_drive _).2.2, (State.releaseHead_parts s).1,
      (State.releaseHead_parts s).2]
    exact ⟨rfl, rfl, rfl⟩

theorem State.noteNews_parts (b s : State) :
    (State.noteNews b s).drive = s.drive ∧ (State.noteNews b s).port = s.port ∧
      (State.noteNews b s).contests = s.contests ∧ (State.noteNews b s).face = s.face ∧
      (State.noteNews b s).lanes = s.lanes ∧ (State.noteNews b s).planner = s.planner := by
  unfold State.noteNews; split <;> exact ⟨rfl, rfl, rfl, rfl, rfl, rfl⟩

theorem State.suspendScan_parts (s : State) :
    s.suspendScan.drive = s.drive ∧ s.suspendScan.port = s.port ∧ s.suspendScan.contests = s.contests ∧
      s.suspendScan.lanes = s.lanes := by
  unfold State.suspendScan; split <;> exact ⟨rfl, rfl, rfl, rfl⟩

theorem State.takeLamps_parts (b s : State) :
    (State.takeLamps b s).drive = s.drive ∧ (State.takeLamps b s).port = s.port ∧
      (State.takeLamps b s).contests = s.contests ∧ (State.takeLamps b s).lanes = s.lanes := ⟨rfl, rfl, rfl, rfl⟩

/-- The end of a step leaves the drive as it is but in IDLE and MOVING; while MOVING it changes only the target. -/
theorem State.settle_drive (b s : State) :
    (s.drive.state ≠ .idle → s.drive.state ≠ .moving → (State.settle b s).drive.unstuck = s.drive.unstuck) ∧
      (s.drive.state = .moving →
        (State.settle b s).drive.unstuck =
          { s.drive.unstuck with target := (State.settle b s).drive.target, travel := (State.settle b s).drive.travel }) := by
  have hu : ∀ d e : Drive, d.unstuck = e.unstuck → d.target = e.target ∧ d.travel = e.travel := by
    intro d e h
    exact ⟨(congrArg Drive.target h : d.unstuck.target = e.unstuck.target),
      (congrArg Drive.travel h : d.unstuck.travel = e.unstuck.travel)⟩
  have hs : (State.settle b s).drive.unstuck = (State.plan b s.faced).drive.unstuck := by
    unfold State.settle
    simp only
    rw [(State.finish_parts _).1, (State.noteNews_parts _ _).1, (State.takeLamps_parts _ _).1, (State.suspendScan_parts _).1]
    rfl
  have hp := State.plan_drive b s.faced
  rw [State.faced_drive] at hp
  constructor
  · intro hi hm
    rw [hs, hp.1 hi hm]
  · intro hm
    obtain ⟨h1, h2⟩ := hu _ _ hs
    rw [hs, hp.2 hm, h1, h2]
    rfl

/-- What the end of a step leaves of the plan: nothing after it touches the drive but its sticky flags, the planner, the dwell
or the lanes. -/
theorem State.settle_planned (b s : State) :
    (State.settle b s).drive.unstuck = (State.plan b s.faced).drive.unstuck ∧
      (State.settle b s).planner = (State.plan b s.faced).planner ∧
      (State.settle b s).face.dwell = (State.plan b s.faced).face.dwell ∧
      (State.settle b s).lanes = (State.plan b s.faced).lanes := by
  have hf : ∀ u : State, (u.releaseHead.offerRest).planner = u.planner ∧
      (u.releaseHead.offerRest).face.dwell = u.face.dwell ∧ (u.releaseHead.offerRest).lanes = u.lanes := by
    intro u
    have hr : u.releaseHead.planner = u.planner ∧ u.releaseHead.face = u.face ∧ u.releaseHead.lanes = u.lanes := by
      unfold State.releaseHead; split <;> exact ⟨rfl, rfl, rfl⟩
    have hq : ∀ v : State, v.queueRelinquish.planner = v.planner ∧ v.queueRelinquish.face = v.face ∧
        v.queueRelinquish.lanes = v.lanes := by
      intro v
      unfold State.queueRelinquish
      split
      · exact ⟨rfl, rfl, rfl⟩
      · split
        · exact ⟨rfl, rfl, rfl⟩
        · split <;> exact ⟨rfl, rfl, rfl⟩
    have ho : ∀ v : State, v.offerReport.planner = v.planner ∧ v.offerReport.face = v.face ∧
        v.offerReport.lanes = v.lanes := by
      intro v
      unfold State.offerReport
      split
      · split
        · exact ⟨rfl, rfl, rfl⟩
        · split <;> exact ⟨rfl, rfl, rfl⟩
      · exact ⟨rfl, rfl, rfl⟩
    unfold State.offerRest
    split
    · rw [hr.1, hr.2.1, hr.2.2]; exact ⟨rfl, rfl, rfl⟩
    · rw [(ho _).1, (ho _).2.1, (ho _).2.2, (hq _).1, (hq _).2.1, (hq _).2.2, hr.1, hr.2.1, hr.2.2]
      exact ⟨rfl, rfl, rfl⟩
  have hs : ∀ u : State, u.suspendScan.planner = u.planner ∧ u.suspendScan.face.dwell = u.face.dwell := by
    intro u
    unfold State.suspendScan
    split <;> exact ⟨rfl, rfl⟩
  have hn := State.noteNews_parts b (State.takeLamps b (State.plan b s.faced).suspendScan)
  have he : State.settle b s =
      ((State.noteNews b (State.takeLamps b (State.plan b s.faced).suspendScan)).releaseHead).offerRest := rfl
  refine ⟨?_, ?_, ?_, ?_⟩
  · rw [he, (State.finish_parts _).1, hn.1, (State.takeLamps_parts _ _).1, (State.suspendScan_parts _).1]
  · rw [he, (hf _).1, hn.2.2.2.2.2]
    exact (hs _).1
  · rw [he, (hf _).2.1, hn.2.2.2.1]
    exact (hs _).2
  · rw [he, (hf _).2.2, hn.2.2.2.2.1, (State.takeLamps_parts _ _).2.2.2, (State.suspendScan_parts _).2.2.2]

/-- With nothing handed over and no dwell open, the planner is asked of the state as it is. -/
theorem State.faced_still {s : State} (hq : s.quiet) (hd : s.face.dwell = none) : s.faced = s := by
  have h1 : s.joinDue = s := by unfold State.joinDue; simp only [hd]
  have h2 : s.lightDue = s := by unfold State.lightDue; simp only [hd]
  have h3 : s.testCompletion = s := by unfold State.testCompletion; simp only [hd]
  unfold State.faced State.refreshDwell
  rw [State.relocateAll_quiet s hq.1, State.considerRounds_quiet s hq.2, h1, h2, h3]

theorem State.settle_records (b s : State) : (State.settle b s).contests.records = s.contests.records := by
  unfold State.settle
  simp only
  rw [(State.finish_parts _).2.1, (State.noteNews_parts _ _).2.2.1, (State.takeLamps_parts _ _).2.2.1, (State.suspendScan_parts _).2.2.1,
    (State.plan_parts _ _).2.1]
  exact State.faced_records s

theorem State.settle_offers (b s : State) : (State.settle b s).contests.offers = s.contests.offers := by
  unfold State.settle
  simp only
  rw [(State.finish_parts _).2.2, (State.noteNews_parts _ _).2.2.1, (State.takeLamps_parts _ _).2.2.1, (State.suspendScan_parts _).2.2.1,
    (State.plan_parts _ _).2.1]
  exact State.faced_offers s

/-- The end of a step only appends to the transmit queue. -/
theorem State.settle_tx (b s : State) : s.port.tx <+: (State.settle b s).port.tx := by
  unfold State.settle
  have hf : ∀ t : State, t.port.tx <+: (t.releaseHead.offerRest).port.tx := by
    intro t
    have h1 : t.releaseHead.port.tx = t.port.tx := by unfold State.releaseHead; split <;> rfl
    have h2 : ∀ u : State, u.port.tx <+: u.queueRelinquish.port.tx := by
      intro u
      unfold State.queueRelinquish
      split
      · exact List.prefix_rfl
      · split_ifs
        · exact List.prefix_rfl
        · exact List.prefix_append _ _
        · exact List.prefix_rfl
    have h3 : ∀ u : State, u.port.tx <+: u.offerReport.port.tx := by
      intro u
      unfold State.offerReport
      split_ifs
      · exact List.prefix_append _ _
      · split
        · exact List.prefix_rfl
        · exact List.prefix_append _ _
      · exact List.prefix_rfl
    unfold State.offerRest
    split
    · rw [h1]
    · rw [← h1]; exact (h2 _).trans (h3 _)
  simp only
  have h := hf (State.noteNews b (State.takeLamps b (State.plan b s.faced).suspendScan))
  rw [(State.noteNews_parts _ _).2.1, (State.takeLamps_parts _ _).2.1, (State.suspendScan_parts _).2.1, (State.plan_parts _ _).1,
    State.faced_port] at h
  exact h

/-- The end of a step hands the receive queue on whole, or without its head once the owner of the head has finished
(R160). -/
theorem State.settle_rx (b s : State) (h : s.port.headBusy = false) :
    (State.settle b s).port.rx = s.port.rx ∧ (State.settle b s).port.headBusy = false := by
  have hf : ∀ t : State, t.port.headBusy = false →
      (t.releaseHead.offerRest).port.rx = t.port.rx ∧ (t.releaseHead.offerRest).port.headBusy = false := by
    intro t ht
    have h1 : t.releaseHead = t := by unfold State.releaseHead; simp [ht]
    have h2 : ∀ u : State, u.queueRelinquish.port.rx = u.port.rx ∧ u.queueRelinquish.port.headBusy = u.port.headBusy := by
      intro u
      unfold State.queueRelinquish
      split
      · exact ⟨rfl, rfl⟩
      · split_ifs <;> exact ⟨rfl, rfl⟩
    have h3 : ∀ u : State, u.offerReport.port.rx = u.port.rx ∧ u.offerReport.port.headBusy = u.port.headBusy := by
      intro u
      unfold State.offerReport
      split_ifs
      · exact ⟨rfl, rfl⟩
      · split <;> exact ⟨rfl, rfl⟩
      · exact ⟨rfl, rfl⟩
    rw [h1]
    unfold State.offerRest
    split
    · exact ⟨rfl, ht⟩
    · rw [(h3 _).1, (h3 _).2, (h2 _).1, (h2 _).2]; exact ⟨rfl, ht⟩
  unfold State.settle
  simp only
  have hp : (State.noteNews b (State.takeLamps b (State.plan b s.faced).suspendScan)).port = s.port := by
    rw [(State.noteNews_parts _ _).2.1, (State.takeLamps_parts _ _).2.1, (State.suspendScan_parts _).2.1, (State.plan_parts _ _).1,
    State.faced_port]
  have := hf (State.noteNews b (State.takeLamps b (State.plan b s.faced).suspendScan)) (by rw [hp]; exact h)
  rw [hp] at this
  exact this

/-- With nothing handed over and no computation in progress, the frame in hand leaves the receive queue (R160). -/
theorem State.settle_release (b s : State) (h : s.port.headBusy = true) (hq : s.quiet)
    (hc : s.contests.computing = none) :
    (State.settle b s).port.rx = s.port.rx.tail ∧ (State.settle b s).port.headBusy = false := by
  have hp : (State.noteNews b (State.takeLamps b (State.plan b s.faced).suspendScan)).port = s.port := by
    rw [(State.noteNews_parts _ _).2.1, (State.takeLamps_parts _ _).2.1, (State.suspendScan_parts _).2.1, (State.plan_parts _ _).1,
    State.faced_port]
  have hw : (State.noteNews b (State.takeLamps b (State.plan b s.faced).suspendScan)).work = s.work := by
    unfold State.faced
    simp only [State.noteNews_work, State.takeLamps_work, State.suspendScan_work, State.plan_work, State.testCompletion_work,
      State.refreshDwell_work]
    rw [State.relocateAll_quiet s hq.1, State.considerRounds_quiet s hq.2]
  have h1 : (State.noteNews b (State.takeLamps b (State.plan b s.faced).suspendScan)).contests.computing = none :=
    (congrArg Work.computing hw).trans hc
  have h2 : (State.noteNews b (State.takeLamps b (State.plan b s.faced).suspendScan)).contests.considering = [] :=
    (congrArg Work.considering hw).trans hq.2
  have hf : ∀ t : State, t.port.headBusy = true → t.contests.computing = none → t.contests.considering = [] →
      (t.releaseHead.offerRest).port.rx = t.port.rx.tail ∧ (t.releaseHead.offerRest).port.headBusy = false := by
    intro t ht hc1 hc2
    have hr : t.releaseHead = t.setPort { t.port with rx := t.port.rx.tail, headBusy := false } := by
      unfold State.releaseHead; simp [ht, hc1, hc2]
    have h2 : ∀ u : State, u.queueRelinquish.port.rx = u.port.rx ∧ u.queueRelinquish.port.headBusy = u.port.headBusy := by
      intro u
      unfold State.queueRelinquish
      split
      · exact ⟨rfl, rfl⟩
      · split_ifs <;> exact ⟨rfl, rfl⟩
    have h3 : ∀ u : State, u.offerReport.port.rx = u.port.rx ∧ u.offerReport.port.headBusy = u.port.headBusy := by
      intro u
      unfold State.offerReport
      split_ifs
      · exact ⟨rfl, rfl⟩
      · split <;> exact ⟨rfl, rfl⟩
      · exact ⟨rfl, rfl⟩
    rw [hr]
    unfold State.offerRest
    split
    · exact ⟨rfl, rfl⟩
    · rw [(h3 _).1, (h3 _).2, (h2 _).1, (h2 _).2]; exact ⟨rfl, rfl⟩
  have := hf _ (by rw [hp]; exact h) h1 h2
  rw [hp] at this
  exact this

end Sys2Proof.Machine
end

