-- ==== Sys2Proof/Laws/Rounds.lean ====
section
/-! SUPPORT. How the rounds a step opens are considered at its end (R81, R82, R101), and what reading an intact table
changes: nothing. -/

namespace Sys2Proof.Machine

/-- Reading an intact table changes nothing (R9). -/
theorem State.readTable_intact {s : State} (h : s.intact) : s.readTable = s := by
  have hr : ∀ n, (s.readSlot n).state = s := by
    intro n
    unfold State.readSlot
    simp [h n]
  have hf : ∀ slots : List Nat, s.readSlots slots = s := by
    intro slots
    unfold State.readSlots
    induction slots with
    | nil => rfl
    | cons n rest ih => simpa [List.foldl_cons, hr n] using ih
  exact hf _

/-- No result depends on the rounds that wait. -/
theorem State.bidResult_considering (s : State) (rounds : List RoundOpen) (ref : Ref) :
    (s.setContests { s.contests with considering := rounds }).bidResult ref = s.bidResult ref := by
  have hf : ∀ w r xs, (s.setContests { s.contests with considering := rounds }).firstSet w r xs = s.firstSet w r xs := by
    intro w r xs
    induction xs with
    | nil => rfl
    | cons x rest ih =>
      unfold State.firstSet
      rw [ih]
      rfl
  have ho : ∀ l, (s.setContests { s.contests with considering := rounds }).pickOffer l = s.pickOffer l := by
    intro l
    unfold State.pickOffer
    rw [hf]
    rfl
  unfold State.bidResult
  cases ref with
  | pick line =>
    have : ∀ p, (s.setContests { s.contests with considering := rounds }).pickResult line p = s.pickResult line p := by
      intro p
      unfold State.pickResult
      simp only [ho]
      rfl
    simp only [this]
    rfl
  | store id => rfl

/-- The conditions of R101, as the Contest Engine tests them. -/
theorem State.mayBid_iff {s : State} {ref : Ref} : s.mayBid ref = true ↔ s.bids ref := by
  unfold State.mayBid State.bids contestCapacity
  cases ref <;> simp [and_assoc]

/-- Rounds considered in order: the first that may be bid in is computed, and those behind it wait. -/
theorem State.considerList_spec (s : State) (rounds : List RoundOpen) (hc : s.contests.computing = none) :
    s.considers (s.considerList rounds) rounds := by
  induction rounds with
  | nil =>
    refine ⟨?_, fun _ => ⟨hc, rfl⟩⟩
    intro before o after h
    simp at h
  | cons x rest ih =>
    by_cases hx : s.mayBid x.ref = true
    · have hl : s.considerList (x :: rest) =
          (s.setContests { s.contests with considering := rest }).beginComputation x := by
        unfold State.considerList; rw [if_pos hx]
      have ho := State.beginComputation_outer (s.setContests { s.contests with considering := rest }) x
      have h1 := congrArg Outer.computing ho
      have h2 := congrArg Outer.considering ho
      refine ⟨?_, fun h => absurd (State.mayBid_iff.1 hx) (h x (List.mem_cons_self ..))⟩
      intro before o after he hb _
      cases before with
      | cons y ys =>
        simp only [List.cons_append, List.cons.injEq] at he
        exact absurd (State.mayBid_iff.1 hx) (he.1 ▸ hb y (List.mem_cons_self ..))
      | nil =>
        simp only [List.nil_append, List.cons.injEq] at he
        obtain ⟨rfl, rfl⟩ := he
        rw [hl]
        refine ⟨h2, _, h1, rfl, fun hi => ?_⟩
        have hj : (s.setContests { s.contests with considering := rest }).intact := hi
        rw [State.readTable_intact hj, State.bidResult_considering]
    · have hl : s.considerList (x :: rest) = s.considerList rest := by
        rw [State.considerList, if_neg hx]
      rw [hl]
      refine ⟨?_, fun h => ih.2 fun y hy => h y (List.mem_cons_of_mem _ hy)⟩
      intro before o after he hb ho
      cases before with
      | nil =>
        simp only [List.nil_append, List.cons.injEq] at he
        obtain ⟨rfl, rfl⟩ := he
        exact absurd (State.mayBid_iff.2 ho) hx
      | cons y ys =>
        simp only [List.cons_append, List.cons.injEq] at he
        exact ih.1 ys o after he.2 (fun z hz => hb z (List.mem_cons_of_mem _ hz)) ho

/-- The end of a step considers the rounds it finds, once the LOAD tasks handed over have been relocated. -/
theorem State.settle_considers (b s : State) (h : s.contests.computing = none) :
    s.relocateAll.considers (State.settle b s) s.contests.considering := by
  have hr := State.relocateAll_outer s
  have hc : s.relocateAll.contests.computing = none := (congrArg Outer.computing hr).trans h
  have hw : s.relocateAll.contests.considering = s.contests.considering := congrArg Outer.considering hr
  have hs : (State.settle b s).work = s.relocateAll.considerRounds.work := by
    unfold State.settle
    simp only [State.offerRest_work, State.releaseHead_work, State.noteNews_work, State.takeLamps_work,
      State.suspendScan_work, State.plan_work, State.testCompletion_work, State.refreshDwell_work]
  have h1 : (State.settle b s).contests.computing = s.relocateAll.considerRounds.contests.computing :=
    congrArg Work.computing hs
  have h2 : (State.settle b s).contests.considering = s.relocateAll.considerRounds.contests.considering :=
    congrArg Work.considering hs
  have hl : s.relocateAll.considerRounds = s.relocateAll.considerList s.contests.considering := by
    unfold State.considerRounds
    simp [hc, hw]
  have := State.considerList_spec s.relocateAll s.contests.considering hc
  unfold State.considers
  rw [h1, h2, hl]
  exact this

end Sys2Proof.Machine
end

