-- ==== Sys2Proof/Laws/Supply.lean ====
section
/-! SUPPORT. The supply filters: what replacing one leaves, the outcomes of a comparison, and the comparison anew at SETUP
END (R33). -/

namespace Sys2Proof.Machine

@[simp] theorem Drive.filterOf_setFilter (d : Drive) (level : SupplyLevel) (f : SupplyFilter) :
    (d.setFilter level f).filterOf level = f := by cases level <;> rfl

theorem Drive.filterOf_setFilter_other (d : Drive) {level other : SupplyLevel} (f : SupplyFilter) (h : other ≠ level) :
    (d.setFilter level f).filterOf other = d.filterOf other := by cases level <;> cases other <;> first | rfl | contradiction

@[simp] theorem Drive.liveBelow_setFilter (d : Drive) (level other : SupplyLevel) (f : SupplyFilter) :
    (d.setFilter level f).liveBelow other = d.liveBelow other := by cases level <;> cases other <;> rfl

/-- Away from the level itself a reading is below it exactly when it is smaller; at the level it is log 12's free value. -/
theorem readsBelow_of_ne {level : SupplyLevel} {sense threshold : Nat} (h : sense ≠ threshold) :
    readsBelow level sense threshold = decide (sense < threshold) := by simp [readsBelow, h]

/-- The same of a comparison at its level. -/
theorem State.senseBelow_of_ne {s : State} {level : SupplyLevel} {sense : Nat}
    (h : sense ≠ s.values.supplyThreshold level) :
    s.senseBelow level sense = decide (sense < s.values.supplyThreshold level) := readsBelow_of_ne h

/-- A reading is opposite exactly when it and the live level differ. -/
theorem State.readsOpposite_iff {s : State} {level : SupplyLevel} {sense : Nat} :
    s.readsOpposite level sense = true ↔ s.senseBelow level sense ≠ s.drive.liveBelow level := by
  simp [State.readsOpposite]

/-- Holding a reading that agrees with the live level stops the filter. -/
theorem State.holdReading_agrees {s : State} {level : SupplyLevel} {sense : Nat} (h : s.readsOpposite level sense = false) :
    s.holdReading level sense = s.setDrive (s.drive.setFilter level { sense := sense, since := none }) := by
  simp [State.holdReading, h]

/-- Holding an opposite reading starts the filter or leaves it running. -/
theorem State.holdReading_opposite {s : State} {level : SupplyLevel} {sense : Nat} (h : s.readsOpposite level sense = true) :
    s.holdReading level sense =
      s.setDrive (s.drive.setFilter level { sense := sense, since := some ((s.drive.filterOf level).since.getD s.timer) }) := by
  simp [State.holdReading, h]

/-- An opposite reading that has held for 2 ms changes the live level and stops the filter. -/
theorem State.supplyLevel_changes {s : State} {level : SupplyLevel} {sense : Nat}
    (h : s.readsOpposite level sense = true) (hd : s.filterDue level = true) :
    s.supplyLevel level sense =
      (s.setDrive (s.drive.setFilter level { sense := sense, since := none })).liveLevel level (s.senseBelow level sense) := by
  simp [State.supplyLevel, h, hd]

/-- Any other reading stands with its filter. -/
theorem State.supplyLevel_holds {s : State} {level : SupplyLevel} {sense : Nat}
    (h : s.readsOpposite level sense = false ∨ s.filterDue level = false) :
    s.supplyLevel level sense = s.holdReading level sense := by
  unfold State.supplyLevel
  rw [if_neg]
  rintro ⟨h1, h2⟩
  rcases h with h | h <;> simp_all

/-- Comparing anew changes the two filters alone. -/
theorem State.compareAnew_drive (s : State) :
    s.compareAnew = s.setDrive { s.drive with
      warnFilter := (s.holdReading .warn s.drive.warnFilter.sense).drive.warnFilter,
      cutFilter := (s.holdReading .cut s.drive.cutFilter.sense).drive.cutFilter } := rfl

end Sys2Proof.Machine
end

