-- ==== Sys2Proof/Laws/Wire.lean ====
section
/-! SUPPORT. A receiver reads back the frame that a transmitter coded (R156). -/

namespace Sys2Proof.Machine

/-- Removing the inserted bits undoes inserting them, from any run that stands before. -/
theorem removeInserted_insertBits (bits : List Bool) :
    ∀ (last : Bool) (run : Nat), run < 5 → removeInserted last run (insertBits last run bits) = some bits := by
  induction bits with
  | nil => intro last run _; rfl
  | cons b rest ih =>
    intro last run h
    have hne : run ≠ 5 := by omega
    by_cases hb : b = last
    · subst hb
      by_cases h4 : run = 4
      · subst h4
        simp [insertBits, removeInserted, ih]
      · have h5 : ¬ run + 1 = 5 := by omega
        simp [insertBits, removeInserted, h5, hne, ih b (run + 1) (by omega)]
    · simp [insertBits, removeInserted, hb, hne, ih b 1 (by omega)]

/-- The number of a list of bits goes on from the number before it. -/
theorem numberOf_foldl (bits : List Bool) :
    ∀ n : Nat, bits.foldl (fun n b => 2 * n + b.toNat) n = n * 2 ^ bits.length + numberOf bits := by
  unfold numberOf
  induction bits with
  | nil => intro n; simp
  | cons b rest ih =>
    intro n
    simp only [List.foldl_cons, List.length_cons]
    rw [ih, ih (2 * 0 + b.toNat)]
    ring

@[simp] theorem bitsOf_length (width n : Nat) : (bitsOf width n).length = width := by
  induction width with
  | zero => rfl
  | succ w ih => simp [bitsOf, ih]

/-- The bits of a number read back as the number, within their width. -/
theorem numberOf_bitsOf (width n : Nat) : numberOf (bitsOf width n) = n % 2 ^ width := by
  induction width with
  | zero => simp [bitsOf, numberOf, Nat.mod_one]
  | succ w ih =>
    have h : numberOf (bitsOf (w + 1) n) = (decide (n / 2 ^ w % 2 = 1)).toNat * 2 ^ w + numberOf (bitsOf w n) := by
      conv_lhs => unfold bitsOf numberOf
      rw [List.foldl_cons, numberOf_foldl]
      simp
    rw [h, ih, pow_succ, Nat.mod_mul]
    rcases Nat.mod_two_eq_zero_or_one (n / 2 ^ w) with h0 | h1
    · simp [h0]
    · simp [h1, Nat.add_comm]

/-- What is sampled from the load pin, 16 bits most significant first, is its word (R150). -/
theorem loadPinReading_samples (word : BitVec 16) : loadPinReading (loadPinSamples word) = word.toNat := by
  unfold loadPinReading loadPinSamples loadPinPulses
  rw [numberOf_bitsOf]
  exact Nat.mod_eq_of_lt word.isLt

/-- The bits of a payload read back as its bytes, whatever follows them. -/
theorem bytesOf_payload (payload : List Byte) (rest : List Bool) :
    bytesOf payload.length (payload.flatMap (fun b => bitsOf 8 b.toNat) ++ rest) = payload := by
  induction payload with
  | nil => rfl
  | cons b bs ih =>
    have h8 : (bitsOf 8 b.toNat).length = 8 := bitsOf_length 8 _
    simp only [List.length_cons, bytesOf, List.flatMap_cons, List.append_assoc]
    rw [List.take_left' h8, List.drop_left' h8, ih, numberOf_bitsOf]
    congr 1
    apply BitVec.eq_of_toNat_eq
    have hb := b.isLt
    simp [byte, BitVec.toNat_ofNat]
    omega

@[simp] theorem payloadBits_length (payload : List Byte) :
    (payload.flatMap (fun b => bitsOf 8 b.toNat)).length = 8 * payload.length := by
  induction payload with
  | nil => rfl
  | cons b bs ih => simp [ih]; ring

/-- The sixteen bits of a key read back as the key. -/
theorem keyOf_bits (k : Key) (rest : List Bool) : keyOf (bitsOf 16 (keyValue k) ++ rest) = k := by
  have hc := k.cls.isLt
  have hf := k.field.isLt
  have hs := k.station.isLt
  have e : bitsOf 16 (keyValue k) = bitsOf 3 k.cls.toNat ++ (bitsOf 8 k.field.toNat ++ bitsOf 5 k.station.toNat) := by
    simp only [bitsOf, keyValue, List.cons_append, List.nil_append]
    norm_num
    refine ⟨?_, ?_, ?_, ?_, ?_, ?_, ?_, ?_, ?_, ?_, ?_, ?_, ?_, ?_, ?_, ?_⟩ <;> omega
  have h3 : (bitsOf 3 k.cls.toNat).length = 3 := bitsOf_length 3 _
  have h8 : (bitsOf 8 k.field.toNat).length = 8 := bitsOf_length 8 _
  have h5 : (bitsOf 5 k.station.toNat).length = 5 := bitsOf_length 5 _
  unfold keyOf
  rw [e]
  simp only [List.append_assoc]
  have d11 : (bitsOf 3 k.cls.toNat ++ (bitsOf 8 k.field.toNat ++ (bitsOf 5 k.station.toNat ++ rest))).drop 11 =
      bitsOf 5 k.station.toNat ++ rest := by
    rw [show (11 : Nat) = 3 + 8 from rfl, ← List.drop_drop, List.drop_left' h3, List.drop_left' h8]
  rw [d11, List.take_left' h3, List.drop_left' h3, List.take_left' h8, List.take_left' h5, numberOf_bitsOf,
    numberOf_bitsOf, numberOf_bitsOf]
  rw [Nat.mod_eq_of_lt hc, Nat.mod_eq_of_lt hf, Nat.mod_eq_of_lt hs]
  cases k
  simp

/-- The message bits of a frame and its check read back as the frame (R156). -/
theorem readMessage_message (f : Frame) (h : f.payload.length ≤ 16) :
    readMessage (messageBits f ++ bitsOf 16 (checkOf (messageBits f)).toNat) = .frame f := by
  have hk : (bitsOf 16 (keyValue f.key)).length = 16 := bitsOf_length 16 _
  have hl : (bitsOf 5 f.payload.length).length = 5 := bitsOf_length 5 _
  have hm : (messageBits f).length = 21 + 8 * f.payload.length := by
    simp only [messageBits, List.length_append, hk, hl, payloadBits_length]
  have hlen : numberOf (((messageBits f ++ bitsOf 16 (checkOf (messageBits f)).toNat).drop 16).take 5) = f.payload.length := by
    simp only [messageBits, List.append_assoc]
    rw [List.drop_left' hk, List.take_left' hl, numberOf_bitsOf]
    exact Nat.mod_eq_of_lt (by omega)
  have hp : (messageBits f ++ bitsOf 16 (checkOf (messageBits f)).toNat).drop 21 =
      f.payload.flatMap (fun b => bitsOf 8 b.toNat) ++ bitsOf 16 (checkOf (messageBits f)).toNat := by
    conv_lhs => rw [show (21 : Nat) = 16 + 5 from rfl, ← List.drop_drop]
    simp only [messageBits, List.append_assoc]
    rw [List.drop_left' hk, List.drop_left' hl]
  have hkey : keyOf (messageBits f ++ bitsOf 16 (checkOf (messageBits f)).toNat) = f.key := by
    simp only [messageBits, List.append_assoc]
    exact keyOf_bits f.key _
  unfold readMessage
  simp only
  rw [hlen, if_neg (by omega), List.take_left' hm, List.drop_left' hm, if_pos rfl, hkey, hp, bytesOf_payload]

/-- A receiver without an error on the bus reads the frame that was sent (R156). -/
theorem readCoded_codedBits (f : Frame) (h : f.payload.length ≤ 16) : readCoded (codedBits f) = .frame f := by
  unfold readCoded codedBits
  rw [removeInserted_insertBits _ true 0 (by omega)]
  exact readMessage_message f h

end Sys2Proof.Machine
end

