-- ==== Sys2Proof/WellFormed.lean ====
section
/-! DEFINITION. Which commands can occur: the bounds the specification puts on a command's operands. -/

namespace Sys2Proof

/-- A station number a sender can have: 1 to 30 (chapter 9.6, Key). -/
def Key.wf (k : Key) : Bool := decide (1 ≤ k.station.toNat) && decide (k.station.toNat ≤ 30)

/-- A frame that can succeed on the bus: at most 16 payload bytes and a station number of a sender (R156). -/
def Frame.wf (f : Frame) : Bool := decide (f.payload.length ≤ 16) && f.key.wf

/-- LEVEL and ACK errors are the transmitter's, CHECK errors a receiver's, FORM errors any station's (R159). -/
def BusError.possibleFor (kind : BusError) (role : BusRole) : Bool :=
  match kind with
  | .level => decide (role = .transmitter)
  | .ack => decide (role = .transmitter)
  | .check => decide (role = .receiver)
  | .form => true

/-- The check on a command's operands. `exec` gives every command a meaning; this says which can occur. -/
def Instr.wf (i : Instr) : Bool :=
  match i with
  | .frameHeard f => f.wf
  | .idleBusContend rival => match rival with
    | none => true
    | some k => k.wf
  | .busError kind role => kind.possibleFor role
  | .supplyLevelChange _ _ => true
  | .warmStart _ _ _ => true
  | .coldStart _ _ => true
  | .standby => true
  | .resetAssert => true
  | .markerLost => true
  | .errorMarkSeen _ => true
  | .frameHeld _ => true
  | .offRecovery _ => true
  | .txPlaceFreed => true
  | .halt => true
  | .resume => true
  | .calendar => true
  | .setup => true
  | .setupEnd => true
  | .joinTimeout => true
  | .reportHeard => true
  | .adjust => true
  | .park => true
  | .audit => true
  | .order => true
  | .inbound => true
  | .bid => true
  | .claim => true
  | .computationResult => true
  | .windowEnd => true
  | .secondChance => true
  | .relinquish => true
  | .intent => true
  | .bayClear => true
  | .laneIdle => true
  | .faultGraceTimeout => true
  | .encoderCount _ => true
  | .indexEdge _ => true
  | .stallTimeout => true
  | .settleRestTimeout => true
  | .homingRestTimeout => true
  | .holdRestTimeout => true
  | .curtainClearTimeout => true
  | .supplyClearTimeout => true
  | .doneHoldTimeout => true
  | .scanCycle _ _ _ => true
  | .doneEdge => true
  | .dwellTimeout => true
  | .stopLevelChange _ => true
  | .curtainChange _ => true
  | .arrival _ => true
  | .inboundDeadline => true
  | .pocketSenseChange _ _ => true
  | .jamTimeout => true
  | .auditScan => true
  | .doneRelease => true

end Sys2Proof
end

