-- ==== Sys2Proof/Tests/Slice0.lean ====
section
/-! SUPPORT. The model's own tests: the operand checks refuse what cannot occur, a few numbers the specification works out,
what a step of each family does on a small state, and, for every obligation with hypotheses, states that meet them, clause
by clause (`test_meets_<obligation>`). -/

namespace Sys2Proof.Tests
open Sys2Proof.Machine

/-! ### Frames -/

def frameOf (cls field : Nat) (station : BitVec 5) (payload : List Nat) : Frame :=
  { key := makeKey cls field station, payload := payload.map byte }

def heard (f : Frame) : Heard := { frame := f, stamp := 0 }
def sending (f : Frame) (retries : Nat) : TxFrame := { frame := f, state := .sending, retries := retries }
def queued (f : Frame) : TxFrame := { frame := f, state := .queued, retries := 0 }

/-- A TOWER_STATE of the own station. -/
def reportFrame : Frame := frameOf 5 0 1 (List.replicate 14 0)
def halt30 : Frame := frameOf 0 0 30 []
def resume30 : Frame := frameOf 0 1 30 []
def calendar30 : Frame := frameOf 4 48 30 [5, 6]
def park30 (carrier : Nat) : Frame := frameOf 4 96 30 [1, carrier]
def audit30 (first last : Nat) : Frame := frameOf 4 80 30 [1, first, last]
def adjust30 (slot : Nat) : Frame := frameOf 4 64 30 [1, slot / 256, slot % 256, 2, 0, 0, 0, 0, 0, 0, 0, 0, 0]
def setupEnd30 : Frame := frameOf 6 15 30 [1]

/-- A SETUP of each group. -/
def setup30 (group : Nat) : Frame := frameOf 6 group 30 (1 :: List.replicate (setupLength group - 1) 3)

def inbound30 (quantity : Nat) : Frame := frameOf 4 32 30 [0, 5, 0, 0, 1, quantity, 0, 100, 0, 10, 0, 1]
def order30 : Frame := frameOf 4 16 30 [1, 0, 8, 0, 0, 1, 4]

/-- The own BID of 7 for the first line, and BIDs of station 9 below and above it in the same round. -/
def ownBid : Frame := frameOf 3 7 1 [0, 0, 7, 1, 2]
def lowBid : Frame := frameOf 3 6 9 [0, 0, 7, 1, 2]
def highBid : Frame := frameOf 3 8 9 [0, 0, 7, 1, 2]
def pickClaim (station : BitVec 5) (quantity : Nat) : Frame := frameOf 2 0 station [0, 0, 7, 1, quantity, 6]
def storeClaim (station : BitVec 5) (quantity : Nat) : Frame := frameOf 2 0 station [128, 0, 5, 1, quantity, 6]
def relinquish (station : BitVec 5) : Frame := frameOf 2 1 station [0, 0, 7, 2, 0]
def intent (station : BitVec 5) : Frame := frameOf 1 0 station [0, 0, 7]
def bayClear20 : Frame := frameOf 1 16 20 [0, 0, 7]
def laneIdle20 : Frame := frameOf 1 32 20 []

theorem test_frames_join :
    ([reportFrame, halt30, resume30, calendar30, park30 35, audit30 35 0, adjust30 432, setupEnd30, inbound30 8, order30,
      ownBid, lowBid, highBid, pickClaim 9 2, pickClaim 1 2, storeClaim 9 2, storeClaim 1 2, relinquish 9, relinquish 1,
      intent 1, intent 9, bayClear20, laneIdle20].all (frameJoins 1)) = true ∧
      ([0, 1, 2, 3, 4, 5].all fun g => frameJoins 1 (setup30 g)) = true := by decide

/-! ### States the tests are about -/

/-- A running tower IN_SERVICE, its drive IDLE at carrier 0, its TOWER_STATE in the transmit queue. -/
def up : State :=
  ((State.reset.setControl { State.reset.control with
    service := .inService, reportOut := some .towerState, statePending := false }).setDrive
    { Drive.start with state := .idle, curtainCause := false }).setPort { State.reset.port with tx := [queued reportFrame] }

/-- A state with a frame at the head of its receive queue. -/
def handing (f : Frame) (s : State) : State := s.setPort { s.port with rx := [heard f] }

def driving (f : Drive → Drive) (s : State) : State := s.setDrive (f s.drive)
def facing (f : FaceUnit → FaceUnit) (s : State) : State := s.setFace (f s.face)
def serving (x : ServiceState) (s : State) : State := s.setControl { s.control with service := x }
def controlling (f : StationControl → StationControl) (s : State) : State := s.setControl (f s.control)
def porting (f : BusPort → BusPort) (s : State) : State := s.setPort (f s.port)
def pocketing (e : Pocket) (s : State) : State := s.setLanes { s.lanes with pockets := #v[e, .free] }
def contesting (f : ContestEngine → ContestEngine) (s : State) : State := s.setContests (f s.contests)
def planning (f : Planner → Planner) (s : State) : State := s.setPlanner (f s.planner)
def auditing (f : AuditUnit → AuditUnit) (s : State) : State := s.setAudit (f s.audit)
def cellAt (n : Nat) (c : Cell) (s : State) : State :=
  s.setStore { s.store with table := Memory.set n c s.store.table }
def booking (n : Nat) (r : SlotRecord) (s : State) : State := cellAt n { record := r, flipped := 0 } s
def queueing (q : List Task) (s : State) : State := planning (fun p => { p with queue := q }) s
def halted (s : State) : State := controlling (fun c => { c with halt := true }) s
def fullTx (s : State) : State := porting (fun p => { p with tx := List.replicate 8 (queued reportFrame) }) s

/-- The line of a face input has shown a level since time 0. -/
def showing (i : FaceInput) (high : Bool) (now : Timer) (s : State) : State :=
  (facing (fun f => { f with debounces := f.debounces.set i { line := some high, since := some 0 } }) s).setTimer now

def tyre : StockData := { article := 1, size := 0, weight := 100, dotWeek := 10, batch := 1 }
def held (state : SlotState) : SlotRecord := { state := state, stock := some tyre, reason := none, inbound := none }
def line0 : LineRef := { lane := 0, bay := 0, line := 0, order := 7 }
def task (work : TaskWork) (slot : Nat) (created : Timer) : Task :=
  { work := work, slot := slot, created := created, deferrals := 0, state := .waiting }

/-- A line of 4 tyres of article 1. -/
def lineOf (claimed delivered round : Nat) : OrderLine :=
  { article := 1, quantity := 4, mode := .loose, claimed := claimed, delivered := delivered, round := round,
    short := false, ownClaim := 0, ownDelivered := 0 }

/-- Lane 0 SYNCED with bay 0 OPEN for order 7 and this one line. -/
def ordered (l : OrderLine) (s : State) : State :=
  s.setLane 0 { synced := true, fill := l.delivered, ageList := [0],
                bays := #v[some { order := 7, lines := [l] }, none, none, none] }

/-- A contest record for the line. -/
def recordOf (state : ContestState) (bid claim : Option TxState) (ownHeard second : Bool) (lowest : Option Nat) : Contest :=
  { ref := .pick line0, round := 1, openedAt := 0, offered := none, bid := 7, quantity := 2, slots := [3, 4],
    lowest := lowest, ownHeard := ownHeard, secondChance := second, chancePassed := second, bidFrame := bid,
    claimFrame := claim, state := state }

def withRecord (c : Contest) (s : State) : State := contesting (fun e => { e with records := [c] }) s

def entryOf (state : EntryState) (intent : IntentStatus) (since : Option Timer) : PocketEntry :=
  { state := state, slot := 3, line := some line0, intent := intent, grantedAt := since, number := 0 }

/-- The state after a command. -/
def after (c : Instr) (s : State) : State :=
  match exec c s with
  | .next t => t
  | .fault _ => s
  | .refused _ => s

/-! ### Operand checks -/

theorem test_wf_frame_too_long_refused : (Instr.frameHeard (frameOf 5 1 2 (List.replicate 17 0))).wf = false := by decide
theorem test_wf_frame_station_0_refused : (Instr.frameHeard (frameOf 5 1 0 [])).wf = false := by decide
theorem test_wf_rival_station_31_refused : (Instr.idleBusContend (some (makeKey 0 0 31))).wf = false := by decide
theorem test_wf_errors_of_the_other_role_refused :
    (Instr.busError .check .transmitter).wf = false ∧ (Instr.busError .level .receiver).wf = false ∧
      (Instr.busError .ack .receiver).wf = false := by decide
theorem test_wf_accepts :
    (Instr.frameHeard (frameOf 5 1 30 (List.replicate 16 0))).wf = true ∧
      (Instr.idleBusContend (some (makeKey 0 0 1))).wf = true ∧ (Instr.idleBusContend none).wf = true ∧
      (Instr.busError .form .receiver).wf = true ∧ (Instr.busError .ack .transmitter).wf = true := by decide
theorem test_no_word_spells_a_command : decodeTableWord 8 0 = none ∧ up.withFetchWord 8 0 = up := ⟨rfl, rfl⟩

/-! ### Numbers of the specification -/

/-- The keys of the worked examples of chapter 9. -/
theorem test_keys :
    keyValue (makeKey 1 2 5) = 8261 ∧ keyValue (makeKey 2 1 5) = 16421 ∧ keyValue (makeKey 3 40 5) = 25861 ∧
      keyValue (makeKey 2 0 9) = 16393 := by decide

/-- The worked bids of chapter 5. -/
theorem test_bids : bidOf 148 226 = 33 ∧ bidOf 388 256 = 97 ∧ bidOf 2015 256 = 255 ∧ bidOf 1 256 = 0 := by decide

/-! ### Steps, starts and stops -/

theorem test_meets_StepRunsTheFrontCommand : (up.setPending [.txPlaceFreed, .halt]).pending = .txPlaceFreed :: [.halt] := rfl

def oneScan : Scan := { carrier := 2, image := List.replicate 12 false, reading := 1200, hadDue := true }

theorem test_meets_StepWithoutACommand :
    up.pending = [] ∧ (up.setPower .standby).isRunning = false ∧ (up.setPower .standby).pending = [] ∧
      up.isRunning = true ∧ up.firstDue = none ∧
      (auditing (fun a => { a with scans := [oneScan] }) up).firstDue = some .auditScan ∧
      State.reset.firstDue = some .txPlaceFreed := by decide

/-- A tyre of slot 3 claimed for the line, its PICK task the only one. -/
def picking : State :=
  queueing [task (.pick line0) 3 0] (booking 3 (held .pickClaimed) (ordered { lineOf 3 2 1 with ownClaim := 1 } up))

theorem test_meets_the_invariants :
    picking.tableOk = true ∧ picking.stockOk = true ∧ picking.confinementOk = true ∧ picking.brakeOk = true ∧
      picking.queueOk = true ∧ picking.boundsOk = true ∧ picking.lanesOk = true ∧ picking.pocketsOk = true ∧
      picking.ownClaimsOk = true ∧ picking.fairHead = true ∧ picking.setupOk = true ∧ picking.bidHoldOk = true ∧
      picking.contestsOk = true ∧ picking.taskOn 3 = some (task (.pick line0) 3 0) ∧
      (planning (fun p => { p with bidHold := true }) up).planner.bidHold = true ∧ up.contests.computing = none := by decide

theorem test_a_millisecond_passes : step picking = .next (picking.setTimer 1) := by rfl

theorem test_meets_ColdStartLaysOutTheStore : State.reset.recordAt 0 = SlotRecord.suspect .unverified := by decide

theorem test_meets_StartsTakeTheStartValues :
    State.reset.store.marker ≠ .lost ∧ (State.reset.setStore { StockStore.cold with marker := .lost }).store.marker = .lost ∧
      (StationControl.start .cold 30 2).strapsAccepted = true ∧ (StationControl.start .cold 31 0).strapsAccepted = false ∧
      (StationControl.start .cold 0 0).strapsAccepted = false ∧ (StationControl.start .cold 1 3).strapsAccepted = false := by
  decide

def markedAs (g : Geometry) (s : State) : State := s.setStore { s.store with marker := .intact (some g) }
def laidOut : State := markedAs { carriers := 8, rows := 1, columns := 1 } (booking 5 (held .outbound) up)

theorem test_meets_WarmStartBringsTheTableToRest :
    laidOut.tableOk = true ∧ laidOut.store.marker ≠ .lost ∧ 7 < laidOut.store.marker.slots ∧ 7 < maxPositions ∧
      laidOut.store.marker.slots ≤ 8 := by decide

theorem test_meets_StoppingKeepsOnlyTheStore :
    up.power ≠ .unpowered ∧ (up.power = .running ∨ up.power = .resetHeld) ∧ (up.setPower .resetHeld).power ≠ .unpowered ∧
      (up.setPower .standby).isRunning = false ∧ (Instr.halt ≠ .standby ∧ Instr.halt ≠ .resetAssert) ∧
      Instr.halt ≠ .markerLost := by decide

/-! ### The bus -/

def fullRx : State := porting (fun p => { p with rx := List.replicate 16 (heard halt30) }) up

theorem test_meets_FrameHeardJoinsTheQueue :
    up.isRunning = true ∧ up.onBus = true ∧ halt30.payload.length ≤ 16 ∧ frameJoins up.own halt30 = true ∧
      up.port.rx.length < rxCapacity ∧ up.port.headBusy = false ∧ (handing halt30 up).port.rx ≠ [] ∧
      frameJoins up.own (frameOf 4 96 30 [9, 1]) = false ∧ reportFrame.key.station = up.own ∧
      up.wouldOverflow reportFrame = false ∧ up.confinementOk = true ∧ fullRx.wouldOverflow halt30 = true ∧
      fullRx.listenOnly = false ∧ fullRx.port.headBusy = false := by decide

theorem test_meets_CountersFollowTheBus :
    up.isRunning = true ∧ up.onBus = true ∧ up.wouldOverflow halt30 = false ∧ halt30.payload.length ≤ 16 ∧
      reportFrame.key.station = up.own ∧ up.wouldOverflow reportFrame = false ∧ halt30.key.station ≠ up.own ∧
      State.reset.control.strapsAccepted = true ∧ State.reset.control.reportOut = none ∧ State.reset.txRoom = true ∧
      State.reset.control.statePending = true := by decide

/-- A record with its BID on the bus for the time after its retries. -/
def bidding (state : ContestState) (retries : Nat) : State :=
  withRecord (recordOf state (some .sending) (if state = .claiming then some .sending else none) true false none)
    (porting (fun p => { p with tx := [sending ownBid retries] }) up)

theorem test_meets_ErrorsSetFlagsAndHoldsCountRetries :
    up.isRunning = true ∧ up.onBus = true ∧ up.control.reportOut ≠ none ∧
      (bidding .window 2).contenderAt = some 0 ∧ (bidding .window 2).port.tx[0]? = some (sending ownBid 2) ∧
      Frame.isBid ownBid = true ∧ ¬up.values.bidRetryLimit ≤ 2 ∧ up.values.bidRetryLimit ≤ 3 ∧
      (bidding .window 3).contenderAt = some 0 ∧ (bidding .window 3).contests.records.map (bidFrameOf up.own) = [ownBid] ∧
      (∀ c ∈ (bidding .claiming 3).contests.records, c.claimFrame ≠ some .queued) ∧
      confinementOf (min 160 (up.port.txErrors + 4)) up.port.rxErrors = up.port.confinement := by decide

theorem test_meets_ErrorsSetFlagsAndHoldsCountRetries_lines :
    up.control.strapsAccepted = true ∧ up.control.service ≠ .joining ∧ up.port.confinement = .active ∧
      (porting (fun p => { p with confinement := .quiet }) up).port.confinement = .quiet ∧
      (controlling (fun c => { c with stationNumber := 31 }) up).control.strapsAccepted = false ∧
      (serving .joining up).control.service = .joining ∧
      (porting (fun p => { p with confinement := .off }) up).port.confinement = .off := by decide

/-- The own INTENT of a LOADED entry, queued. -/
def intending0 : State :=
  pocketing (.entry (entryOf .loaded .queued none)) (porting (fun p => { p with tx := [queued (intent 1)] }) up)

theorem test_meets_IdleBusStartsTheChosenFrame :
    (∀ y ∈ [queued ownBid, queued reportFrame], y.state = .queued) ∧ up.isRunning = true ∧ up.onBus = true ∧
      up.listenOnly = false ∧ up.contenderAt = some 0 ∧ up.port.tx[0]? = some (queued reportFrame) ∧
      keyValue halt30.key < keyValue reportFrame.key ∧ keyValue reportFrame.key ≤ keyValue reportFrame.key ∧
      intending0.contenderAt = some 0 ∧ frameKind (intent 1).key = some (.intent 0) ∧
      intending0.entriesWith (intentLineOf 0 (intent 1).payload) .queued = [(0, entryOf .loaded .queued none)] ∧
      intending0.audit.relocations = [] ∧ intending0.contests.considering = [] := by decide

def counting (tx rx : Nat) (s : State) : State :=
  porting (fun p => { p with
    txErrors := tx, rxErrors := rx, confinement := confinementOf tx rx, warn := warnOf tx rx }) s

def off (gaps : Nat) : State := porting (fun p => { p with gaps := gaps }) (counting 160 0 up)

theorem test_meets_QuietAndOffGiveUpTheView :
    (counting 156 0 up).isRunning = true ∧ (counting 156 0 up).onBus = true ∧ (counting 156 0 up).confinementOk = true ∧
      156 ≤ (counting 156 0 up).port.txErrors ∧ (counting 156 0 up).lanesOk = true ∧
      (counting 156 0 up).queueOk = true ∧ (counting 156 0 up).pocketsOk = true ∧
      (counting 92 0 up).port.confinement = .active ∧ (counting 92 0 up).confinementOk = true ∧
      (counting 0 95 up).port.confinement = .active ∧ (counting 0 95 up).listenOnly = false ∧
      (counting 96 0 up).port.confinement = .quiet ∧ (counting 96 0 up).onBus = true ∧
      (counting 96 0 up).confinementOk = true ∧
      (serving .joining fullRx).isRunning = true ∧ (serving .joining fullRx).onBus = true ∧
      (serving .joining fullRx).control.service = .joining ∧ (serving .joining fullRx).wouldOverflow halt30 = true ∧
      (off 95).isRunning = true ∧ (off 95).port.confinement = .off ∧ (off 95).port.gaps + 11 / 12 < 96 ∧
      96 ≤ (off 95).port.gaps + 12 / 12 := by decide

def waitingClaim0 : Contest := recordOf .claiming none none false true none
def loadedUp : State := pocketing (.entry (entryOf .loaded .none none)) up
def givingBack (queued : Bool) : State :=
  contesting (fun e => { e with relinquish := [{ line := line0, quantity := 1, queued := queued }] }) up
def reporting : State :=
  controlling (fun c => { c with
    reportOut := none, log := [{ body := .stockIn 3 5, week := 0, timer := 0 }] }) (porting (fun p => { p with tx := [] }) up)

theorem test_meets_FreedPlaceGoesToTheFirstWaiting :
    up.txRoom = true ∧ (withRecord waitingClaim0 up).waitingClaim = some waitingClaim0 ∧
      loadedUp.waitingClaim = none ∧ loadedUp.intentWaiting 0 = true ∧
      loadedUp.pocket 0 = .entry (entryOf .loaded .none none) ∧ (givingBack false).ownerWaits = false ∧
      (givingBack false).contests.relinquishQueued = false ∧ State.reset.ownerWaits = false ∧
      State.reset.contests.relinquish = [] ∧ State.reset.control.reportOut = none ∧
      State.reset.control.statePending = true ∧ reporting.ownerWaits = false ∧ reporting.contests.relinquish = [] ∧
      reporting.control.strapsAccepted = true ∧ reporting.control.statePending = false ∧ loadedUp.quiet ∧
      (givingBack false).quiet ∧ State.reset.quiet ∧ reporting.quiet := by
  unfold State.quiet; decide

/-! ### Station Control -/

theorem test_meets_DiscardedFramesChangeNothing :
    (handing halt30 State.reset).handed (heard halt30) .halt ∧ State.reset.control.service = .setupWait ∧
      (handing (setup30 0) up).handed (heard (setup30 0)) (.setup 0) ∧ up.control.service ≠ .setupWait ∧ up.quiet ∧
      up.contests.computing = none := by
  unfold State.handed State.quiet; decide

def moving : State := driving (fun d => { d with state := .moving, target := some 2, brake := false, travel := 100 }) up
def homing : State := driving (fun d => { d with state := .homing, brake := false, duty := 35 }) up

theorem test_meets_HaltAndResumeMoveTheFlag :
    (handing halt30 moving).handed (heard halt30) .halt ∧ moving.control.service ≠ .setupWait ∧
      moving.control.halt = false ∧ moving.drive.state = .moving ∧ (handing halt30 homing).handed (heard halt30) .halt ∧
      homing.drive.state = .homing ∧ homing.drive.homeFound = false ∧
      (handing halt30 (halted up)).handed (heard halt30) .halt ∧ (halted up).control.halt = true ∧
      (handing halt30 intending0).handed (heard halt30) .halt ∧
      intending0.pocket 0 = .entry (entryOf .loaded .queued none) ∧ intending0.quiet ∧
      (handing resume30 (halted loadedUp)).handed (heard resume30) .resume ∧
      (halted loadedUp).pocket 0 = .entry (entryOf .loaded .none none) ∧
      (halted loadedUp).port.tx.length + 2 ≤ txCapacity ∧ (halted loadedUp).quiet ∧
      (handing resume30 up).handed (heard resume30) .resume := by
  unfold State.handed State.quiet; decide

theorem test_meets_SetupReplacesItsGroup :
    (handing (setup30 0) State.reset).handed (heard (setup30 0)) (.setup 0) ∧
      (handing (setup30 1) State.reset).handed (heard (setup30 1)) (.setup 1) ∧
      (handing (setup30 2) State.reset).handed (heard (setup30 2)) (.setup 2) ∧
      (handing (setup30 3) State.reset).handed (heard (setup30 3)) (.setup 3) ∧
      (handing (setup30 4) State.reset).handed (heard (setup30 4)) (.setup 4) ∧
      (handing (setup30 5) State.reset).handed (heard (setup30 5)) (.setup 5) ∧
      State.reset.control.service = .setupWait ∧ State.reset.control.received.inRange = true ∧ State.reset.quiet := by
  unfold State.handed State.quiet; decide

theorem test_meets_SetupEndSettlesTheValues :
    (handing setupEnd30 State.reset).handed (heard setupEnd30) .setupEnd ∧ State.reset.control.service = .setupWait ∧
      State.reset.control.received.inRange = true ∧ State.reset.store.marker = .intact none ∧ State.reset.quiet ∧
      (markedAs State.reset.control.received.settle.geometry State.reset).store.marker =
        .intact (some State.reset.control.received.settle.geometry) ∧
      (markedAs { carriers := 8, rows := 1, columns := 1 } State.reset).store.marker =
        .intact (some { carriers := 8, rows := 1, columns := 1 }) ∧
      ({ carriers := 8, rows := 1, columns := 1 } : Geometry) ≠ State.reset.control.received.settle.geometry ∧
      (∀ level, (State.reset.drive.filterOf level).sense ≠ State.reset.control.received.settle.supplyThreshold level) := by
  unfold State.handed State.quiet
  refine ⟨by decide, by decide, by decide, by decide, by decide, by decide, by decide, by decide, ?_⟩
  intro level; cases level <;> decide

def joining (now : Timer) : State :=
  (controlling (fun c => { c with service := .joining, joinSince := some 0 })
    (driving (fun d => { d with state := .unhomed }) up)).setTimer now
def free (s : State) : State := facing (fun f => { f with stop := some false }) s

theorem test_meets_JoiningEndsInStarting :
    (joining 5000).isRunning = true ∧ (joining 5000).control.service = .joining ∧
      (joining 5000).control.joinSince = some 0 ∧
      (joining 5000).values.joinTime * 1000 ≤ elapsedMs (joining 5000).timer 0 ∧
      (joining 5000).drive.state = .unhomed ∧ (free (joining 5000)).causeInForce = false ∧
      (joining 5000).causeInForce = true ∧
      elapsedMs (joining 4999).timer 0 < (joining 4999).values.joinTime * 1000 ∧ up.control.service ≠ .joining := by decide

theorem test_meets_OwnReportHeardFreesItsRecord :
    (handing reportFrame up).handed (heard reportFrame) (.report 0) ∧ up.control.strapsAccepted = true ∧
      up.txRoom = true ∧ up.ownerWaits = false ∧ up.contests.relinquish = [] ∧ up.quiet ∧
      up.control.statePending = false ∧ up.control.log = [] ∧
      (controlling (fun c => { c with statePending := true }) up).control.statePending = true ∧
      (handing reportFrame (controlling (fun c => { c with log := reporting.control.log }) up)).handed (heard reportFrame)
        (.report 0) ∧
      (controlling (fun c => { c with log := reporting.control.log }) up).control.reportOut ≠ some .logRecord := by
  unfold State.handed State.quiet; decide

theorem test_meets_CalendarParkAndAuditSetTheirTargets :
    (handing calendar30 up).handed (heard calendar30) .calendar ∧ up.control.service ≠ .setupWait ∧ up.quiet ∧
      (handing (park30 35) moving).handed (heard (park30 35)) .park ∧ moving.quiet ∧ moving.drive.state ≠ .idle ∧
      35 < moving.values.carriers ∧ ¬36 < moving.values.carriers ∧
      (handing (audit30 35 0) up).handed (heard (audit30 35 0)) .audit ∧ 35 < up.values.carriers ∧ up.audit.sweep.Nodup ∧
      up.values.carriers ≤ 36 := by
  unfold State.handed State.quiet; decide

/-- Slot 3 with so many flipped bits and this task. -/
def spoilt (flipped : Nat) (work : TaskWork) : State :=
  queueing [task work 3 0] (cellAt 3 { record := held .occupied, flipped := flipped } up)

theorem test_meets_ReadsCheckTheirRecord :
    3 < maxPositions ∧ (spoilt 1 (.pick line0)).tableOk = true ∧
      (Memory.get (spoilt 1 (.pick line0)).store.table 3).flipped = 1 ∧
      (Memory.get (spoilt 1 (.pick line0)).store.table 3).record.legal = true ∧ (Memory.get up.store.table 3).flipped = 0 ∧
      (Memory.get (spoilt 2 (.pick line0)).store.table 3).flipped = 2 ∧
      (spoilt 2 (.pick line0)).taskOn 3 = some (task (.pick line0) 3 0) ∧ (spoilt 2 (.pick line0)).queueOk = true ∧
      (spoilt 2 (.pick line0)).pocketsOk = true ∧ (spoilt 2 (.pick line0)).contests.relinquish.length < 32 ∧
      (spoilt 2 (.load 5)).taskOn 3 = some (task (.load 5) 3 0) ∧
      (spoilt 2 (.restore 0)).taskOn 3 = some (task (.restore 0) 3 0) ∧ up.control.log.length < 16 ∧
      16 ≤ (controlling (fun c => { c with
        log := List.replicate 16 { body := .stockIn 3 5, week := 0, timer := 0 } }) up).control.log.length := by decide

theorem test_meets_ReadsCheckTheirRecord_adjust :
    (handing (adjust30 3) (spoilt 2 (.pick line0))).handed (heard (adjust30 3)) .adjust ∧ up.control.service ≠ .setupWait ∧
      (spoilt 2 (.pick line0)).quiet ∧ (spoilt 2 (.pick line0)).values.slots ≤ maxPositions ∧
      (adjustOf (adjust30 3).payload).slot = 3 ∧ 3 < up.values.slots := by
  unfold State.handed State.quiet; decide

theorem test_meets_AdjustGivesItsResult :
    (handing (adjust30 432) up).handed (heard (adjust30 432)) .adjust ∧ up.quiet ∧ up.control.log.length < 16 ∧
      up.values.slots ≤ maxPositions ∧ up.values.slots ≤ (adjustOf (adjust30 432).payload).slot ∧
      (handing (adjust30 431) up).handed (heard (adjust30 431)) .adjust ∧
      (adjustOf (adjust30 431).payload).slot < up.values.slots ∧ (Memory.get up.store.table 431).flipped = 0 ∧
      (booking 431 (held .pickClaimed) up).recordAt 431 = held .pickClaimed ∧
      (adjustOf (adjust30 431).payload).target = .occupied ∧ (up.recordAt 431).state = .suspect ∧
      (up.recordAt 431).stock = none ∧ (adjustOf (adjust30 431).payload).data = none := by
  unfold State.handed State.quiet; decide

/-! ### Contests -/

def offer0 (claimed round : Nat) : Offer :=
  { inboundId := 5, stock := tyre, quantity := 4, claimed := claimed, round := round, state := .opened }
def offering (o : Offer) (s : State) : State := contesting (fun e => { e with offers := [o] }) s

theorem test_meets_InboundKeepsTheBatch :
    (handing (inbound30 8) up).handed (heard (inbound30 8)) .inbound ∧ up.control.service ≠ .setupWait ∧
      (inboundOf (inbound30 8).payload).quantity = 8 ∧ stockInRange (inboundOf (inbound30 8).payload).stock = true ∧
      (inboundOf (inbound30 0).payload).quantity = 0 ∧ 8 < (inboundOf (inbound30 9).payload).quantity ∧
      4 ≤ ((List.replicate 4 (offer0 1 1)).filter fun o => decide (o.inboundId ≠ 6)).length := by
  unfold State.handed; decide

def inWindow : Contest := recordOf .window (some .queued) none false false none

theorem test_meets_BidOfAnotherStation :
    (handing lowBid (withRecord inWindow up)).handed (heard lowBid) (.bid 6) ∧ up.control.service ≠ .setupWait ∧
      lowBid.key.station ≠ up.own ∧ inWindow.ref = refOf lowBid.payload ∧
      inWindow.round = byteAt lowBid.payload 3 ∧ inWindow.state ≠ .closed ∧
      keyValue lowBid.key < up.bidKey inWindow ∧ inWindow.bidFrame = some .queued ∧
      (handing highBid (withRecord inWindow up)).handed (heard highBid) (.bid 8) ∧
      up.bidKey inWindow ≤ keyValue highBid.key ∧
      up.bidKey (recordOf .claiming none (some .queued) true false none) = up.bidKey inWindow := by
  unfold State.handed; decide

theorem test_meets_OwnBidHeard :
    (handing ownBid (withRecord inWindow up)).handed (heard ownBid) (.bid 7) ∧ ownBid.key.station = up.own ∧
      inWindow.ref = refOf ownBid.payload ∧ inWindow.round = byteAt ownBid.payload 3 ∧ inWindow.bidFrame ≠ none ∧
      up.txRoom = true ∧ (fullTx up).txRoom = false ∧ (recordOf .deciding (some .sending) none false false none).lowest = none ∧
      24576 < up.bidKey inWindow ∧ up.bidKey inWindow ≤ 24801 ∧ up.contests.records = [] := by
  unfold State.handed; decide

/-- A BID for batch 5, and the record that a re-sent INBOUND has opened with another bid of its own, still queued. -/
def olderBid : Frame := frameOf 3 9 1 [128, 0, 5, 1, 2]
def reopened : Contest := { recordOf .window (some .queued) none false false none with ref := .store 5 }

/-- The older BID heard marks the new record's own bid heard, and the new BID stays queued (log 57). -/
theorem test_older_own_bid_is_taken :
    let s := porting (fun p => { p with tx := [queued (bidFrameOf up.own reopened)] }) (handing olderBid (withRecord reopened up))
    let t := after .bid s
    olderBid ≠ bidFrameOf up.own reopened ∧ t.contests.records = [{ reopened with bidFrame := none, ownHeard := true }] ∧
      t.port.tx = s.port.tx := by decide +kernel

/-- Slots for the line and for a batch of the offer: slot 3 OCCUPIED, slot 4 EMPTY. -/
def stocked : State := booking 4 SlotRecord.empty (booking 3 (held .occupied) (offering (offer0 1 1) (ordered (lineOf 2 0 1) up)))

theorem test_meets_OffersFollowTheirOrder :
    stocked.setupOk = true ∧ stocked.pickFit (lineOf 2 0 1) 3 = true ∧ stocked.storeFit 0 4 = true ∧
      3 ∈ stocked.pickEligible (lineOf 2 0 1) ∧ 4 ∈ stocked.storeEligible 0 := by decide +kernel

theorem test_meets_OffersFollowTheirOrder_set :
    (stocked.pickEligible { lineOf 3 0 1 with mode := .set }).length = 1 ∧
      ((stocked.pickEligible { lineOf 3 0 1 with mode := .set }).drop 0).length = 1 ∧
      (lineOf 3 0 1).quantity - (lineOf 3 0 1).claimed = 1 ∧ (lineOf 4 0 1).quantity - (lineOf 4 0 1).claimed = 0 ∧
      (lineOf 2 0 1).quantity - (lineOf 2 0 1).claimed = 2 := by decide +kernel

def computing (result : Option BidResult) (now : Timer) : State :=
  (contesting (fun e => { e with
    computing := some { opening := { ref := .store 5, round := 1, openedAt := 0 }, result := result },
    offers := [offer0 1 1] }) up).setTimer now

theorem test_meets_ResultMakesARecord :
    (computing none 0).isRunning = true ∧ (computing none 0).contests.computing.isSome = true ∧
      (computing (some { bid := 9, quantity := 2, slots := [4] }) 20).txRoom = true ∧
      (computing none 20).values.bidWindow ≤ elapsedMs (computing none 20).timer 0 ∧
      elapsedMs (computing none 19).timer 0 < (computing none 19).values.bidWindow ∧
      (computing none 0).contests.offers.find? (fun x => decide (x.inboundId = 5)) = some (offer0 1 1) ∧
      (fullTx (computing none 0)).txRoom = false := by decide

/-- So many contest records of other references, which a round that opens leaves. -/
def otherRecords (n : Nat) (s : State) : State :=
  contesting (fun e => { e with records := (List.range n).map fun i => { inWindow with ref := .store (100 + i) } }) s
/-- What an INBOUND leaves, its frame in hand. -/
def inboundTaken (s : State) : State := (s.takeInbound (inboundOf (inbound30 8).payload) 0).inHand
def bidHeld (s : State) : State := planning (fun p => { p with bidHold := true }) s

/-- A round that opens: bid in up to 7 records held, and not under a bidding hold, with 8 records, out of service, in QUIET or
with the lane BLIND; an earlier record of the reference ends, and stays CLOSED with its CLAIM on the bus. -/
theorem test_meets_InboundKeepsTheBatch_round :
    up.quiet ∧ up.contests.computing = none ∧ (inboundTaken up).bids (.store 5) ∧
      (inboundTaken (otherRecords 7 up)).bids (.store 5) ∧ ¬(inboundTaken (otherRecords 8 up)).bids (.store 5) ∧
      ¬(inboundTaken (bidHeld up)).bids (.store 5) ∧ ¬(inboundTaken (serving .starting up)).bids (.store 5) ∧
      ¬(inboundTaken (porting (fun p => { p with confinement := .quiet }) up)).bids (.store 5) ∧
      ¬up.bids (.pick line0) ∧ (ordered (lineOf 0 0 1) up).bids (.pick line0) ∧
      Contest.ended (.pick line0) inWindow = none ∧ Contest.ended (.store 5) inWindow = some inWindow ∧
      Contest.ended (.pick line0) (recordOf .claiming none (some .sending) true false none) =
        some (recordOf .closed none (some .sending) true false none) := by
  simp only [← State.mayBid_iff]; unfold State.quiet; decide

/-- A result handed over while another round waits: bid in with 7 records, but not where the result makes the eighth. -/
def resultWithRoundBehind (records : Nat) : State :=
  contesting (fun e => { e with
    computing := some { opening := { ref := .store 5, round := 1, openedAt := 0 },
                        result := some { bid := 9, quantity := 1, slots := [4] } },
    considering := [{ ref := .pick line0, round := 1, openedAt := 0 }] }) (otherRecords records (ordered (lineOf 0 0 1) up))
theorem test_meets_ResultMakesARecord_round :
    (resultWithRoundBehind 6).takeResult.relocateAll.bids (.pick line0) ∧
      ¬(resultWithRoundBehind 7).takeResult.relocateAll.bids (.pick line0) ∧
      (resultWithRoundBehind 6).contests.considering =
        [] ++ { ref := .pick line0, round := 1, openedAt := 0 } :: [] := by
  simp only [← State.mayBid_iff]; decide

def wonRecord : Contest := recordOf .window none none true false none

theorem test_meets_WindowEndDecides :
    up.isRunning = true ∧ (withRecord inWindow up).contests.records = [inWindow] ∧ inWindow.state = .window ∧
      (up.setTimer 20).values.bidWindow ≤ elapsedMs (up.setTimer 20).timer inWindow.openedAt ∧
      elapsedMs (up.setTimer 19).timer inWindow.openedAt < up.values.bidWindow ∧ inWindow.ownHeard = false ∧
      (recordOf .window none none true false (some 5)).ownHeard = true ∧ 5 < up.bidKey inWindow ∧
      wonRecord.state = .window ∧ wonRecord.ownHeard = true ∧ wonRecord.lowest = none ∧ wonRecord.secondChance = false ∧
      up.port.tx.length < 8 ∧ ¬(fullTx up).port.tx.length < 8 := by decide

def lostRecord : Contest := recordOf .lost none none true false (some 5)
def lateBid : Contest := recordOf .deciding (some .queued) none false false none

theorem test_meets_SecondChanceClaims :
    up.isRunning = true ∧ (withRecord lostRecord up).contests.records = [lostRecord] ∧ lostRecord.state = .lost ∧
      lostRecord.chancePassed = false ∧ 5 * (up.setTimer 100).values.bidWindow ≤ elapsedMs (up.setTimer 100).timer 0 ∧
      elapsedMs (up.setTimer 99).timer 0 < 5 * up.values.bidWindow ∧ lateBid.state = .deciding ∧
      lateBid.bidFrame = some .queued ∧ lateBid.chancePassed = false ∧ up.port.tx.length + 1 ≤ 8 ∧
      8 ≤ (fullTx up).port.tx.length ∧ (recordOf .claiming none (some .queued) true false none).chancePassed = false ∧
      (withRecord lostRecord up).contestsOk = true ∧ (withRecord lateBid (fullTx up)).contestsOk = true := by
  decide

def offer9 : Offer := { offer0 1 1 with inboundId := 9 }

theorem test_meets_ClaimCountsForEveryStation :
    (handing (pickClaim 9 2) stocked).handed (heard (pickClaim 9 2)) .claim ∧ stocked.control.service ≠ .setupWait ∧
      refOf (pickClaim 9 2).payload = .pick line0 ∧ stocked.lineAt line0 = some (lineOf 2 0 1) ∧
      up.lineAt line0 = none ∧ refOf (storeClaim 9 2).payload = .store 5 ∧ stocked.contests.offers = [offer0 1 1] ∧
      (offer0 1 1).inboundId = 5 ∧ (∀ o ∈ up.contests.offers, o.inboundId ≠ 5) ∧
      (offer0 1 1).claimed + 2 < (offer0 1 1).quantity ∧ (offer0 1 1).claimed + 3 = (offer0 1 1).quantity ∧
      (offer0 1 6).round = 6 ∧ (offer0 1 1).state = .opened ∧
      (contesting (fun e => { e with offers := [offer9, offer0 1 1, offer9] }) up).contests.offers =
        [offer9] ++ offer0 1 1 :: [offer9] ∧
      (∀ x ∈ [offer9] ++ [offer9], x.inboundId ≠ 5 ∧ x.state = .opened) := by
  unfold State.handed; decide

/-- What a CLAIM leaves, its frame in hand: its round bid in, or none opened. -/
def claimTaken (f : Frame) (s : State) : State := (s.hearClaim f 0).inHand.relocateAll
theorem test_meets_ClaimCountsForEveryStation_round :
    stocked.quiet ∧ stocked.contests.computing = none ∧ (claimTaken (pickClaim 9 1) stocked).bids (.pick line0) ∧
      ¬(claimTaken (pickClaim 9 1) (bidHeld stocked)).bids (.pick line0) ∧
      (claimTaken (pickClaim 9 1) stocked).contests.considering.map RoundOpen.round = [2] ∧
      (claimTaken (storeClaim 9 2) stocked).bids (.store 5) ∧
      (claimTaken (storeClaim 9 2) stocked).contests.considering.map RoundOpen.round = [2] ∧
      (claimTaken (pickClaim 9 2) stocked).contests.considering = [] ∧
      (claimTaken (storeClaim 9 3) stocked).contests.considering = [] := by
  simp only [← State.mayBid_iff]; unfold State.quiet; decide +kernel

/-- The own pick claim for slots, its CLAIM heard. -/
def claimed (slots : List Nat) : Contest :=
  { recordOf .claiming none (some .sending) true false none with slots := slots, quantity := slots.length }
def crowded : State := queueing [task (.restore 0) 3 0] stocked

theorem test_meets_OwnPickClaimTakesItsSlots :
    stocked.lineAt line0 = some (lineOf 2 0 1) ∧ 3 < maxPositions ∧ (Memory.get stocked.store.table 3).flipped = 0 ∧
      stocked.pickFit (lineOf 2 0 1) 3 = true ∧ stocked.pickFit (lineOf 2 0 1) 4 = false ∧
      stocked.taskFits (.pick line0) 3 = true ∧ crowded.pickFit (lineOf 2 0 1) 3 = true ∧
      crowded.taskFits (.pick line0) 3 = false ∧ crowded.tableOk = true := by decide

theorem test_meets_OwnPickClaimTakesItsSlots_claim :
    (handing (pickClaim 1 1) (withRecord (claimed [3]) stocked)).handed (heard (pickClaim 1 1)) .claim ∧
      (pickClaim 1 1).key.station = stocked.own ∧ refOf (pickClaim 1 1).payload = .pick line0 ∧ stocked.quiet ∧
      stocked.tableOk = true ∧ (∀ e ∈ stocked.store.table, e.2.flipped = 0) ∧ stocked.contests.relinquish.length < 32 ∧
      (claimed [3]).ref = .pick line0 ∧ (claimed [3]).round = byteAt (pickClaim 1 1).payload 3 ∧
      (claimed [3]).state = .claiming ∧ (claimed [3]).claimFrame.isSome = true ∧
      (claimed [3]).slots.take (min 1 (4 - 2)) = [3] ∧ stocked.taskOn 3 = none ∧
      stocked.planner.queue.length + 1 ≤ 24 ∧ ordinaryCount stocked.planner.queue + 1 ≤ 22 ∧
      (claimed [4]).slots.take (min 1 (4 - 2)) = [4] ∧ stocked.pickFit (lineOf 2 0 1) 4 = false ∧
      crowded.quiet ∧ (∀ c ∈ stocked.contests.records, c.ref ≠ .pick line0) := by
  unfold State.handed State.quiet; decide

def storing (slots : List Nat) : Contest :=
  { claimed slots with ref := .store 5, offered := some tyre }
def batch (claimed arrived : Nat) : Receiving :=
  { inboundId := 5, claimed := claimed, arrived := arrived, loaded := 0, deadline := 100 }
def receivingWith (r : List Receiving) (s : State) : State := facing (fun f => { f with receiving := r }) s

theorem test_meets_OwnStoreClaimTakesItsSlots :
    (handing (storeClaim 1 1) (withRecord (storing [4]) stocked)).handed (heard (storeClaim 1 1)) .claim ∧
      (storeClaim 1 1).key.station = stocked.own ∧ refOf (storeClaim 1 1).payload = .store 5 ∧
      stocked.contests.offers.find? (fun x => decide (x.inboundId = 5)) = some (offer0 1 1) ∧ stocked.quiet ∧
      stocked.tableOk = true ∧ (storing [4]).ref = .store 5 ∧ (storing [4]).state = .claiming ∧
      (storing [4]).claimFrame.isSome = true ∧ (storing [4]).offered = some tyre ∧
      (storing [4]).slots.take (min 1 (4 - 1)) = [4] ∧ stocked.face.receiving.length < 4 ∧
      stocked.storeFit tyre.size 4 = true ∧ stocked.taskOn 4 = none ∧ stocked.storeFit tyre.size 3 = false ∧
      (receivingWith [batch 2 0] stocked).face.receiving = [] ++ batch 2 0 :: [] ∧
      4 ≤ (receivingWith (List.replicate 4 { batch 2 0 with inboundId := 6 }) stocked).face.receiving.length ∧
      (List.replicate 4 { batch 2 0 with inboundId := 6 }).find? (fun r => decide (r.inboundId = 5)) = none ∧
      stocked.control.log.length < 16 ∧ (∀ c ∈ stocked.contests.records, c.ref ≠ .store 5) := by
  unfold State.handed State.quiet; decide

/-! ### Orders, lanes and pockets -/

def syncedUp : State := up.setLane 0 { Lane.blind with synced := true }

theorem test_meets_OrderOpensItsBay :
    (handing order30 syncedUp).handed (heard order30) .order ∧ (orderOf order30.payload).lines.length = 1 ∧
      (syncedUp.lane (orderOf order30.payload).lane).synced = true ∧
      (syncedUp.lane 0).bays[(orderOf order30.payload).bay] = none ∧
      (∀ l ∈ (orderOf order30.payload).lines, 1 ≤ l.quantity ∧ l.quantity ≤ 8) ∧
      ((orderOf order30.payload).lines.map OrderLine.quantity).sum ≤ syncedUp.values.capacity[(0 : Fin 8)] ∧
      (up.lane 0).synced = false ∧ up.quiet := by
  unfold State.handed State.quiet; decide

def orderTaken (s : State) : State := (s.takeOrder (orderOf order30.payload) 0).inHand
theorem test_meets_OrderOpensItsBay_round :
    syncedUp.quiet ∧ syncedUp.contests.computing = none ∧
      (orderTaken syncedUp).bids (.pick { line0 with order := 8 }) ∧
      ¬(orderTaken (bidHeld syncedUp)).bids (.pick { line0 with order := 8 }) ∧
      (orderTaken syncedUp).contests.considering = [{ ref := .pick { line0 with order := 8 }, round := 1, openedAt := 0 }] ∧
      (after .order (handing order30 syncedUp)).contests.computing.isSome = true ∧
      (after .order (handing order30 (bidHeld syncedUp))).contests.computing = none := by
  simp only [← State.mayBid_iff]; unfold State.quiet; decide +kernel

def givingUp (own : Bool) : RelinquishEntry := { line := line0, quantity := 2, queued := own }
def relinquishing (e : List RelinquishEntry) (s : State) : State := contesting (fun c => { c with relinquish := e }) s

theorem test_meets_RelinquishGivesBack :
    (handing (relinquish 9) (ordered (lineOf 4 1 6) up)).handed (heard (relinquish 9)) .relinquish ∧
      refOf (relinquish 9).payload = .pick line0 ∧ (ordered (lineOf 4 1 6) up).lineAt line0 = some (lineOf 4 1 6) ∧
      up.lineAt line0 = none ∧ (relinquish 9).key.station ≠ up.own ∧ up.quiet ∧
      (∀ e ∈ up.store.table, e.2.flipped = 0) ∧
      (handing (relinquish 1) (relinquishing [givingUp true, givingUp false] up)).handed (heard (relinquish 1))
        .relinquish ∧
      (relinquish 1).key.station = up.own ∧
      (relinquishing [givingUp true, givingUp false] up).contests.relinquish = givingUp true :: [givingUp false] ∧
      up.contests.records = [] ∧ up.txRoom = true ∧ up.ownerWaits = false ∧ up.contests.relinquish.length < 32 ∧
      32 ≤ (List.replicate 32 (givingUp false)).length ∧
      List.replicate 32 (givingUp false) = List.replicate 31 (givingUp false) ++ givingUp false :: [] ∧
      32 ≤ (List.replicate 32 (givingUp true)).length ∧
      (∀ x ∈ List.replicate 32 (givingUp true), ¬(x.line = line0 ∧ x.queued = false)) := by
  unfold State.handed State.quiet; decide

/-- A remainder opens the next round up to round 6; a relinquish without one opens none. -/
theorem test_meets_RelinquishGivesBack_round :
    (ordered (lineOf 4 1 5) up).quiet ∧ (ordered (lineOf 4 1 5) up).contests.computing = none ∧
      ((ordered (lineOf 4 1 5) up).hearRelinquish (relinquish 9) 0).inHand.bids (.pick line0) ∧
      ¬((bidHeld (ordered (lineOf 4 1 5) up)).hearRelinquish (relinquish 9) 0).inHand.bids (.pick line0) ∧
      ((ordered (lineOf 4 1 5) up).hearRelinquish (relinquish 9) 0).contests.considering.map RoundOpen.round = [6] ∧
      ((ordered (lineOf 4 1 6) up).hearRelinquish (relinquish 9) 0).contests.considering = [] := by
  simp only [← State.mayBid_iff]; unfold State.quiet; decide +kernel

def intending (state : EntryState) (l : OrderLine) : State :=
  facing (fun f => { f with pocketSense := #v[some true, none] })
    (pocketing (.entry (entryOf state .onBus none)) (ordered l up))

theorem test_meets_IntentIsJudgedByTheReserve :
    (handing (intent 1) (intending .loaded (lineOf 2 1 1))).handed (heard (intent 1)) (.intent 0) ∧
      intentLineOf 0 (intent 1).payload = line0 ∧
      (intending .loaded (lineOf 2 1 1)).lineAt line0 = some (lineOf 2 1 1) ∧ (lineOf 2 1 1).delivered < (lineOf 2 1 1).claimed ∧
      (intent 1).key.station = up.own ∧
      (intending .loaded (lineOf 2 1 1)).entriesWith line0 .onBus = [(0, entryOf .loaded .onBus none)] ∧
      (handing (intent 1) (intending .loaded (lineOf 1 1 1))).handed (heard (intent 1)) (.intent 0) ∧
      ¬(lineOf 1 1 1).delivered < (lineOf 1 1 1).claimed ∧
      (intending .carried (lineOf 1 1 1)).entriesWith line0 .onBus = [(0, entryOf .carried .onBus none)] ∧
      (intending .loaded (lineOf 2 1 1)).sensed 0 = true ∧ (intending .loaded (lineOf 2 1 1)).quiet ∧
      (intending .loaded (lineOf 2 1 1)).lanesOk = true ∧
      (intending .loaded (lineOf 2 1 1)).isAnchor line0 = true := by
  unfold State.handed State.quiet; decide

/-- The tyre of slot 3 in a pocket, for the line. -/
def pocketed (state : EntryState) (intent : IntentStatus) : State :=
  pocketing (.entry (entryOf state intent (if state = .granted ∨ state = .jammed then some 0 else none)))
    (booking 3 (held .outbound) (ordered (lineOf 2 1 1) up))

/-- Two bays OPEN in lane 0, a REFUSED entry of the second. -/
def refusedBehind (s : State) : State :=
  pocketing (.entry { entryOf .loaded .refused none with line := some { line0 with bay := 1, order := 8 } })
    (s.setLane 0 { synced := true, fill := 0, ageList := [0, 1],
                   bays := #v[some { order := 7, lines := [lineOf 1 0 1] }, some { order := 8, lines := [lineOf 1 0 1] },
                     none, none] })

theorem test_meets_ClearsFreeTheirBays :
    (handing bayClear20 picking).handed (heard bayClear20) (.bayClear 0) ∧ picking.control.service ≠ .setupWait ∧
      (picking.lane 0).synced = true ∧
      (picking.lane 0).bays[(0 : Fin 4)] = some { order := 7, lines := [{ lineOf 3 2 1 with ownClaim := 1 }] } ∧
      picking.queueOk = true ∧ picking.tableOk = true ∧ picking.lanesOk = true ∧ picking.pocketsOk = true ∧
      (Memory.get picking.store.table 3).flipped = 0 ∧ (picking.recordAt 3).state = .pickClaimed ∧
      picking.planner.queue = [task (.pick line0) 3 0] ∧ picking.quiet ∧
      (pocketed .loaded .none).pocket 0 = .entry (entryOf .loaded .none none) ∧ (pocketed .loaded .none).quiet ∧
      (pocketed .loaded .none).queueOk = true ∧ (pocketed .loaded .none).planner.queue = [] ∧
      (pocketed .loaded .none).pocket 1 = .free ∧
      (pocketed .granted .none).pocket 0 = .entry (entryOf .granted .none (some 0)) ∧
      (up.lane 0).synced = false ∧ (handing bayClear20 up).handed (heard bayClear20) (.bayClear 0) ∧ up.lanesOk = true := by
  unfold State.handed State.quiet; decide

theorem test_meets_ClearsFreeTheirBays_lane :
    (handing laneIdle20 (pocketed .loaded .none)).handed (heard laneIdle20) (.laneIdle 0) ∧
      (pocketed .loaded .none).lanesOk = true ∧ (pocketed .loaded .none).pocketsOk = true ∧
      (pocketed .loaded .none).openBay line0 ≠ none ∧
      (handing laneIdle20 picking).handed (heard laneIdle20) (.laneIdle 0) ∧
      (picking.lane 0).bays[(0 : Fin 4)] ≠ none ∧ picking.lanesOk = true ∧ picking.quiet ∧
      (withRecord inWindow picking).contests.records = [inWindow] ∧ inWindow.ref = .pick line0 ∧
      (handing laneIdle20 (pocketed .granted .none)).handed (heard laneIdle20) (.laneIdle 0) ∧
      (pocketed .granted .none).lanesOk = true ∧ (pocketed .granted .none).quiet ∧
      (refusedBehind up).pocket 0 =
        .entry { entryOf .loaded .refused none with line := some { line0 with bay := 1, order := 8 } } ∧
      (refusedBehind up).control.halt = false ∧ (refusedBehind (halted up)).control.halt = true ∧
      (refusedBehind up).port.tx.length + 2 ≤ 8 ∧ (refusedBehind up).quiet := by
  unfold State.handed State.quiet; decide

def sensing (x : Option Bool) (s : State) : State := facing (fun f => { f with pocketSense := #v[x, some false] }) s

/-- An entry in pocket 1, and what stands in pocket 0. -/
def twoPockets (a : Pocket) (c : PocketEntry) (s : State) : State := s.setLanes { s.lanes with pockets := #v[a, .entry c] }

theorem test_meets_PocketSensorMovesItsEntry :
    up.isRunning = true ∧ inputActive (up.values.activeLow.pocket 0) true = true ∧
      inputActive (up.values.activeLow.pocket 0) false = false ∧
      (sensing (some true) up).face.pocketSense[(0 : Fin 2)] = some true ∧
      (sensing (some false) (pocketed .carried .none)).face.pocketSense[(0 : Fin 2)] = some false ∧
      (sensing (some false) (pocketed .carried .none)).pocket 0 = .entry (entryOf .carried .none none) ∧
      (sensing (some false) (pocketed .carried .none)).control.halt = false ∧
      (sensing (some false) (pocketed .carried .none)).txRoom = true ∧
      (sensing (some false) (pocketed .carried .none)).quiet ∧
      (sensing (some false) (twoPockets .free (entryOf .carried .onBus none) up)).pocket (otherPocket 0) =
        .entry (entryOf .carried .onBus none) ∧
      (twoPockets .free (entryOf .carried .onBus none) up).pocket 0 = .free ∧
      (twoPockets (.entry (entryOf .assigned .none none)) (entryOf .carried .none none) up).pocket 0 =
        .entry (entryOf .assigned .none none) := by
  unfold State.quiet; decide

theorem test_meets_PocketSensorMovesItsEntry_rest :
    (sensing none up).face.pocketSense[(0 : Fin 2)] = none ∧ (sensing none up).pocket 0 = .free ∧
      (sensing (some false) up).entryIn (otherPocket 0) .carried = none ∧ up.control.log.length < 16 ∧
      (sensing (some false) (pocketing (.entry (entryOf .assigned .none none)) up)).pocket 0 =
        .entry (entryOf .assigned .none none) ∧
      (sensing (some false) (pocketed .loaded .none)).pocket 0 = .entry (entryOf .loaded .none none) ∧
      (sensing (some true) intending0).pocket 0 = .entry (entryOf .loaded .queued none) ∧
      (sensing (some true) (pocketed .granted .none)).pocket 0 = .entry (entryOf .granted .none (some 0)) ∧
      3 < maxPositions ∧ (Memory.get (pocketed .granted .none).store.table 3).flipped = 0 ∧
      (pocketed .granted .none).tableOk = true ∧ (sensing (some true) (pocketing .foreign up)).pocket 0 = .foreign ∧
      (sensing (some true) (pocketing .foreign up)).quiet := by
  unfold State.quiet; decide

/-- LOADED entries of one line in both pockets, the INTENT of pocket 1 queued before that of pocket 0. -/
def twoIntents : State :=
  sensing (some true) (twoPockets (.entry { entryOf .loaded .queued none with number := 1 }) (entryOf .loaded .queued none)
    (porting (fun p => { p with tx := [queued (intent 1), queued reportFrame, queued (intent 1)] }) up))

theorem test_meets_PocketSensorMovesItsEntry_two :
    twoIntents.pocket 0 = .entry { entryOf .loaded .queued none with number := 1 } ∧ twoIntents.quiet ∧
      twoIntents.pocket (otherPocket 0) = .entry (entryOf .loaded .queued none) ∧
      (entryOf .loaded .queued none).number < 1 ∧
      twoIntents.port.tx = [] ++ queued (intent 1) :: [queued reportFrame] ++ queued (intent 1) :: [] ∧
      intentFrameOf twoIntents.own line0 = intent 1 ∧ (queued reportFrame).frame ≠ intent 1 := by
  unfold State.quiet; decide

def jamming (now : Timer) (x : Option Bool) : State := (sensing x (pocketed .granted .none)).setTimer now

theorem test_meets_JamAfterTenSeconds :
    (jamming 10000 (some true)).isRunning = true ∧
      (jamming 10000 (some true)).pocket 0 = .entry (entryOf .granted .none (some 0)) ∧
      (jamming 10000 (some true)).sensed 0 = true ∧ 10000 ≤ elapsedMs (jamming 10000 (some true)).timer 0 ∧
      (jamming 10000 (some true)).jamFlag = false ∧ (jamming 10000 (some true)).control.reportOut ≠ none ∧
      (jamming 10000 (some false)).sensed 0 = false ∧ elapsedMs (jamming 9999 (some true)).timer 0 < 10000 ∧
      (jamming 10000 (some true)).quiet := by
  unfold State.quiet; decide

/-! ### The drive -/

def standing (a : Nat) (s : State) : State := driving (fun d => { d with position := a }) s
def spaced (c : Int) (s : State) : State := driving (fun d => { d with homingSpacing := some c, homingEdges := 1 }) s

theorem test_meets_EncoderCountMovesThePosition :
    (standing 15 up).isRunning = true ∧ (standing 15 up).drive.positionKnown = true ∧
      ((standing 15 up).countPosition .forward).flagMissing = false ∧
      ((standing 15 up).countPosition .forward).offsetWithin = true ∧
      ((standing 16 up).countPosition .forward).offsetWithin = false ∧ (standing 16 up).drive.state = .idle ∧
      (standing 16 up).control.service = .inService ∧
      ((driving (fun d => { d with expectations := [(1, .forward)], position := 512 + 16 }) moving).countPosition
        .forward).flagMissing = true ∧
      homing.drive.state = .homing ∧ homing.drive.homeFound = false ∧ homing.drive.homingSpacing = none ∧
      (spaced 527 homing).drive.homingSpacing = some 527 ∧ ¬512 + 16 < 527 + 1 ∧ 512 + 16 < 528 + 1 ∧
      (driving (fun d => { d with state := .holding, held := some .homing }) up).drive.held ≠ some .move ∧
      (driving (fun d => { d with arrived := some .forward }) up).drive.arrived = some .forward ∧
      State.reset.drive.state = .unhomed ∧ (driving (fun d => { d with state := .fault }) up).drive.state = .fault := by
  decide

/-- A short move of 100 counts in its ACCEL half, so many counts covered. -/
def ramping (covered : Int) : State :=
  driving (fun d => { d with
    shortMove := true, travel := 100 - covered, ramp := some { start := 0, goal := 90, span := 50, covered := covered } }) moving

theorem test_meets_EncoderCountMovesThePosition_moving :
    (ramping 48).drive.state = .moving ∧ ((ramping 48).countPosition .forward).flagMissing = false ∧
      (ramping 48).drive.direction = .forward ∧ moving.drive.ramp = none ∧ (ramping 49).drive.phase = .accel ∧
      (after (.encoderCount .forward) (ramping 48)).drive.phase = .accel ∧
      (after (.encoderCount .forward) (ramping 48)).drive.duty = 88 ∧
      (after (.encoderCount .reverse) (ramping 48)).drive.duty = 84 ∧
      (after (.encoderCount .reverse) (ramping 0)).drive.duty = 0 ∧
      (after (.encoderCount .forward) (ramping 49)).drive.phase = .decel ∧
      (after (.encoderCount .forward) (ramping 49)).drive.duty = 90 ∧
      (after (.encoderCount .forward) (ramping 49)).drive.ramp = some { start := 90, goal := 0, span := 50, covered := 0 } := by
  decide +kernel

/-- A move in its first interval at an index position, its target beyond it. -/
def underway (travel : Int) : State := driving (fun d => { d with target := some 2, travel := travel }) (standing 512 moving)

theorem test_meets_IndexEdgeRealigns :
    (standing 16 up).offsetWithin = true ∧ (standing 17 up).offsetWithin = false ∧ (standing 16 up).faceCarrier = 0 ∧
      (standing 16 up).drive.positionKnown = true ∧ (underway 1024).drive.state = .moving ∧
      (underway 1024).offsetWithin = true ∧ (underway 1024).faceCarrier = 1 ∧ (underway 1024).drive.target ≠ some 1 ∧
      (underway 1024).drive.phase = .accel ∧ (underway 1024).drive.shortMove = false ∧
      ((underway 1024).values.countsPerPitch : Int) < (underway 1024).realign.drive.travel ∧
      (underway 512).realign.drive.travel ≤ (underway 512).values.countsPerPitch ∧
      (standing 1024 moving).drive.target = some (standing 1024 moving).faceCarrier ∧
      homing.drive.state = .homing ∧ homing.drive.homeFound = false ∧ homing.drive.homingSpacing = none ∧
      (spaced 528 homing).drive.homingSpacing = some 528 ∧ ((528 : Int) - 512).natAbs ≤ homing.values.indexTolerance ∧
      ¬((529 : Int) - 512).natAbs ≤ homing.values.indexTolerance ∧
      (spaced 512 homing).drive.homingEdges < homing.values.carriers ∧
      homing.values.carriers ≤ (driving (fun d => { d with homingEdges := 36 }) (spaced 512 homing)).drive.homingEdges ∧
      State.reset.drive.positionKnown = false ∧ State.reset.drive.state ≠ .homing := by decide

/-- The same move in CRUISE at a duty of its own, with the supply below the WARN level or not. -/
def cruising (below : Bool) (travel : Int) : State :=
  driving (fun d => { d with phase := .cruise, duty := 90, warnBelow := below }) (underway travel)
theorem test_meets_IndexEdgeRealigns_phases :
    (cruising false 513).drive.phase = .cruise ∧
      ((cruising false 513).values.countsPerPitch : Int) < (cruising false 513).realign.drive.travel ∧
      (cruising false 512).realign.drive.travel ≤ (cruising false 512).values.countsPerPitch ∧
      (cruising false 513).drive.target ≠ some (cruising false 513).faceCarrier ∧
      (cruising false 513).realign.flagMissing = false ∧
      (after (.indexEdge false) (cruising false 513)).drive.ramp = none ∧
      (after (.indexEdge false) (cruising true 513)).drive.ramp =
        some { start := up.values.normalDuty, goal := up.values.slowDuty, span := 512, covered := 0 } ∧
      (after (.indexEdge false) (cruising true 512)).drive.ramp = some { start := 90, goal := 0, span := 512, covered := 0 } ∧
      (driving (fun d => { d with phase := .decel }) (cruising true 512)).drive.phase = .decel ∧
      (driving (fun d => { d with phase := .accel, shortMove := true }) (cruising true 512)).drive.shortMove = true := by
  decide +kernel

/-- P 64 and tolerance 40; carrier 1 passed without its edge, A at so many counts past it. -/
def missing (past : Nat) : State :=
  driving (fun d => { d with state := .holding, held := some .move, expectations := [(1, .forward)], position := 64 + past })
    (controlling (fun c => { c with settled := { c.settled with countsPerPitch := 64, indexTolerance := 40 } }) up)

theorem test_meets_IndexEdgeRealigns_missed :
    (missing 33).drive.positionKnown = true ∧ (missing 33).offsetWithin = true ∧ (missing 33).faceCarrier = 2 ∧
      (missing 33).realign.drive.expectations = [(1, .forward)] ∧ (missing 33).realign.drive.position = 128 ∧
      (missing 33).values.indexTolerance < (missing 33).values.beyond 128 (1, .forward) ∧
      2 * (missing 33).values.beyond 128 (1, .forward) ≤ (missing 33).values.loop ∧
      (missing 32).faceCarrier = 1 ∧ (missing 32).realign.drive.expectations = [] := by decide

def settling : State :=
  driving (fun d => { d with state := .settling, target := some 0 }) (planning (fun p => { p with parkTarget := some 0 }) up)
def homed : State := driving (fun d => { d with homeFound := true, brake := true, duty := 0 }) (serving .starting homing)

theorem test_meets_RestAndStallIntervals :
    moving.isRunning = true ∧ (moving.setTimer 500).drive.dutyApplied = true ∧
      500 ≤ elapsedMs (moving.setTimer 500).timer moving.drive.stallSince ∧
      elapsedMs (moving.setTimer 499).timer moving.drive.stallSince < 500 ∧ up.drive.dutyApplied = false ∧
      settling.drive.state = .settling ∧ 200 ≤ elapsedMs (settling.setTimer 200).timer settling.drive.restSince ∧
      elapsedMs (settling.setTimer 199).timer settling.drive.restSince < 200 ∧ settling.offsetWithin = true ∧
      (standing 100 settling).offsetWithin = false ∧
      settling.planner.parkTarget = some (settling.drive.target.getD settling.faceCarrier) ∧ settling.quiet ∧
      homed.drive.state = .homing ∧ homed.drive.homeFound = true ∧ homed.offsetWithin = true ∧
      200 ≤ elapsedMs (homed.setTimer 200).timer homed.drive.restSince ∧
      (standing 100 homed).offsetWithin = false ∧ up.drive.state ≠ .homing := by
  unfold State.quiet; decide

def holding (work : HeldWork) (travel : Int) : State :=
  free (driving (fun d => { d with
    state := .holding, held := some work, target := some 2, travel := travel, lastCount := some 0 }) (up.setTimer 200))

theorem test_meets_HeldWorkResumes :
    (holding .move 16).isRunning = true ∧ (holding .move 16).drive.state = .holding ∧
      (holding .move 16).causeInForce = false ∧ 200 ≤ elapsedMs (holding .move 16).timer 0 ∧
      (16 : Int).natAbs ≤ (holding .move 16).values.indexTolerance ∧
      ((holding .move 17).values.indexTolerance : Int) < (holding .move 17).drive.travel ∧
      (holding .move (-17)).drive.travel < -((holding .move (-17)).values.indexTolerance : Int) ∧
      (holding .homing 0).drive.held = some .homing ∧ (halted (holding .move 0)).causeInForce = true ∧
      elapsedMs ((holding .move 0).setTimer 199).timer 0 < 200 ∧ 1000 ≤ elapsedMs (up.setTimer 1000).timer 0 ∧
      elapsedMs (up.setTimer 999).timer 0 < 1000 ∧ 500 ≤ elapsedMs (up.setTimer 500).timer 0 ∧
      elapsedMs (up.setTimer 499).timer 0 < 500 ∧ up.drive.curtainCause = false ∧ up.drive.supplyCause = false := by decide

/-- A held move whose curtain and supply causes have been clear since time 0, so many milliseconds later. -/
def clearing (curtain supply : Bool) (now : Timer) : State :=
  (driving (fun d => { d with
    curtainCause := curtain, curtainClearSince := some 0, supplyCause := supply, supplyClearSince := some 0 })
    (holding .move 100)).setTimer now

/-- At rest, what clears the last cause resumes the move; 1 ms before rest, and with another cause, the move stays held. -/
theorem test_meets_HeldWorkResumes_clearing :
    (clearing true false 1000).face.stopActive = false ∧
      (after .curtainClearTimeout (clearing true false 1000)).drive.state = .moving ∧
      (after .curtainClearTimeout (clearing true true 1000)).drive.state = .holding ∧
      (after .supplyClearTimeout (clearing false true 500)).drive.state = .moving ∧
      (after .supplyClearTimeout (driving (fun d => { d with lastCount := some 301 }) (clearing false true 500))).drive.state =
        .holding ∧
      (handing resume30 (halted (holding .move 100))).handed (heard resume30) .resume ∧
      (after .resume (handing resume30 (halted (holding .move 100)))).drive.state = .moving ∧
      (after .resume ((handing resume30 (halted (holding .move 100))).setTimer 199)).drive.state = .holding ∧
      (after (.stopLevelChange false) (showing .stop false 200 (facing (fun f => { f with stop := some true })
        (holding .move 100)))).drive.state = .moving ∧
      (facing (fun f => { f with stop := some true }) (holding .move 100)).activeAt .stop false = false := by
  unfold State.handed; decide +kernel

/-- A reading below both levels has stood since time 0. -/
def filtering (now : Timer) (s : State) : State :=
  (driving (fun d => { d with warnFilter := ⟨70, some 0⟩, cutFilter := ⟨70, some 0⟩ }) s).setTimer now

theorem test_meets_LevelsAndHoldingCauses :
    up.isRunning = true ∧ inputActive up.values.activeLow.stop true = true ∧ moving.drive.state = .moving ∧
      inputActive up.values.activeLow.curtain true = true ∧ inputActive up.values.activeLow.curtain false = false ∧
      up.control.reportOut ≠ none ∧ up.drive.stickyWarn = false ∧ up.drive.stickyCut = false := by decide

/-- Every face input takes its level at 10 ms and not at 9; a line back at the debounced level stops the timing, one that
changes starts it anew. -/
theorem test_meets_LevelsAndHoldingCauses_inputs :
    (∀ i ∈ [FaceInput.done, .stop, .curtain, .arrival, .pocket 0, .pocket 1], ∀ high,
      (showing i high 10 moving).shownLong i high ∧ ¬(showing i high 9 moving).shownLong i high ∧
        ¬(showing i (!high) 10 moving).shownLong i high) ∧
      ¬(showing .stop true 10 (facing (fun f => { f with stop := some true }) up)).shownLong .stop true := by
  simp only [State.shownLong_iff]; decide

theorem test_meets_LevelsAndHoldingCauses_supply :
    up.values.supplyThreshold .warn = 85 ∧ up.values.supplyThreshold .cut = 75 ∧
      up.drive.liveBelow .warn = false ∧ up.drive.liveBelow .cut = false ∧
      ((filtering 0 up).drive.filterOf .warn).since = some 0 ∧ ((filtering 0 up).drive.filterOf .cut).since = some 0 ∧
      2 ≤ elapsedMs (filtering 2 up).timer 0 ∧ ¬2 ≤ elapsedMs (filtering 1 up).timer 0 ∧
      (filtering 2 moving).drive.state = .moving ∧ (up.drive.filterOf .warn).since = none ∧
      (driving (fun d => { d with cutBelow := true, supplyCause := true }) (filtering 2 up)).drive.liveBelow .cut = true := by
  decide

def outOfService (now : Timer) : State :=
  (planning (fun p => { p with graceSince := some 0 }) (serving .outOfService picking)).setTimer now

theorem test_meets_FaultGraceCancelsPicks :
    (outOfService 60000).isRunning = true ∧ (outOfService 60000).control.service = .outOfService ∧
      (outOfService 60000).planner.graceSince = some 0 ∧
      (outOfService 60000).values.faultGrace * 1000 ≤ elapsedMs (outOfService 60000).timer 0 ∧
      (outOfService 60000).queueOk = true ∧ (outOfService 60000).quiet ∧ (outOfService 60000).tableOk = true ∧
      (outOfService 60000).contests.relinquish.length + 1 ≤ 32 ∧
      (Memory.get (outOfService 60000).store.table 3).flipped = 0 ∧
      ((outOfService 60000).recordAt 3).state = .pickClaimed ∧
      elapsedMs (outOfService 59999).timer 0 < (outOfService 59999).values.faultGrace * 1000 ∧
      up.planner.graceSince = none := by
  unfold State.quiet; decide

/-! ### The face -/

/-- An open dwell at carrier 0 whose positions all read absent. -/
def dwelling (phase : DwellPhase) (due : List Due) (wrong : List WrongEvent) (elapsed : Nat) (s : State) : State :=
  facing (fun f => { f with
    done := some false, image := Vector.replicate 12 { debounced := .absent, run := 0, last := false },
    dwell := some { carrier := 0, phase := phase, due := due, wrong := wrong, elapsed := elapsed, scan := List.replicate 12 false },
    settleScan := if phase = .scanning then some { carrier := 0, cycles := 0, hadDue := false } else none }) s

/-- Position 3 about to change its presence at the third sample. -/
def changing (present : Bool) (s : State) : State :=
  facing (fun f => { f with
    image := f.image.set 3 { debounced := presenceOf (!present), run := 2, last := present } }) s

def atSlot3 (work : TaskWork) : Task := { task work 3 0 with state := .atFace }
def pickAtFace (flipped : Nat) : State :=
  changing false (dwelling .working [{ slot := 3, lit := true }] [] 0
    (pocketing (.entry (entryOf .assigned .none none)) (queueing [atSlot3 (.pick line0)]
      (cellAt 3 { record := held .pickClaimed, flipped := flipped } picking))))
def loadAtFace (flipped : Nat) : State :=
  changing true (dwelling .working [{ slot := 3, lit := true }] [] 0
    (receivingWith [batch 1 1] (queueing [atSlot3 (.load 5)]
      (cellAt 3 { record := SlotRecord.reserved 5 tyre, flipped := flipped } up))))
def restoreAtFace (state : SlotState) : State :=
  changing true (dwelling .working [{ slot := 3, lit := true }] [] 0
    (sensing (some false) (pocketing (.entry { entryOf .restore .none none with line := none })
      (queueing [atSlot3 (.restore 0)] (booking 3 (held state) up)))))
def wrongAtFace (wrong : List WrongEvent) : State := changing true (dwelling .working [] wrong 0 up)

theorem test_meets_ScanCycleSamples :
    moving.isRunning = true ∧ moving.drive.state = .moving ∧ State.reset.drive.state = .unhomed ∧
      ¬up.values.rows * up.values.columns ≤ 11 ∧ 11 < up.values.rows * up.values.columns ∧
      State.reset.face.image[(0 : Fin 12)].debounced ≠ presenceOf true ∧ State.reset.face.image[(0 : Fin 12)].run = 0 ∧
      (dwelling .scanning [] [] 0 up).drive.state = .idle ∧
      (dwelling .scanning [] [] 0 up).face.dwell.map Dwell.phase = some .scanning ∧
      (dwelling .scanning [] [] 0 up).face.settleScan = some { carrier := 0, cycles := 0, hadDue := false } ∧
      ((dwelling .scanning [] [] 0 up).face.image[(0 : Fin 12)]).debounced = presenceOf false ∧
      (wrongAtFace [{ slot := 4, kind := .wrongPick }]).drive.state = .idle ∧ up.drive.state = .idle ∧
      up.face.lastScan = none ∧ 5 ≤ elapsedMs (up.setTimer 5).timer 0 ∧ ¬5 ≤ elapsedMs (up.setTimer 4).timer 0 ∧
      (after (.scanCycle 0 1200 []) up).drive.state = .idle ∧ (after (.scanCycle 0 1200 []) up).face.dwell = none ∧
      (after (.scanCycle 0 1200 []) (wrongAtFace [{ slot := 4, kind := .wrongPick }])).face.dwell.map Dwell.phase =
        some .working ∧
      (auditing (fun a => { a with sweep := [5] }) (free up)).drive.state = .idle ∧
      (after (.scanCycle 0 1200 []) (auditing (fun a => { a with sweep := [5] }) (free up))).drive.state = .moving := by
  decide +kernel

/-- The returns that leave every position but 3 as it is. -/
def returnsOf (present : Bool) : BitVec 12 := if present then 8 else 0

/-- What every clause asks of the state about its dwell and its samples. -/
def changeReady (s : State) (present : Bool) : Bool :=
  s.isRunning && decide (s.drive.state = .idle) && decide (s.face.dwell.map Dwell.phase = some .working) &&
    decide (s.face.settleScan = none) && decide (s.face.lastScan = none) && s.queueOk && s.tableOk && decide (s.control.log.length + 2 ≤ 16) &&
    decide (s.contests.relinquish.length < 32) && decide (0 * (s.values.rows * s.values.columns) + 3 < maxPositions) &&
    (List.finRange 12).all fun j =>
      decide ((returnsOf present).getLsbD (4 * (j.val / s.values.columns) + j.val % s.values.columns) =
        (decide (j = 3) && present)) &&
      decide (j = 3 ∨ (s.face.image[j]).debounced = .absent)

theorem test_meets_ConfirmationsAndWrongEvents :
    changeReady (pickAtFace 0) false = true ∧ (pickAtFace 0).quiet ∧
      (pickAtFace 0).taskOn 3 = some (atSlot3 (.pick line0)) ∧ (pickAtFace 0).assignedPocket 3 = some 0 ∧
      (pickAtFace 0).pocket 0 = .entry (entryOf .assigned .none none) ∧
      (pickAtFace 0).isLit { slot := 3, lit := true } = true ∧
      (Memory.get (pickAtFace 0).store.table 3).record.state = .pickClaimed ∧
      (Memory.get (pickAtFace 0).store.table 3).flipped = 0 ∧ changeReady (pickAtFace 2) false = true ∧
      ¬((Memory.get (pickAtFace 2).store.table 3).flipped = 0 ∨ (Memory.get (pickAtFace 2).store.table 3).flipped = 1) := by
  unfold State.quiet; decide

theorem test_meets_ConfirmationsAndWrongEvents_load :
    changeReady (loadAtFace 0) true = true ∧ (loadAtFace 0).quiet ∧
      (loadAtFace 0).taskOn 3 = some (atSlot3 (.load 5)) ∧ (loadAtFace 0).isLit { slot := 3, lit := true } = true ∧
      (Memory.get (loadAtFace 0).store.table 3).record.state = .reservedIn ∧
      (Memory.get (loadAtFace 0).store.table 3).flipped = 0 ∧ (Memory.get (loadAtFace 2).store.table 3).flipped = 2 ∧
      (∀ e ∈ (loadAtFace 2).store.table, e.1 ≠ 3 → e.2.flipped = 0) := by
  unfold State.quiet; decide

theorem test_meets_ConfirmationsAndWrongEvents_restore :
    changeReady (restoreAtFace .outbound) true = true ∧ (restoreAtFace .outbound).quiet ∧
      (restoreAtFace .outbound).taskOn 3 = some (atSlot3 (.restore 0)) ∧
      (restoreAtFace .outbound).isLit { slot := 3, lit := true } = true ∧
      (restoreAtFace .outbound).pocket 0 = .entry { entryOf .restore .none none with line := none } ∧
      (restoreAtFace .outbound).sensed 0 = false ∧ changeReady (restoreAtFace .occupied) true = true ∧
      changeReady (wrongAtFace []) true = true ∧
      changeReady (wrongAtFace [{ slot := 3, kind := .wrongPick }]) true = true := by
  unfold State.quiet; decide

/-- A dwell of a tower IN_SERVICE, with its task due or with a wrong event. -/
def atWork (elapsed : Nat) : State := dwelling .working [{ slot := 3, lit := false }] [] elapsed (queueing [atSlot3 (.pick line0)] picking)
def atWrong (kind : WrongKind) (r : SlotRecord) : State :=
  dwelling .working [] [{ slot := 3, kind := kind }] 90000 (booking 3 r up)

theorem test_meets_DoneAndDwellTimeout :
    (atWork 90000).isRunning = true ∧ (atWork 90000).control.service = .inService ∧
      (atWork 90000).face.done = some false ∧ (atWork 90000).queueOk = true ∧ (atWork 90000).quiet ∧
      (atWork 90000).pocketsOk = true ∧ (atWork 90000).control.log.length + 1 ≤ 16 ∧
      (atWork 90000).face.dwell.map (fun d => decide ((atWork 90000).values.dwellTimeout * 1000 ≤ d.elapsed)) = some true ∧
      (atWork 89999).face.dwell.map (fun d => decide (d.elapsed < (atWork 0).values.dwellTimeout * 1000)) = some true ∧
      (atWork 0).face.dwell.map Dwell.phase = some .working ∧
      (dwelling .scanning [] [] 0 up).face.dwell.map Dwell.phase = some .scanning ∧
      up.face.done = none ∧ (facing (fun f => { f with done := some true }) up).face.done = some true ∧ up.quiet := by
  unfold State.quiet; decide

theorem test_meets_DoneAndDwellTimeout_wrong :
    (atWrong .wrongPick (held .occupied)).queueOk = true ∧ (atWrong .wrongPick (held .occupied)).tableOk = true ∧
      (Memory.get (atWrong .wrongPick (held .occupied)).store.table 3).flipped = 0 ∧
      ((atWrong .wrongPick (held .occupied)).recordAt 3).state = .occupied ∧
      ((atWrong .wrongPlace SlotRecord.empty).recordAt 3).state = .empty ∧
      ((atWrong .wrongPick SlotRecord.empty).recordAt 3).state = .empty ∧
      ((atWrong .wrongPlace (held .occupied)).recordAt 3).state = .occupied ∧
      ((dwelling .working [] [{ slot := 3, kind := .wrongPick }] 0 picking).recordAt 3).state = .pickClaimed ∧
      (dwelling .working [] [{ slot := 3, kind := .wrongPick }] 0 picking).taskOn 3 = some (task (.pick line0) 3 0) ∧
      picking.contests.relinquish.length < 32 ∧ (atWrong .wrongPick (held .occupied)).quiet := by
  unfold State.quiet; decide

/-- A tyre put into the slot of a LOAD task, its dwell about to close. -/
def atReserved : State := queueing [task (.load 5) 3 0] (atWrong .wrongPlace (SlotRecord.reserved 5 tyre))

theorem test_meets_DoneAndDwellTimeout_reserved :
    (atReserved.recordAt 3).state = .reservedIn ∧ atReserved.taskOn 3 = some (task (.load 5) 3 0) ∧
      atReserved.control.log.length + atReserved.planner.queue.length + 2 ≤ 16 ∧ atReserved.tableOk = true ∧
      (∀ e ∈ atReserved.store.table, e.2.flipped = 0) ∧ atReserved.setupOk = true ∧ 3 < maxPositions ∧
      atReserved.queueOk = true ∧ atReserved.quiet := by
  unfold State.quiet; decide

theorem test_meets_DoneAndDwellTimeout_hold :
    (driving (fun d => { d with state := .fault, doneSince := some 0 }) up).drive.doneSince = some 0 ∧
      (driving (fun d => { d with state := .fault, doneSince := some 0 }) up).drive.state = .fault ∧
      2000 ≤ elapsedMs (up.setTimer 2000).timer 0 ∧ elapsedMs (up.setTimer 1999).timer 0 < 2000 ∧
      (free up).causeInForce = false ∧ up.causeInForce = true ∧ up.drive.state ≠ .fault := by decide

def receivingUp (now : Timer) (r : List Receiving) : State :=
  (facing (fun f => { f with arrival := some false, receiving := r }) up).setTimer now

/-- A batch of 2 of which 1 has arrived, with its LOAD tasks. -/
def awaiting : State :=
  queueing [task (.load 5) 3 0, task (.load 5) 4 1]
    (booking 3 (SlotRecord.reserved 5 tyre) (booking 4 (SlotRecord.reserved 5 tyre) (receivingUp 100 [batch 2 1])))

theorem test_meets_ArrivalsAndDeadlines :
    up.isRunning = true ∧ inputActive up.values.activeLow.arrival true = true ∧
      inputActive up.values.activeLow.arrival false = false ∧
      (receivingUp 0 [batch 2 2, batch 2 1]).face.arrival = some false ∧ (batch 2 2).claimed ≤ (batch 2 2).arrived ∧
      (batch 2 1).arrived < (batch 2 1).claimed ∧ up.control.log.length < 16 ∧ up.face.arrival ≠ some false ∧ up.quiet ∧
      awaiting.face.receiving = [batch 2 1] ∧ awaiting.deadlinePassed (batch 2 1).deadline = true ∧ awaiting.quiet ∧
      (awaiting.planner.queue.filter fun x => decide (x.work = .load 5)).drop 1 = [task (.load 5) 4 1] ∧
      awaiting.queueOk = true ∧ awaiting.tableOk = true ∧ (∀ e ∈ awaiting.store.table, e.2.flipped = 0) ∧
      (awaiting.recordAt 4).state = .reservedIn ∧
      (receivingUp 99 [batch 2 1]).deadlinePassed (batch 2 1).deadline = false ∧
      (∀ x ∈ [{ batch 2 2 with inboundId := 9 }] ++ [], x.inboundId ≠ (batch 2 1).inboundId ∧ x.loaded ≠ x.claimed ∧
        x.claimed ≤ x.arrived) := by
  unfold State.quiet; decide

/-- The LOAD task of slot 3 handed over, slot 16 of the next carrier fitting for it, or no slot. -/
def relocating (expected : Option StockData) (room : Bool) : State :=
  auditing (fun a => { a with relocations := [{ slot := 3, inboundId := 5, expected := expected }] })
    (if room then booking 16 SlotRecord.empty awaiting else awaiting)

theorem test_meets_LoadTasksAreRelocated :
    (relocating (some tyre) true).isRunning = true ∧
      (relocating (some tyre) true).audit.relocations = [{ slot := 3, inboundId := 5, expected := some tyre }] ∧
      (relocating (some tyre) true).contests.considering = [] ∧
      (relocating (some tyre) true).taskOn 3 = some (task (.load 5) 3 0) ∧ (relocating (some tyre) true).queueOk = true ∧
      (relocating (some tyre) true).tableOk = true ∧ (relocating (some tyre) true).setupOk = true ∧
      (∀ e ∈ (relocating (some tyre) true).store.table, e.2.flipped = 0) ∧
      ((relocating (some tyre) true).recordAt 16).state = .empty ∧
      tyre.size ≤ (relocating (some tyre) true).values.rowClassOf 16 ∧
      (relocating (some tyre) true).values.carrierOf 16 ≠ (relocating (some tyre) true).faceCarrier ∧
      (relocating (some tyre) true).taskOn 16 = none := by
  decide

theorem test_meets_LoadTasksAreRelocated_rest :
    (dwelling .working [{ slot := 3, lit := true }] [] 0 (relocating (some tyre) true)).face.dwell.map Dwell.carrier = some 0 ∧
      (relocating none true).audit.relocations = [{ slot := 3, inboundId := 5, expected := none }] ∧
      ((relocating none true).recordAt 3).inbound = some 5 ∧
      (∀ e ∈ (relocating (some tyre) false).store.table, e.2.record.state ≠ .empty) ∧
      (relocating (some tyre) false).face.receiving = [batch 2 1] ∧
      (relocating (some tyre) false).control.log.length < 16 := by
  decide

/-! ### Audits and stops -/

def scanned (sweep : List Nat) (s : State) : State := auditing (fun a => { a with scans := [oneScan], sweep := sweep }) s

/-- An open dwell in SCANNING at the scanned carrier. -/
def scanDwell : State :=
  facing (fun f => { f with dwell := f.dwell.map fun d => { d with carrier := 2 } }) (dwelling .scanning [] [] 0 up)

theorem test_meets_AuditScanWorksTheScan :
    (scanned [2] up).isRunning = true ∧ (scanned [2] up).audit.scans = oneScan :: [] ∧ oneScan.carrier ∉ (scanned [1] up).audit.sweep ∧
      oneScan.carrier ∈ (scanned [2] up).audit.sweep ∧ oneScan.carrier ∈ (scanned [2, 3] up).audit.sweep ∧
      (∀ i : Fin 12, (up.face.image[i]).debounced = .unknown) ∧ (scanned [2] up).quiet ∧
      (scanned [2] up).tableOk = true ∧ (scanned [2] up).queueOk = true ∧
      (∀ e ∈ (scanned [2] up).store.table, e.2.flipped = 0) ∧
      oneScan.image.length = up.values.rows * up.values.columns ∧ oneScan.carrier < up.values.carriers ∧
      up.values.slots ≤ maxPositions ∧ up.control.log.length < 16 ∧
      (scanned [2] scanDwell).face.dwell.map Dwell.phase = some .scanning ∧
      (scanned [2] scanDwell).face.dwell.map Dwell.carrier = some oneScan.carrier ∧
      (∀ i : Fin 12, (scanDwell.face.image[i]).debounced = .absent ∧ oneScan.image[i.val]? = some false) := by
  unfold State.quiet; decide

/-- Carrier 2 with two PICK tasks, a LOAD and a RESTORE, all as the scan finds them, pocket 0 taken by the RESTORE. -/
def shelfScan : Scan := { oneScan with image := [true, true] ++ List.replicate 10 false }
def shelved : State :=
  let empty := (List.range 8).foldl (fun s i => booking (28 + i) SlotRecord.empty s) (ordered (lineOf 2 0 1) up)
  let stock := booking 24 (held .pickClaimed) (booking 25 (held .pickClaimed) (booking 26 (SlotRecord.reserved 5 tyre)
    (booking 27 (held .outbound) empty)))
  facing (fun f => { f with image := up.face.image, dwell := some {
      carrier := 2, phase := .scanning, due := [{ slot := 24, lit := false }], wrong := [], elapsed := 0, scan := [] } })
    (auditing (fun a => { a with scans := [shelfScan] })
      (queueing [task (.pick line0) 24 0, task (.pick line0) 25 0, task (.load 5) 26 0, task (.restore 0) 27 0]
        (pocketing (.entry { entryOf .restore .none none with line := none, slot := 27 }) (receivingWith [batch 1 1] stock))))

theorem test_meets_AuditScanWorksTheScan_lamps :
    shelved.isRunning = true ∧ shelved.audit.scans = shelfScan :: [] ∧ shelved.quiet ∧ shelved.tableOk = true ∧
      shelved.queueOk = true ∧ (∀ e ∈ shelved.store.table, e.2.flipped = 0) ∧
      (∀ i : Fin 12, (shelved.face.image[i]).debounced = .unknown) ∧ shelfScan.image.length = 12 ∧
      (∀ i : Fin 12, findingOf (shelved.recordAt (24 + i.val)) (shelfScan.image.getD i.val false) = none) ∧
      (after .auditScan shelved).face.dwell.map (fun d => (d.phase, d.due.map Due.slot)) = some (.working, [24, 25, 26, 27]) ∧
      ((List.range 5).map (after .auditScan shelved).slotLamp = [.steady, .off, .flash, .flash, .off]) ∧
      (after .auditScan shelved).assignedPocket 24 = some 1 ∧ (after .auditScan shelved).assignedPocket 25 = none ∧
      (after .auditScan shelved).planner.queue.map Task.state = [.waiting, .atFace, .atFace, .atFace] ∧
      (wrongAtFace [{ slot := 3, kind := .wrongPick }]).slotLamp 3 = .fast := by
  unfold State.quiet; decide +kernel

theorem test_meets_ComparisonFollowsTheTable :
    3 < maxPositions ∧ (Memory.get stocked.store.table 3).flipped = 0 ∧ stocked.tableOk = true ∧
      stocked.control.log.length < 16 ∧ stocked.taskOn 3 = none ∧ findingOf (stocked.recordAt 3) true = none ∧
      findingOf (stocked.recordAt 3) false = some ⟨(held .occupied).missing, some .phantom⟩ ∧
      findingOf (stocked.recordAt 5) false = some ⟨.empty, none⟩ := by decide

def pickable : State := controlling (fun c => { c with week := 12 }) stocked

theorem test_meets_BidsFollowTheArithmetic :
    pickable.lineAt line0 = some (lineOf 2 0 1) ∧ pickable.pickOffer (lineOf 2 0 1) = 3 :: [] ∧ up.lineAt line0 = none ∧
      up.pickOffer (lineOf 2 0 1) = [] ∧
      pickable.contests.offers.find? (fun o => decide (o.inboundId = 5)) = some (offer0 1 1) ∧
      pickable.storeOffer (offer0 1 1) = [4] ∧ up.storeOffer (offer0 1 1) = [] ∧
      up.contests.offers.find? (fun o => decide (o.inboundId = 5)) = none ∧ pickable.planningPosition = some 0 ∧
      State.reset.planningPosition = none := by
  decide +kernel

def planned (sweep : List Nat) (queue : List Task) (now : Timer) : State :=
  (queueing queue (auditing (fun a => { a with sweep := sweep }) up)).setTimer now

theorem test_meets_StopChoiceTakesTheFirstStep :
    (planned [3] [] 0).audit.sweep ≠ [] ∧ (planned [3] [] 0).candidates = [] ∧
      (planned [] [task (.restore 0) 30 120000, task (.restore 1) 40 0] 120000).candidates =
        [task (.restore 0) 30 120000] ++ task (.restore 1) 40 0 :: [] ∧
      (planned [] [task (.restore 0) 30 120000, task (.restore 1) 40 0] 120000).aged (task (.restore 1) 40 0) = true ∧
      (planned [] [task (.restore 0) 30 120000, task (.restore 1) 40 0] 120000).aged (task (.restore 0) 30 120000) = false ∧
      (planned [3] [task (.restore 0) 30 1] 0).planner.stopRun < (planned [3] [task (.restore 0) 30 1] 0).values.sweepEvery ∧
      (planned [3] [task (.restore 0) 30 1] 0).candidates ≠ [] := by decide

def parked (carrier : Nat) (s : State) : State := planning (fun p => { p with parkTarget := some carrier }) s

/-- The choice in IDLE: sent the shorter way round, held under HALT, SETTLED at once at the face, refused beyond N; a park target
at the face is cleared, and nothing is chosen with a stop in flight. -/
theorem test_meets_StopChoiceTakesTheFirstStep_sent :
    (free (planned [3] [] 0)).drive.state = .idle ∧ (free (planned [3] [] 0)).control.service = .inService ∧
      (free (planned [3] [] 0)).planner.inFlight = none ∧ (free (planned [3] [] 0)).face.dwell = none ∧
      (free (planned [3] [] 0)).quiet ∧ (free (planned [3] [] 0)).chooseStop = some { target := 3, kind := .sweep } ∧
      (after (.frameHeld .receiver) (free (planned [3] [] 0))).drive.state = .moving ∧
      (after (.frameHeld .receiver) (free (planned [35] [] 0))).drive.direction = .reverse ∧
      (after (.frameHeld .receiver) (free (planned [18] [] 0))).drive.direction = .forward ∧
      (after (.frameHeld .receiver) (halted (free (planned [3] [] 0)))).drive.state = .holding ∧
      ((after (.frameHeld .receiver) (planned [0] [] 0)).face.dwell.map Dwell.carrier = some 0) ∧
      (after (.frameHeld .receiver) (planned [36] [] 0)).planner.inFlight = none ∧
      (after (.frameHeld .receiver) (parked 0 up)).planner.parkTarget = none ∧
      (parked 0 up).chooseStop = none ∧
      (planning (fun p => { p with inFlight := some { target := 9, kind := .park } }) up).planner.inFlight ≠ none := by
  unfold State.quiet; decide +kernel

/-- In ACCEL from carrier 0 to carrier 9, A one count on; the same with a further task on a carrier, and with the AUDIT of a
carrier. -/
def bound (kind : StopKind) : State :=
  planning (fun p => { p with inFlight := some { target := 9, kind := kind } })
    (driving (fun d => { d with target := some 9, travel := 4607, position := 1 }) moving)
def withTask (carrier : Nat) (s : State) : State := queueing [task (.restore 0) (carrier * 12) 0] s
def retargeted (s t : State) : Option Stop := (State.settle s t).planner.inFlight
theorem test_meets_StopChoiceTakesTheFirstStep_retarget :
    (bound .nearest).drive.state = .moving ∧ (bound .nearest).face.dwell = none ∧ (bound .nearest).quiet ∧
      retargeted (bound .nearest) (withTask 4 (bound .nearest)) = some { target := 4, kind := .nearest } ∧
      retargeted (bound .nearest) (withTask 1 (bound .nearest)) = some { target := 9, kind := .nearest } ∧
      retargeted (bound .nearest) (withTask 9 (bound .nearest)) = some { target := 9, kind := .nearest } ∧
      retargeted (bound .aged) (withTask 4 (bound .aged)) = some { target := 9, kind := .aged } ∧
      retargeted (bound .park) (auditing (fun a => { a with sweep := [7, 5] }) (bound .park)) =
        some { target := 5, kind := .sweep } ∧
      retargeted (withTask 4 (bound .nearest)) (withTask 4 (bound .nearest)) = some { target := 9, kind := .nearest } ∧
      retargeted (driving (fun d => { d with phase := .decel }) (bound .nearest))
        (driving (fun d => { d with phase := .decel }) (withTask 4 (bound .nearest))) =
        some { target := 9, kind := .nearest } := by
  unfold State.quiet; decide +kernel

theorem test_ways_round :
    up.values.countsTo 18431 .forward 0 = 1 ∧ up.values.countsTo 1 .reverse 0 = 1 ∧ up.values.accelSpan 0 .forward = 512 ∧
      up.values.accelSpan 495 .forward = 17 ∧ up.values.accelSpan 496 .forward = 528 ∧ up.values.accelSpan 16 .reverse = 528 ∧
      up.values.accelSpan 17 .reverse = 17 ∧ up.values.accelSpan 0 .reverse = 512 := by decide

/-- The states above with their lines shown for 10 ms: only the timing and the timer differ. -/
theorem test_showing_is_timing_alone (i : FaceInput) (high : Bool) (now : Timer) (s : State) :
    (showing i high now s).face =
        { s.face with debounces := s.face.debounces.set i { line := some high, since := some 0 } } ∧
      (showing i high now s).drive = s.drive ∧ (showing i high now s).store = s.store ∧
      (showing i high now s).planner = s.planner ∧ (showing i high now s).lanes = s.lanes ∧
      (showing i high now s).contests = s.contests ∧ (showing i high now s).audit = s.audit ∧
      (showing i high now s).port = s.port ∧ (showing i high now s).control = s.control := ⟨rfl, rfl, rfl, rfl, rfl, rfl, rfl, rfl, rfl⟩

theorem test_meets_inputs_shown :
    (∀ x ∈ [some false, none], (showing (.pocket 0) true 10 (sensing x (pocketed .carried .none))).shownLong (.pocket 0) true) ∧
      (∀ x ∈ [some true, none], (showing (.pocket 0) false 10 (sensing x (pocketed .granted .none))).shownLong (.pocket 0) false) ∧
      (showing .done true 10 (atWork 0)).shownLong .done true ∧ (showing .done true 10 up).shownLong .done true ∧
      (showing .done false 10 up).shownLong .done false ∧
      (∀ high, (showing .arrival high 10 (receivingUp 0 [batch 2 1])).shownLong .arrival high ↔ high = true) ∧
      (showing .arrival true 10 up).shownLong .arrival true := by
  simp only [State.shownLong_iff]; decide

/-! ### One command of each family on a small state -/

theorem test_standby_keeps_the_store : (after .standby laidOut).power = .standby ∧ (after .standby laidOut).store = laidOut.store :=
  ⟨rfl, rfl⟩
theorem test_bus_error_counts_4 :
    (after (.busError .ack .transmitter) up).port.txErrors = 4 ∧ (after (.busError .ack .transmitter) up).port.stickyAck = true := by
  decide
theorem test_halt_sets_the_flag : (after .halt (handing halt30 up)).control.halt = true := by decide
theorem test_a_lower_bid_loses_the_record :
    (after .bid (handing lowBid (withRecord inWindow up))).contests.records.map Contest.state = [.lost] := by decide
theorem test_order_opens_its_bay :
    ((after .order (handing order30 syncedUp)).lane 0).bays[(0 : Fin 4)] = some { order := 8, lines := [lineOf 0 0 1] } := by
  decide +kernel
theorem test_encoder_count_wraps :
    (after (.encoderCount .reverse) up).drive.position = 18431 ∧ (after (.encoderCount .forward) up).drive.position = 1 := by
  decide
theorem test_encoder_count_moves_a_homing :
    (after (.encoderCount .forward) homing).drive.position = 1 ∧ (after (.encoderCount .reverse) homing).drive.position = 18431 := by
  decide
theorem test_supply_holds_for_2_ms :
    (after (.supplyLevelChange .warn 70) (filtering 1 up)).drive.warnBelow = false ∧
      (after (.supplyLevelChange .warn 70) (filtering 2 up)).drive.warnBelow = true := by decide
theorem test_restore_confirmed_leaves_no_task :
    (after (.scanCycle 8 1200 []) (restoreAtFace .outbound)).planner.queue = [] ∧
      (after (.scanCycle 8 1200 []) (restoreAtFace .outbound)).pocket 0 = .free := by decide +kernel
theorem test_corrupt_pick_gives_back_one :
    (after (.scanCycle 0 1200 []) (pickAtFace 2)).givenBack = [(line0, 1)] := by decide +kernel
theorem test_done_edge_closes_the_dwell :
    (after .doneEdge (showing .done true 10 (dwelling .working [] [] 0 up))).face.dwell = none ∧
      (after .doneEdge (showing .done true 9 (atWork 0))).taskList.map (fun x => x.2.2.2) = [0] ∧
      (after .doneEdge (showing .done true 10 (atWork 0))).taskList.map (fun x => x.2.2.2) = [1] := by decide +kernel

/-- A level of a line, with the time at which it is shown, taken from a debounced level STOP inactive. -/
def stopLevels (levels : List (Bool × Timer)) : FaceUnit :=
  (levels.foldl (fun s (l : Bool × Timer) => after (.stopLevelChange l.1) (s.setTimer l.2)) (free up)).face
theorem test_inputs_hold_for_10_ms :
    (stopLevels [(true, 0), (true, 9)]).stop = some false ∧ (stopLevels [(true, 0), (true, 10)]).stop = some true ∧
      (stopLevels [(true, 0), (false, 9), (true, 9), (true, 18)]).stop = some false ∧
      (stopLevels [(true, 0), (false, 9), (true, 9), (true, 19)]).stop = some true ∧
      (showing .stop true 10 (free up)).firstDue = some (.stopLevelChange true) := by decide +kernel
theorem test_a_missing_flag_faults_at_the_edge :
    (after (.indexEdge false) (missing 33)).drive.faultKind = some .positionLost ∧
      (after (.indexEdge false) (missing 32)).drive.faultKind = none ∧
      (after (.encoderCount .forward) (missing 40)).drive.faultKind = some .positionLost ∧
      (after (.encoderCount .forward) (missing 39)).drive.faultKind = none := by decide +kernel
theorem test_scan_cycles_are_5_ms_apart :
    (after (.scanCycle 1 0 []) ((after (.scanCycle 1 0 []) up).setTimer 4)).face.image[(0 : Fin 12)].run = 1 ∧
      (after (.scanCycle 1 0 []) ((after (.scanCycle 1 0 []) up).setTimer 5)).face.image[(0 : Fin 12)].run = 2 ∧
      ((after (.scanCycle 1 0 []) up).setTimer 5).firstDue = some (.scanCycle 1 0 []) := by decide +kernel
theorem test_rows_are_strobed_in_order :
    { up.values with rows := 2 }.strobeLevels =
        [#v[true, false, false], #v[false, false, false], #v[false, true, false], #v[false, false, false]] ∧
      up.scanStrobes.length = 2 * up.values.rows ∧ moving.scanStrobes = [] ∧
      { up.values with rows := 3, columns := 4 }.sampleAt 64 6 = true := by decide

/-- Carrier 0 at the face with its LOAD task lit, the lamp of slot 3 so many milliseconds into its second. -/
def blinking (ms : Nat) : State := facing (fun f => { f with blink := Vector.replicate 12 ms }) (loadAtFace 0)
theorem test_lamp_lines_blink :
    (blinking 499).slotLamp 3 = .flash ∧ (blinking 499).lampOn 3 = true ∧ (blinking 499).tick.lampOn 3 = false ∧
      (blinking 999).lampOn 3 = false ∧ (blinking 999).tick.lampOn 3 = true ∧ (blinking 499).lampOn 4 = false ∧
      (List.range 250).countP (fun b => Lamp.lineOn .fast b) = 125 := by decide +kernel
def activeLowDone : State :=
  controlling (fun c => { c with settled := { c.settled with activeLow := { c.settled.activeLow with done := true } } }) up
theorem test_done_polarity :
    up.doneCommand true = .doneEdge ∧ up.doneCommand false = .doneRelease ∧ activeLowDone.doneCommand true = .doneRelease ∧
      activeLowDone.doneCommand false = .doneEdge := by decide
theorem test_audit_scan_leaves_the_list : (after .auditScan (scanned [1] up)).audit.scans = [] := by decide +kernel
theorem test_sent_and_read_back :
    readCoded (codedBits (intent 1)) = .frame (intent 1) ∧ readCoded (codedBits halt30) = .frame halt30 := by decide +kernel

theorem test_a_later_intent_leaves_the_earlier_one :
    (after (.pocketSenseChange 0 false) (showing (.pocket 0) false 10 twoIntents)).port.tx =
        [queued (intent 1), queued reportFrame] ∧
      (after (.pocketSenseChange 1 false) (showing (.pocket 1) false 10 (facing (fun f => { f with
        pocketSense := #v[some true, some true] }) twoIntents))).port.tx = [queued reportFrame, queued (intent 1)] := by
  decide +kernel

/-- Turned back at an index position and passed it the other way; passed it; come back to it after passing it. -/
def turning (a : Nat) (dirs : List Direction) : List (Nat × Direction) :=
  (dirs.foldl State.countPosition (standing a up)).drive.expectations
theorem test_only_passing_expects_an_edge :
    turning 511 [.forward, .reverse] = [] ∧ turning 511 [.forward, .forward] = [(1, .forward)] ∧
      turning 511 [.forward, .forward, .reverse, .forward] = [(1, .forward)] ∧
      turning 511 [.forward, .forward, .reverse, .reverse] = [(1, .reverse)] ∧
      ((standing 512 up).realign.countPosition .forward).drive.expectations = [] := by decide

/-- A SETUP whose WARN level goes up to 95 while SUPPLY_SENSE is held at 90. -/
def raised : State :=
  driving (fun d => { d with warnFilter := ⟨90, none⟩, cutFilter := ⟨90, none⟩ })
    (controlling (fun c => { c with received := { c.received with warnLevel := 95 } }) State.reset)
theorem test_setup_end_compares_anew :
    (after .setupEnd (handing setupEnd30 raised)).drive.warnFilter = ⟨90, some 0⟩ ∧
      (after .setupEnd (handing setupEnd30 raised)).drive.cutFilter = ⟨90, none⟩ := by decide +kernel

theorem test_a_moved_task_is_no_new_candidate :
    State.newTargets (queueing [task (.restore 0) 30 0] up) (queueing [{ task (.restore 0) 30 0 with slot := 40 }] up) = [] ∧
      State.newTargets up (queueing [task (.restore 0) 30 0] up) = [{ target := 2, kind := .nearest }] := by decide

theorem test_the_load_pin_is_read_most_significant_first :
    (loadPinSamples 32769#16).head? = some true ∧ loadPinReading (loadPinSamples 32769#16) = 32769 ∧
      loadPinReading (true :: List.replicate 15 false) = 32768 ∧ loadPinClkLevels.length = 32 := by decide

end Sys2Proof.Tests
end

section
/-! SUPPORT. The ledger of a state: the slot records and the stock data, inbound ids and tasks that a write can take into one
(R2, R3). It is what `State.stockOk` judges; most operations leave it alone, said once for each. -/

namespace Sys2Proof.Machine

/-! ### The ledger and its legality -/

/-- The retained table with everything whose stock data or inbound id can come into a slot record. Of a task only its work
counts. -/
structure Ledger where
  table : List (Nat × Cell)
  offers : List Offer
  records : List Contest
  computing : Option Computation
  considering : List RoundOpen
  works : List TaskWork
  relocations : List Relocation

def State.ledger (s : State) : Ledger :=
  { table := s.store.table, offers := s.contests.offers, records := s.contests.records,
    computing := s.contests.computing, considering := s.contests.considering,
    works := s.planner.queue.map Task.work, relocations := s.audit.relocations }

/-- Every record of a table is legal (R3). -/
def Memory.Legal (table : List (Nat × Cell)) : Prop := ∀ e ∈ table, e.2.record.legal = true

/-- Stock data that may be absent lies within the ranges of R2. -/
def DataLegal (data : Option StockData) : Prop := ∀ d, data = some d → stockInRange d = true

def Offer.Legal (o : Offer) : Prop := o.inboundId ≤ 65535 ∧ stockInRange o.stock = true

def Contest.Legal (c : Contest) : Prop := c.ref.inRange = true ∧ DataLegal c.offered

def Relocation.Legal (r : Relocation) : Prop := r.inboundId ≤ 65535 ∧ DataLegal r.expected

/-- Every part of a ledger within R2 and R3. -/
structure Ledger.Legal (l : Ledger) : Prop where
  table : Memory.Legal l.table
  offers : ∀ o ∈ l.offers, o.Legal
  records : ∀ c ∈ l.records, c.Legal
  computing : ∀ c, l.computing = some c → c.opening.ref.inRange = true
  considering : ∀ o ∈ l.considering, o.ref.inRange = true
  works : ∀ w ∈ l.works, w.inRange = true
  relocations : ∀ r ∈ l.relocations, r.Legal

/-- The law of slot records is the legality of the ledger. -/
theorem State.stockOk_iff (s : State) : s.stockOk = true ↔ s.ledger.Legal := by
  have hd : ∀ o : Option StockData, o.all stockInRange = true ↔ DataLegal o := by
    intro o; cases o <;> simp [DataLegal]
  have hc : ∀ o : Option Computation, (o.all fun c => c.opening.ref.inRange) = true ↔
      ∀ c, o = some c → c.opening.ref.inRange = true := by
    intro o; cases o <;> simp
  unfold State.stockOk
  simp only [Bool.and_eq_true, List.all_eq_true, decide_eq_true_eq, hd, hc]
  constructor
  · rintro ⟨⟨⟨⟨⟨⟨table, offers⟩, records⟩, computing⟩, considering⟩, works⟩, relocations⟩
    exact ⟨table, offers, records, computing, considering, by simpa [State.ledger] using works, relocations⟩
  · rintro ⟨table, offers, records, computing, considering, works, relocations⟩
    have hworks : ∀ t ∈ s.planner.queue, t.work.inRange = true := by simpa [State.ledger] using works
    exact ⟨⟨⟨⟨⟨⟨table, offers⟩, records⟩, computing⟩, considering⟩, hworks⟩, relocations⟩

/-- The work, the records and the offers of a state give its ledger. -/
theorem State.ledger_of_work {s t : State} (hw : t.work = s.work) (hr : t.contests.records = s.contests.records)
    (ho : t.contests.offers = s.contests.offers) : t.ledger = s.ledger := by
  have htable : t.store.table = s.store.table := congrArg (fun w : Work => w.store.table) hw
  have hcomputing : t.contests.computing = s.contests.computing := congrArg Work.computing hw
  have hconsidering : t.contests.considering = s.contests.considering := congrArg Work.considering hw
  have hrelocations : t.audit.relocations = s.audit.relocations := congrArg Work.relocations hw
  have hworks : t.planner.queue.map Task.work = s.planner.queue.map Task.work := by
    have h := congrArg (fun w : Work => w.tasks.map Prod.fst) hw
    simpa [State.work, Function.comp_def] using h
  unfold State.ledger
  rw [htable, hr, ho, hcomputing, hconsidering, hworks, hrelocations]

/-- A fold of operations that leave the ledger alone leaves it alone. -/
theorem foldl_ledger {α : Type} (f : State → α → State) (h : ∀ s x, (f s x).ledger = s.ledger) (xs : List α)
    (s : State) : (xs.foldl f s).ledger = s.ledger := by
  induction xs generalizing s with
  | nil => rfl
  | cons x rest ih => exact (ih (f s x)).trans (h s x)

/-- A fold of operations that keep the ledger legal keeps it legal. -/
theorem foldl_legal {α : Type} {f : State → α → State} (hf : ∀ s x, s.ledger.Legal → (f s x).ledger.Legal)
    (xs : List α) {s : State} (h : s.ledger.Legal) : (xs.foldl f s).ledger.Legal := by
  induction xs generalizing s with
  | nil => exact h
  | cons x rest ih => exact ih (hf s x h)

/-! ### Setters -/

section
variable (s : State)
@[simp] theorem State.setDrive_ledger (x : Drive) : (s.setDrive x).ledger = s.ledger := rfl
@[simp] theorem State.setFace_ledger (x : FaceUnit) : (s.setFace x).ledger = s.ledger := rfl
@[simp] theorem State.setLanes_ledger (x : LaneTracker) : (s.setLanes x).ledger = s.ledger := rfl
@[simp] theorem State.setPort_ledger (x : BusPort) : (s.setPort x).ledger = s.ledger := rfl
@[simp] theorem State.setControl_ledger (x : StationControl) : (s.setControl x).ledger = s.ledger := rfl
end

/-! ### Reports, frames and flags -/

@[simp] theorem State.countLost_ledger (s : State) : s.countLost.ledger = s.ledger := rfl

@[simp] theorem State.writeReport_ledger (s : State) (b : ReportBody) : (s.writeReport b).ledger = s.ledger := by
  unfold State.writeReport; split <;> rfl

@[simp] theorem State.queueFrame_ledger (s : State) (f : Frame) : (s.queueFrame f).ledger = s.ledger := rfl

@[simp] theorem State.setPendingFlag_ledger (s : State) : s.setPendingFlag.ledger = s.ledger := rfl

@[simp] theorem State.holdReading_ledger (s : State) (l : SupplyLevel) (n : Nat) :
    (s.holdReading l n).ledger = s.ledger := rfl

@[simp] theorem State.offerReport_ledger (s : State) : s.offerReport.ledger = s.ledger :=
  State.ledger_of_work s.offerReport_work (congrArg _ s.offerReport_drive.2) (congrArg _ s.offerReport_drive.2)

@[simp] theorem State.queueRelinquish_ledger (s : State) : s.queueRelinquish.ledger = s.ledger :=
  State.ledger_of_work s.queueRelinquish_work s.queueRelinquish_drive.2.1 s.queueRelinquish_drive.2.2

@[simp] theorem State.reportShort_ledger (s : State) (id n : Nat) (c : ShortCause) (r : Option Receiving) :
    (s.reportShort id n c r).ledger = s.ledger := by
  unfold State.reportShort; split <;> simp

/-! ### Lanes, lines and pockets -/

@[simp] theorem State.setLane_ledger (s : State) (l : Fin 8) (x : Lane) : (s.setLane l x).ledger = s.ledger := rfl

@[simp] theorem State.updateLine_ledger (s : State) (l : LineRef) (f : OrderLine → OrderLine) :
    (s.updateLine l f).ledger = s.ledger := by
  unfold State.updateLine
  split
  · rfl
  · split <;> rfl

@[simp] theorem State.addRelinquish_ledger (s : State) (line : LineRef) (q : Nat) :
    (s.addRelinquish line q).ledger = s.ledger := by
  have h := State.updateLine_ledger s line (fun l => { l with ownClaim := l.ownClaim - q })
  unfold State.addRelinquish
  simp only
  split
  · exact h
  · split <;> exact h

@[simp] theorem State.relinquishSome_ledger (s : State) (line : LineRef) (q : Nat) :
    (s.relinquishSome line q).ledger = s.ledger := by
  unfold State.relinquishSome; split <;> simp

@[simp] theorem State.setPocket_ledger (s : State) (p : Fin 2) (x : Pocket) : (s.setPocket p x).ledger = s.ledger := rfl

@[simp] theorem State.setEntry_ledger (s : State) (p : Fin 2) (e : PocketEntry) : (s.setEntry p e).ledger = s.ledger := rfl

@[simp] theorem State.freeAssigned_ledger (s : State) (slot : Nat) : (s.freeAssigned slot).ledger = s.ledger := by
  unfold State.freeAssigned; split <;> rfl

@[simp] theorem State.queueIntent_ledger (s : State) (p : Fin 2) : (s.queueIntent p).ledger = s.ledger := by
  unfold State.queueIntent
  split
  · rfl
  · rfl
  · split
    · rfl
    · split <;> rfl

@[simp] theorem State.withdrawIntent_ledger (s : State) (p : Fin 2) : (s.withdrawIntent p).ledger = s.ledger := by
  unfold State.withdrawIntent
  split
  · rfl
  · rfl
  · split
    · rfl
    · split <;> rfl

@[simp] theorem State.becomeForeign_ledger (s : State) (p : Fin 2) : (s.becomeForeign p).ledger = s.ledger := by
  unfold State.becomeForeign; simp

@[simp] theorem State.loadEntry_ledger (s : State) (p : Fin 2) (e : PocketEntry) : (s.loadEntry p e).ledger = s.ledger := by
  unfold State.loadEntry; simp

@[simp] theorem State.freeRestore_ledger (s : State) (p : Fin 2) : (s.freeRestore p).ledger = s.ledger := by
  unfold State.freeRestore
  split
  · rfl
  · split <;> simp

@[simp] theorem State.resendRefused_ledger (s : State) (lane : Fin 8) : (s.resendRefused lane).ledger = s.ledger := by
  apply foldl_ledger
  intro t p
  split
  · rfl
  · split
    · rfl
    · split <;> simp

@[simp] theorem State.dropIntents_ledger (s : State) : s.dropIntents.ledger = s.ledger := by
  apply foldl_ledger
  intro t p
  split
  · rfl
  · split <;> rfl

@[simp] theorem State.intentStarted_ledger (s : State) (line : LineRef) : (s.intentStarted line).ledger = s.ledger := by
  unfold State.intentStarted; split <;> rfl

@[simp] theorem State.freeBay_ledger (s : State) (lane : Fin 8) (bay : Fin 4) : (s.freeBay lane bay).ledger = s.ledger := by
  unfold State.freeBay; split <;> rfl

@[simp] theorem State.giveBackLine_ledger (s : State) (line : LineRef) : (s.giveBackLine line).ledger = s.ledger := by
  unfold State.giveBackLine; split <;> simp

@[simp] theorem State.applyClaim_ledger (s : State) (line : LineRef) (k : Nat) (own : Bool) :
    (s.applyClaim line k own).state.ledger = s.ledger := by
  unfold State.applyClaim; split <;> simp

@[simp] theorem State.applyRelinquish_ledger (s : State) (line : LineRef) (q : Nat) :
    (s.applyRelinquish line q).state.ledger = s.ledger := by
  unfold State.applyRelinquish; split <;> simp

@[simp] theorem State.countGrant_ledger (s : State) (line : LineRef) : (s.countGrant line).ledger = s.ledger := by
  unfold State.countGrant; simp

@[simp] theorem State.relinquishGone_ledger (s : State) : s.relinquishGone.ledger = s.ledger := by
  unfold State.relinquishGone
  split
  · rfl
  · split <;> rfl

@[simp] theorem State.pocketFilled_ledger (s : State) (p : Fin 2) : (s.pocketFilled p).ledger = s.ledger := by
  unfold State.pocketFilled
  simp only
  split
  · split_ifs <;> simp
  · split_ifs <;> simp
  · simp
  · simp
  · rfl

@[simp] theorem State.setSense_ledger (s : State) (p : Fin 2) (b : Bool) : (s.setSense p b).ledger = s.ledger := rfl

@[simp] theorem State.pocketAdopted_ledger (s : State) (p : Fin 2) (b : Bool) : (s.pocketAdopted p b).ledger = s.ledger := by
  unfold State.pocketAdopted; split <;> simp

@[simp] theorem State.jamPocket_ledger (s : State) (p : Fin 2) : (s.jamPocket p).ledger = s.ledger := by
  unfold State.jamPocket
  split
  · split <;> rfl
  · rfl

/-! ### The tasks' states, the dwell and the receiving list -/

/-- A change of a task that keeps its work leaves the ledger alone. -/
theorem State.updateTask_ledger (s : State) (slot : Nat) {f : Task → Task} (h : ∀ t, (f t).work = t.work) :
    (s.updateTask slot f).ledger = s.ledger := by
  have hworks : (s.updateTask slot f).planner.queue.map Task.work = s.planner.queue.map Task.work := by
    unfold State.updateTask
    simp only [State.setPlanner_planner, List.map_map]
    apply List.map_congr_left
    intro t _
    simp only [Function.comp]
    split
    · exact h t
    · rfl
  exact congrArg (fun w => { s.ledger with works := w }) hworks

@[simp] theorem State.setDwell_ledger (s : State) (d : Option Dwell) : (s.setDwell d).ledger = s.ledger := rfl

@[simp] theorem State.dropDue_ledger (s : State) (slot : Nat) : (s.dropDue slot).ledger = s.ledger := by
  unfold State.dropDue; split <;> rfl

@[simp] theorem State.testCompletion_ledger (s : State) : s.testCompletion.ledger = s.ledger :=
  State.ledger_of_work s.testCompletion_work (congrArg Outer.records s.testCompletion_outer)
    (congrArg Outer.offers s.testCompletion_outer)

@[simp] theorem State.refreshDwell_ledger (s : State) : s.refreshDwell.ledger = s.ledger :=
  State.ledger_of_work s.refreshDwell_work (congrArg Outer.records s.refreshDwell_outer)
    (congrArg Outer.offers s.refreshDwell_outer)

@[simp] theorem State.settledAt_ledger (s : State) (c : Nat) : (s.settledAt c).ledger = s.ledger := by
  obtain ⟨_, _, hcontests, _⟩ := s.settledAt_parts c
  exact State.ledger_of_work (s.settledAt_work c) (congrArg _ hcontests) (congrArg _ hcontests)

@[simp] theorem State.deferTask_ledger (s : State) (t : Task) : (s.deferTask t).ledger = s.ledger := by
  have h := s.updateTask_ledger t.slot (f := Task.deferred) (fun _ => rfl)
  unfold State.deferTask
  simp only
  split <;> simp [h]

@[simp] theorem State.endDwell_ledger (s : State) : s.endDwell.ledger = s.ledger := by
  unfold State.endDwell
  split
  · rfl
  · simp only [State.setDwell_ledger]
    unfold State.deferDue State.freeDuePockets
    rw [foldl_ledger _ State.deferTask_ledger, foldl_ledger _ (fun t (d : Due) => State.freeAssigned_ledger t d.slot)]

@[simp] theorem State.dropMoved_ledger (s : State) (due : List Due) : (s.dropMoved due).ledger = s.ledger := by
  unfold State.dropMoved
  split
  · rfl
  · apply foldl_ledger
    intro t x
    rw [State.dropDue_ledger, t.updateTask_ledger x.slot (f := Task.waits) (fun _ => rfl)]

@[simp] theorem State.moveTask_ledger (s : State) (old new : Nat) : (s.moveTask old new).ledger = s.ledger := by
  have hmoved := s.updateTask_ledger old (f := fun t => { t with slot := new }) (fun _ => rfl)
  have hwaits := s.updateTask_ledger old (f := fun t => { t with slot := new, state := .waiting }) (fun _ => rfl)
  unfold State.moveTask
  split
  · exact hmoved
  · split
    · split
      · exact hmoved
      · simpa using hwaits
    · exact hmoved

@[simp] theorem State.addWrong_ledger (s : State) (slot : Nat) (b : Bool) : (s.addWrong slot b).ledger = s.ledger := by
  unfold State.addWrong; split <;> rfl

@[simp] theorem State.dropWrong_ledger (s : State) (slot : Nat) : (s.dropWrong slot).ledger = s.ledger := by
  unfold State.dropWrong; split <;> rfl

@[simp] theorem State.freeReceived_ledger (s : State) : s.freeReceived.ledger = s.ledger := rfl

@[simp] theorem State.updateReceiving_ledger (s : State) (id : Nat) (f : Receiving → Receiving) :
    (s.updateReceiving id f).ledger = s.ledger := rfl

@[simp] theorem State.reportFailed_ledger (s : State) (id n : Nat) : (s.reportFailed id n).ledger = s.ledger := by
  unfold State.reportFailed; split <;> simp

@[simp] theorem State.askReceiving_ledger (s : State) (id n : Nat) (stamp : Timer) :
    (s.askReceiving id n stamp).ledger = s.ledger := by
  unfold State.askReceiving
  simp only
  split
  · rfl
  · split <;> rfl

@[simp] theorem State.delivered_ledger (s : State) : s.delivered.ledger = s.ledger := by
  unfold State.delivered; split <;> simp

@[simp] theorem State.arrivalLevel_ledger (s : State) (b : Bool) : (s.arrivalLevel b).ledger = s.ledger := by
  unfold State.arrivalLevel
  simp only
  split <;> simp

@[simp] theorem State.settleCycle_ledger (s : State) (pin : BitVec 16) : (s.settleCycle pin).ledger = s.ledger := by
  unfold State.settleCycle
  split
  · rfl
  · simp only; split <;> rfl

@[simp] theorem State.tick_ledger (s : State) : s.tick.ledger = s.ledger := by
  unfold State.tick
  simp only
  split
  · rfl
  · split <;> rfl

/-! ### The audit's marks and counters -/

@[simp] theorem State.weigh_ledger (s : State) (scan : Scan) (b : Bool) : (s.weigh scan b).1.ledger = s.ledger := by
  have hmark : ∀ m, (s.setMark scan.carrier m).ledger = s.ledger := fun _ => rfl
  unfold State.weigh
  simp only
  split_ifs <;> simp [hmark]

@[simp] theorem State.sweepOff_ledger (s : State) (c n : Nat) : (s.sweepOff c n).ledger = s.ledger := by
  unfold State.sweepOff
  simp only
  split
  · simp only [State.writeReport_ledger]; rfl
  · rfl

@[simp] theorem State.countStop_ledger (s : State) (a b : Bool) : (s.countStop a b).ledger = s.ledger := rfl

@[simp] theorem State.takeAudit_ledger (s : State) (a b : Nat) : (s.takeAudit a b).ledger = s.ledger := by
  unfold State.takeAudit; split <;> rfl

@[simp] theorem State.takePark_ledger (s : State) (c : Nat) : (s.takePark c).ledger = s.ledger := by
  unfold State.takePark; split <;> rfl

/-! ### The drive -/

@[simp] theorem State.turnHoming_ledger (s : State) : s.turnHoming.ledger = s.ledger := rfl

@[simp] theorem State.startHoming_ledger (s : State) : s.startHoming.ledger = s.ledger := by
  unfold State.startHoming
  split
  · simp only; split <;> rfl
  · rfl

@[simp] theorem State.holdIfTurning_ledger (s : State) : s.holdIfTurning.ledger = s.ledger := by
  unfold State.holdIfTurning
  split
  · split
    case h_2 => split <;> rfl
    all_goals rfl
  · rfl

@[simp] theorem State.resumeMove_ledger (s : State) : s.resumeMove.ledger = s.ledger := by
  unfold State.resumeMove; split_ifs <;> rfl

@[simp] theorem State.tryResume_ledger (s : State) : s.tryResume.ledger = s.ledger := by
  unfold State.tryResume
  split
  · split <;> simp
  · rfl

@[simp] theorem State.driveCount_ledger (s : State) (dir : Direction) : (s.driveCount dir).1.ledger = s.ledger := by
  unfold State.driveCount
  split
  case h_3 => split <;> rfl
  case h_7 => split <;> rfl
  all_goals rfl

@[simp] theorem State.edgeKnown_ledger (s : State) (flag : Bool) : (s.edgeKnown flag).1.ledger = s.ledger := by
  unfold State.edgeKnown
  simp only
  split_ifs <;> rfl

@[simp] theorem State.edgeHoming_ledger (s : State) (flag : Bool) : (s.edgeHoming flag).1.ledger = s.ledger := by
  unfold State.edgeHoming
  simp only
  split_ifs <;> rfl

@[simp] theorem State.driveEdge_ledger (s : State) (flag : Bool) : (s.driveEdge flag).1.ledger = s.ledger := by
  unfold State.driveEdge; split_ifs <;> simp

@[simp] theorem State.homed_ledger (s : State) : s.homed.ledger = s.ledger := by
  unfold State.homed
  simp only
  split <;> rfl

@[simp] theorem State.warnLevel_ledger (s : State) (b : Bool) : (s.warnLevel b).ledger = s.ledger := by
  unfold State.warnLevel
  simp only
  split_ifs <;> rfl

@[simp] theorem State.cutLevel_ledger (s : State) (b : Bool) : (s.cutLevel b).ledger = s.ledger := by
  unfold State.cutLevel
  simp only
  split_ifs <;> simp

@[simp] theorem State.supplyLevel_ledger (s : State) (l : SupplyLevel) (n : Nat) : (s.supplyLevel l n).ledger = s.ledger := by
  unfold State.supplyLevel State.liveLevel
  split
  · split <;> simp
  · simp

@[simp] theorem State.stopLevel_ledger (s : State) (b : Bool) : (s.stopLevel b).ledger = s.ledger := by
  unfold State.stopLevel
  simp only
  split <;> simp

@[simp] theorem State.curtainLevel_ledger (s : State) (b : Bool) : (s.curtainLevel b).ledger = s.ledger := by
  unfold State.curtainLevel
  simp only
  split_ifs <;> simp

/-! ### Station Control -/

@[simp] theorem State.setHalt_ledger (s : State) : s.setHalt.ledger = s.ledger := by
  unfold State.setHalt
  split
  · rfl
  · rw [foldl_ledger _ State.withdrawIntent_ledger]; simp

@[simp] theorem State.clearHalt_ledger (s : State) : s.clearHalt.ledger = s.ledger := by
  unfold State.clearHalt
  split
  · rw [foldl_ledger _ State.queueIntent_ledger]; simp
  · rfl

@[simp] theorem State.endJoining_ledger (s : State) : s.endJoining.ledger = s.ledger := by
  unfold State.endJoining; simp

/-! ### The port and the frames of the contest records -/

@[simp] theorem State.changeContender_ledger (s : State) (f : TxFrame → TxFrame) :
    (s.changeContender f).ledger = s.ledger := by
  unfold State.changeContender
  split
  · rfl
  · split <;> rfl

@[simp] theorem State.removeContender_ledger (s : State) : s.removeContender.ledger = s.ledger := by
  unfold State.removeContender; split <;> rfl

@[simp] theorem State.recover_ledger (s : State) (bits : Nat) : (s.recover bits).ledger = s.ledger := by
  unfold State.recover
  simp only
  split <;> rfl

@[simp] theorem State.enqueue_ledger (s : State) (f : Frame) : (s.enqueue f).ledger = s.ledger := by
  unfold State.enqueue; split <;> rfl

@[simp] theorem State.withdrawBid_ledger (s : State) (c : Contest) : (s.withdrawBid c).ledger = s.ledger := by
  unfold State.withdrawBid; split <;> rfl

@[simp] theorem State.withdrawClaim_ledger (s : State) (c : Contest) : (s.withdrawClaim c).ledger = s.ledger := by
  unfold State.withdrawClaim; split <;> rfl

@[simp] theorem State.withdrawOwn_ledger (s : State) (c : Contest) : (s.withdrawOwn c).ledger = s.ledger := by
  unfold State.withdrawOwn; simp

/-! ### The end of a step -/

/-- After the relocations and the rounds, the end of a step leaves the ledger alone. -/
theorem State.settle_ledger (before s : State) :
    (State.settle before s).ledger = s.relocateAll.considerRounds.ledger := by
  have hwork : (State.settle before s).work = s.relocateAll.considerRounds.work := by
    unfold State.settle
    simp only [State.offerRest_work, State.releaseHead_work, State.noteNews_work, State.takeLamps_work,
      State.suspendScan_work, State.plan_work, State.testCompletion_work, State.refreshDwell_work]
  have hrounds := s.relocateAll.considerRounds_outer
  rw [State.relocateAll_outer] at hrounds
  exact State.ledger_of_work hwork ((State.settle_records before s).trans (congrArg Outer.records hrounds).symm)
    ((State.settle_offers before s).trans (congrArg Outer.offers hrounds).symm)

end Sys2Proof.Machine
end

section
/-! SUPPORT. Legal slot records (R2, R3), and that every operation on the records, the tasks and the contests keeps the ledger
legal. -/

namespace Sys2Proof.Machine

/-! ### Legal records (R3) -/

theorem SlotRecord.legal_iff (r : SlotRecord) :
    r.legal = true ↔ r.stock.isSome = carriesStock r.state r.reason ∧ r.reason.isSome = decide (r.state = .suspect) ∧
      r.inbound.isSome = decide (r.state = .reservedIn) ∧ DataLegal r.stock ∧ r.inbound.getD 0 ≤ 65535 := by
  obtain ⟨state, stock, reason, inbound⟩ := r
  cases stock <;> simp [SlotRecord.legal, DataLegal, and_assoc]

@[simp] theorem DataLegal_none : DataLegal none := by simp [DataLegal]

theorem SlotRecord.legal_stock {r : SlotRecord} (h : r.legal = true) : DataLegal r.stock :=
  (r.legal_iff.1 h).2.2.2.1

/-- A legal record whose state always carries stock data has it. -/
theorem SlotRecord.legal_carries {r : SlotRecord} (h : r.legal = true) (hc : carriesStock r.state r.reason = true) :
    r.stock.isSome = true := (r.legal_iff.1 h).1.trans hc

theorem SlotRecord.reserved_legal {id : Nat} {d : StockData} (hid : id ≤ 65535) (hd : stockInRange d = true) :
    (SlotRecord.reserved id d).legal = true := by
  simp [SlotRecord.legal_iff, SlotRecord.reserved, carriesStock, DataLegal, hid, hd]

/-- The record keeps its stock data in OCCUPIED, PICK_CLAIMED or OUTBOUND. -/
theorem SlotRecord.keeping_legal {state : SlotState} {r : SlotRecord} (h : r.legal = true) (hs : r.stock.isSome = true)
    (ht : state = .occupied ∨ state = .pickClaimed ∨ state = .outbound) : (SlotRecord.keeping state r).legal = true := by
  have hd := SlotRecord.legal_stock h
  rcases ht with rfl | rfl | rfl <;> simp [SlotRecord.legal_iff, SlotRecord.keeping, carriesStock, hs, hd]

theorem SlotRecord.missing_legal {r : SlotRecord} (h : r.legal = true) (hs : r.stock.isSome = true) :
    r.missing.legal = true := by
  simp [SlotRecord.legal_iff, SlotRecord.missing, carriesStock, hs, SlotRecord.legal_stock h]

theorem SlotRecord.atRest_legal {r : SlotRecord} (h : r.legal = true) : r.atRest.legal = true := by
  unfold SlotRecord.atRest
  split
  · rename_i hs
    exact SlotRecord.keeping_legal h (SlotRecord.legal_carries h (by rw [hs]; rfl)) (.inl rfl)
  · rfl
  · rename_i hs
    exact SlotRecord.missing_legal h (SlotRecord.legal_carries h (by rw [hs]; rfl))
  all_goals exact h

/-- What the comparison of R144 writes is legal. -/
theorem findingOf_legal {r : SlotRecord} {present : Bool} {f : Finding} (h : r.legal = true)
    (hf : findingOf r present = some f) : f.new.legal = true := by
  unfold findingOf at hf
  split at hf
  case h_3 hs | h_5 hs =>
    obtain rfl := Option.some.inj hf
    exact SlotRecord.missing_legal h (SlotRecord.legal_carries h (by rw [hs]; rfl))
  case h_11 =>
    split at hf
    · obtain rfl := Option.some.inj hf
      split <;> rfl
    · cases hf
  case h_1 | h_7 | h_9 =>
    obtain rfl := Option.some.inj hf
    rfl
  all_goals cases hf

/-- The state part of an ADJUST leaves a legal record legal (R14). -/
theorem adjustState_legal {target : AdjustTarget} {data : Option StockData} {r : SlotRecord} (h : r.legal = true)
    (hd : DataLegal data) : (adjustState target data r).1.legal = true := by
  unfold adjustState
  cases target with
  | noChange => exact h
  | empty => rfl
  | retired => rfl
  | occupied =>
    cases data with
    | none =>
      simp only
      split
      · exact SlotRecord.keeping_legal h (by assumption) (.inl rfl)
      · exact h
    | some d => simpa [SlotRecord.legal_iff, carriesStock] using hd

/-- The data part of an ADJUST leaves a legal record legal (R15). -/
theorem adjustData_legal {data : Option StockData} {r : SlotRecord} (h : r.legal = true) (hd : DataLegal data) :
    (adjustData data r).1.legal = true := by
  unfold adjustData
  cases data with
  | none => exact h
  | some d =>
    simp only
    split
    · rename_i hc
      obtain ⟨_, hreason, hinbound, _, hid⟩ := r.legal_iff.1 h
      exact (SlotRecord.legal_iff _).2 ⟨hc.symm, hreason, hinbound, hd, hid⟩
    · exact h

/-! ### The retained table -/

theorem Memory.get_legal {table : List (Nat × Cell)} (h : Memory.Legal table) (n : Nat) :
    (Memory.get table n).record.legal = true := by
  induction table with
  | nil => rfl
  | cons e rest ih =>
    obtain ⟨k, c⟩ := e
    obtain ⟨hc, hrest⟩ := List.forall_mem_cons.1 h
    unfold Memory.get
    split
    · exact hc
    · exact ih hrest

theorem Memory.set_legal {table : List (Nat × Cell)} (h : Memory.Legal table) (p : Nat) {c : Cell}
    (hc : c.record.legal = true) : Memory.Legal (Memory.set p c table) := by
  induction table with
  | nil =>
    unfold Memory.set
    split
    · exact h
    · exact List.forall_mem_cons.2 ⟨hc, h⟩
  | cons e rest ih =>
    obtain ⟨k, d⟩ := e
    obtain ⟨hd, hrest⟩ := List.forall_mem_cons.1 h
    unfold Memory.set
    split_ifs
    · exact h
    · exact List.forall_mem_cons.2 ⟨hc, h⟩
    · exact hrest
    · exact List.forall_mem_cons.2 ⟨hc, hrest⟩
    · exact List.forall_mem_cons.2 ⟨hd, ih hrest⟩

theorem StockStore.flipped_legal {st : StockStore} (h : Memory.Legal st.table) (flips : List (Fin 512)) :
    Memory.Legal (st.flipped flips).table := by
  unfold StockStore.flipped
  simp only
  generalize st.table = table at h
  induction flips generalizing table with
  | nil => exact h
  | cons p rest ih => exact ih _ (Memory.set_legal h p.val (Memory.get_legal h p.val))

theorem StockStore.compareGeometry_legal {st : StockStore} (h : Memory.Legal st.table) (g : Geometry) :
    Memory.Legal (st.compareGeometry g).table := by
  unfold StockStore.compareGeometry
  split
  · exact h
  · exact h
  · split
    · exact h
    · exact List.forall_mem_nil _

/-- A record as the state holds it. -/
theorem State.recordAt_legal {s : State} (h : s.ledger.Legal) (slot : Nat) : (s.recordAt slot).legal = true :=
  Memory.get_legal h.table slot

theorem State.writeRecord_legal {s : State} (h : s.ledger.Legal) (slot : Nat) {r : SlotRecord} (hr : r.legal = true) :
    (s.writeRecord slot r).ledger.Legal := by
  unfold State.writeRecord
  split
  · exact { h with table := Memory.set_legal h.table slot hr }
  · exact h

/-! ### The work queue (R42, R43, R56) -/

/-- A task of the queue is legal work. -/
theorem State.work_inRange {s : State} (h : s.ledger.Legal) {t : Task} (ht : t ∈ s.planner.queue) :
    t.work.inRange = true := h.works t.work (List.mem_map_of_mem ht)

theorem State.taskOn_inRange {s : State} (h : s.ledger.Legal) {slot : Nat} {t : Task} (ht : s.taskOn slot = some t) :
    t.work.inRange = true := State.work_inRange h (List.mem_of_find?_eq_some ht)

theorem State.addTask_legal {s : State} (h : s.ledger.Legal) {w : TaskWork} (hw : w.inRange = true) (slot : Nat) :
    (s.addTask w slot).ledger.Legal := by
  refine { h with works := ?_ }
  intro x hx
  simp only [State.ledger, State.addTask, State.setQueue, State.setPlanner_planner, List.map_append, List.mem_append,
    List.map_cons, List.map_nil, List.mem_singleton] at hx
  rcases hx with hx | rfl
  · exact h.works x hx
  · exact hw

theorem State.requestRestore_legal {s : State} (h : s.ledger.Legal) (p : Fin 2) : (s.requestRestore p).ledger.Legal := by
  unfold State.requestRestore
  split
  · exact h
  · split
    · exact State.addTask_legal h rfl _
    · exact h

theorem mem_of_mem_removeFirst {α : Type} {test : α → Bool} {xs : List α} {x : α} (h : x ∈ removeFirst test xs) :
    x ∈ xs := by
  induction xs with
  | nil => exact h
  | cons y rest ih =>
    unfold removeFirst at h
    split at h
    · exact List.mem_cons_of_mem _ h
    · rcases List.mem_cons.1 h with rfl | hr
      · exact List.mem_cons_self ..
      · exact List.mem_cons_of_mem _ (ih hr)

theorem State.dropTask_legal {s : State} (h : s.ledger.Legal) (slot : Nat) : (s.dropTask slot).ledger.Legal := by
  unfold State.dropTask
  split
  · refine foldl_legal (fun t p ht => State.requestRestore_legal ht p) _ { h with works := ?_ }
    intro w hw
    obtain ⟨t, ht, rfl⟩ := List.mem_map.1 hw
    exact State.work_inRange h (mem_of_mem_removeFirst ht)
  · exact h

theorem State.removeTask_legal {s : State} (h : s.ledger.Legal) (slot : Nat) : (s.removeTask slot).ledger.Legal := by
  unfold State.removeTask
  simpa using State.dropTask_legal h slot

theorem State.failPick_legal {s : State} (h : s.ledger.Legal) (slot : Nat) (line : LineRef) :
    (s.failPick slot line).ledger.Legal := by
  unfold State.failPick
  simpa using State.dropTask_legal h slot

/-- A LOAD task handed over takes its id from the queue and its data from the record read (R148). -/
theorem State.handOn_legal {s : State} (h : s.ledger.Legal) (slot : Nat) {expected : Option StockData}
    (he : DataLegal expected) : (s.handOn slot expected).ledger.Legal := by
  unfold State.handOn
  split
  · exact h
  · rename_i t ht
    split
    · exact State.failPick_legal h _ _
    · rename_i id hid
      have hrange := State.taskOn_inRange h ht
      rw [hid] at hrange
      refine { h with relocations := ?_ }
      intro r hr
      rcases List.mem_append.1 hr with hr | hr
      · exact h.relocations r hr
      · obtain rfl := List.mem_singleton.1 hr
        exact ⟨by simpa [TaskWork.inRange] using hrange, he⟩
    · exact h

/-! ### Reads and requests (R5, R9 to R11) -/

/-- A read gives a legal record and keeps the ledger legal. -/
theorem State.readSlot_legal {s : State} (h : s.ledger.Legal) (slot : Nat) :
    (s.readSlot slot).record.legal = true ∧ (s.readSlot slot).state.ledger.Legal := by
  have hrecord := Memory.get_legal h.table slot
  unfold State.readSlot
  simp only
  split
  · exact ⟨hrecord, h⟩
  · split
    · have hw := State.writeRecord_legal h slot hrecord
      exact ⟨hrecord, hw⟩
    · refine ⟨rfl, State.handOn_legal ?_ slot DataLegal_none⟩
      rw [State.writeReport_ledger]
      exact State.writeRecord_legal h slot rfl

/-- A request keeps the ledger legal when what it writes over a legal record it applies to is legal. -/
theorem State.request_legal {s : State} (h : s.ledger.Legal) (slot : Nat) {applies : SlotRecord → Bool}
    {new : SlotRecord → SlotRecord} (hn : ∀ r, r.legal = true → applies r = true → (new r).legal = true) :
    (s.request slot applies new).state.ledger.Legal := by
  obtain ⟨hrecord, hstate⟩ := State.readSlot_legal h slot
  unfold State.request
  simp only
  split
  · rename_i ha
    have hw := State.writeRecord_legal hstate slot (hn _ hrecord ha)
    simp only
    split
    · exact State.handOn_legal hw slot (SlotRecord.legal_stock hrecord)
    · exact hw
  · exact hstate

/-- A legal record found in one of some states that always carry stock data has it. -/
theorem SlotRecord.stock_of_inStates {r : SlotRecord} {states : List SlotState} (h : r.legal = true)
    (hs : inStates states r = true) (hc : ∀ x ∈ states, ∀ reason, carriesStock x reason = true) :
    r.stock.isSome = true := by
  have hm : r.state ∈ states := by simpa [inStates] using hs
  exact SlotRecord.legal_carries h (hc _ hm _)

/-- A request that moves a record from states that always carry stock data to one that does. -/
theorem State.request_keeping_legal {s : State} (h : s.ledger.Legal) (slot : Nat) {states : List SlotState}
    {state : SlotState} (hc : ∀ x ∈ states, ∀ reason, carriesStock x reason = true)
    (ht : state = .occupied ∨ state = .pickClaimed ∨ state = .outbound) :
    (s.request slot (inStates states) (.keeping state)).state.ledger.Legal :=
  State.request_legal h slot fun _ hr ha => SlotRecord.keeping_legal hr (SlotRecord.stock_of_inStates hr ha hc) ht

/-- A request that writes one legal record. -/
theorem State.request_const_legal {s : State} (h : s.ledger.Legal) (slot : Nat) (applies : SlotRecord → Bool)
    {r : SlotRecord} (hr : r.legal = true) : (s.request slot applies fun _ => r).state.ledger.Legal :=
  State.request_legal h slot fun _ _ _ => hr

theorem State.readSlots_legal {s : State} (h : s.ledger.Legal) (slots : List Nat) : (s.readSlots slots).ledger.Legal :=
  foldl_legal (fun _ n ht => (State.readSlot_legal ht n).2) slots h

theorem State.readTable_legal {s : State} (h : s.ledger.Legal) : s.readTable.ledger.Legal :=
  State.readSlots_legal h _

theorem State.cancelPick_legal {s : State} (h : s.ledger.Legal) (slot : Nat) : (s.cancelPick slot).ledger.Legal := by
  unfold State.cancelPick
  rw [State.testCompletion_ledger]
  exact State.request_keeping_legal (State.removeTask_legal h slot) slot (by simp [carriesStock]) (.inl rfl)

theorem State.cancelLoad_legal {s : State} (h : s.ledger.Legal) (slot : Nat) : (s.cancelLoad slot).ledger.Legal := by
  unfold State.cancelLoad
  rw [State.testCompletion_ledger]
  exact State.request_const_legal (State.removeTask_legal h slot) slot _ rfl

theorem State.cancelPicks_legal {s : State} (h : s.ledger.Legal) (test : LineRef → Bool) :
    (s.cancelPicks test).ledger.Legal :=
  foldl_legal (fun _ (x : Task) ht => State.cancelPick_legal ht x.slot) _ h

/-- A warm start brings legal records to legal ones (R18). -/
theorem State.normalize_legal {s : State} (h : s.ledger.Legal) : s.normalize.ledger.Legal := by
  refine foldl_legal (fun t n ht => ?_) _ (State.readSlots_legal h _)
  unfold State.restSlot
  simp only
  split
  · exact ht
  · exact State.writeRecord_legal ht n (SlotRecord.atRest_legal (State.recordAt_legal ht n))

theorem State.applyAdjust_legal {s : State} (h : s.ledger.Legal) {a : AdjustFields} (ha : DataLegal a.data) :
    (s.applyAdjust a).ledger.Legal := by
  obtain ⟨hrecord, hstate⟩ := State.readSlot_legal h a.slot
  unfold State.applyAdjust
  simp only
  split
  · rwa [State.writeReport_ledger]
  · split
    · rwa [State.writeReport_ledger]
    · rw [State.writeReport_ledger]
      exact State.writeRecord_legal hstate a.slot (adjustData_legal (adjustState_legal hrecord ha) ha)

/-! ### Contest records (R96 to R107) -/

/-- A visit of the contest table that leaves the ledger alone and keeps the reference and the tyre of the record. -/
def KeepsTyre (visit : State → Contest → State × Option Contest) : Prop :=
  ∀ t c, (visit t c).1.ledger = t.ledger ∧ ∀ d, (visit t c).2 = some d → d.ref = c.ref ∧ d.offered = c.offered

/-- Replacing the contest records. -/
theorem State.setRecords_legal {s : State} (h : s.ledger.Legal) {records : List Contest} (hr : ∀ c ∈ records, c.Legal) :
    (s.setContests { s.contests with records := records }).ledger.Legal := { h with records := hr }

theorem State.walkRecords_legal {s : State} (h : s.ledger.Legal) {visit : State → Contest → State × Option Contest}
    (hv : KeepsTyre visit) : (s.walkRecords visit).ledger.Legal := by
  have hfold : ∀ (cs : List Contest) (acc : State × List Contest), acc.1.ledger.Legal → (∀ c ∈ acc.2, c.Legal) →
      (∀ c ∈ cs, c.Legal) →
      let r := cs.foldl (fun acc c => ((visit acc.1 c).1, acc.2 ++ (visit acc.1 c).2.toList)) acc
      r.1.ledger.Legal ∧ ∀ c ∈ r.2, c.Legal := by
    intro cs
    induction cs with
    | nil => intro acc hs hacc _; exact ⟨hs, hacc⟩
    | cons c rest ih =>
      intro acc hs hacc hcs
      obtain ⟨hc, hrest⟩ := List.forall_mem_cons.1 hcs
      obtain ⟨hledger, hkept⟩ := hv acc.1 c
      refine ih _ (hledger ▸ hs) ?_ hrest
      intro d hd
      rcases List.mem_append.1 hd with hd | hd
      · exact hacc d hd
      · obtain ⟨href, hoffered⟩ := hkept d (Option.mem_toList.1 hd)
        exact ⟨href ▸ hc.1, hoffered ▸ hc.2⟩
  obtain ⟨hstate, hrecords⟩ := hfold s.contests.records (s, []) h (List.forall_mem_nil _) h.records
  exact State.setRecords_legal hstate hrecords

/-- A visit that acts on some records alone. -/
theorem KeepsTyre.ite {visit : State → Contest → State × Option Contest} (hv : KeepsTyre visit)
    (test : Contest → Bool) : KeepsTyre fun t c => if test c then visit t c else (t, some c) := by
  intro t c
  simp only
  split
  · exact hv t c
  · exact ⟨rfl, by simp⟩

theorem endRecord_keepsTyre : KeepsTyre State.endRecord := by
  intro t c
  unfold State.endRecord
  split_ifs <;> simp

theorem State.endRecords_legal {s : State} (h : s.ledger.Legal) (test : Contest → Bool) :
    (s.endRecords test).ledger.Legal := State.walkRecords_legal h (endRecord_keepsTyre.ite test)

theorem State.freeRecords_legal {s : State} (h : s.ledger.Legal) (test : Contest → Bool) :
    (s.freeRecords test).ledger.Legal := by
  have hv : KeepsTyre fun t c => (t.withdrawOwn c, none) := fun t c => by simp
  exact State.walkRecords_legal h (hv.ite test)

theorem State.discardComputation_legal {s : State} (h : s.ledger.Legal) (test : Ref → Bool) :
    (s.discardComputation test).ledger.Legal := by
  unfold State.discardComputation
  split
  · exact h
  · split
    · exact { h with computing := fun _ hc => by cases hc }
    · exact h

theorem State.contestExit_legal {s : State} (h : s.ledger.Legal) : s.contestExit.ledger.Legal :=
  State.discardComputation_legal (State.freeRecords_legal h _) _

/-- A record that claims keeps its reference and its tyre. -/
theorem State.claimRecord_keeps (s : State) (c : Contest) :
    (s.claimRecord c).1.ledger = s.ledger ∧ (s.claimRecord c).2.ref = c.ref ∧ (s.claimRecord c).2.offered = c.offered := by
  unfold State.claimRecord
  split_ifs <;> exact ⟨rfl, rfl, rfl⟩

theorem State.decideRecord_keeps (s : State) (c : Contest) :
    (s.decideRecord c).1.ledger = s.ledger ∧ (s.decideRecord c).2.ref = c.ref ∧
      (s.decideRecord c).2.offered = c.offered := by
  unfold State.decideRecord
  split
  · exact s.claimRecord_keeps c
  · split
    · exact ⟨rfl, rfl, rfl⟩
    · exact s.claimRecord_keeps c

theorem windowEnd_keepsTyre : KeepsTyre State.windowEnd := by
  intro t c
  obtain ⟨hledger, href, hoffered⟩ := t.decideRecord_keeps c
  unfold State.windowEnd
  split_ifs <;> simp [hledger, href, hoffered]

theorem secondChance_keepsTyre : KeepsTyre State.secondChance := by
  intro t c
  obtain ⟨hledger, href, hoffered⟩ := (t.withdrawBid c).claimRecord_keeps
    { c with bidFrame := standing c.bidFrame, secondChance := true, chancePassed := true }
  unfold State.secondChance
  split_ifs <;> simp [hledger, href, hoffered]

theorem outbid_keepsTyre : KeepsTyre State.outbid := by
  intro t c
  unfold State.outbid
  split
  case h_3 => split <;> simp
  all_goals simp

theorem trackBid_keepsTyre (ref : Ref) (round key : Nat) : KeepsTyre (State.trackBid ref round key) := by
  intro t c
  unfold State.trackBid
  split
  · simp only
    split
    · exact outbid_keepsTyre t _
    · exact ⟨rfl, by simp⟩
  · exact ⟨rfl, by simp⟩

theorem hearOwnBid_keepsTyre (ref : Ref) (round : Nat) : KeepsTyre (State.hearOwnBid ref round) := by
  intro t c
  obtain ⟨hledger, href, hoffered⟩ := t.decideRecord_keeps { c with bidFrame := none, ownHeard := true }
  unfold State.hearOwnBid
  split
  · simp only
    split <;> simp [hledger, href, hoffered]
  · exact ⟨rfl, by simp⟩

theorem State.hearBid_legal {s : State} (h : s.ledger.Legal) (f : Frame) : (s.hearBid f).ledger.Legal := by
  unfold State.hearBid
  simp only
  split
  · exact State.walkRecords_legal h (hearOwnBid_keepsTyre _ _)
  · exact State.walkRecords_legal h (trackBid_keepsTyre _ _ _)

theorem State.dropBid_legal {s : State} (h : s.ledger.Legal) (f : Frame) : (s.dropBid f).ledger.Legal := by
  refine State.walkRecords_legal h fun t c => ?_
  split_ifs <;> simp

theorem State.secondChances_legal {s : State} (h : s.ledger.Legal) : s.secondChances.ledger.Legal := by
  have hw := State.walkRecords_legal h secondChance_keepsTyre
  refine State.setRecords_legal hw fun c hc => ?_
  rcases List.mem_append.1 hc with hc | hc <;> exact hw.records c (List.mem_filter.1 hc).1

theorem State.tellStarted_legal {s : State} (h : s.ledger.Legal) (f : Frame) : (s.tellStarted f).ledger.Legal := by
  have hw : (s.walkRecords fun u c => (u, some (c.onBus s.own f))).ledger.Legal :=
    State.walkRecords_legal h fun t c => ⟨rfl, by rintro d ⟨⟩; exact ⟨rfl, rfl⟩⟩
  unfold State.tellStarted
  simp only
  split
  · rwa [State.intentStarted_ledger]
  · exact hw

/-- An open round waits to be considered (R100). -/
theorem State.openRound_legal {s : State} (h : s.ledger.Legal) {o : RoundOpen} (ho : o.ref.inRange = true) :
    (s.openRound o).ledger.Legal := by
  have he := State.endRecords_legal h fun c => decide (c.ref = o.ref)
  refine { he with considering := ?_ }
  intro x hx
  rcases List.mem_append.1 hx with hx | hx
  · exact he.considering x hx
  · obtain rfl := List.mem_singleton.1 hx
    exact ho

theorem State.openNext_legal {s : State} (h : s.ledger.Legal) {ref : Ref} (hr : ref.inRange = true) (round : Option Nat)
    (stamp : Timer) : (s.openNext ref round stamp).ledger.Legal := by
  unfold State.openNext
  split
  · exact h
  · exact State.openRound_legal h hr

/-! ### Offers and results (R98, R99, R102) -/

/-- Replacing the offers. -/
theorem State.setOffers_legal {s : State} (h : s.ledger.Legal) {offers : List Offer} (ho : ∀ o ∈ offers, o.Legal) :
    (s.setContests { s.contests with offers := offers }).ledger.Legal := { h with offers := ho }

/-- The offer of an inbound id, as the table holds it. -/
theorem State.offer_legal {s : State} (h : s.ledger.Legal) {test : Offer → Bool} {o : Offer}
    (ho : s.contests.offers.find? test = some o) : o.Legal := h.offers o (List.mem_of_find?_eq_some ho)

/-- The record a result makes stands for its round, with the tyre of its offer (R96, R102). -/
theorem State.recordOf_legal {s : State} (h : s.ledger.Legal) {o : RoundOpen} (ho : o.ref.inRange = true) (b : BidResult) :
    (s.recordOf o b).Legal := by
  refine ⟨ho, ?_⟩
  unfold State.recordOf
  simp only
  split
  · exact DataLegal_none
  · intro d hd
    obtain ⟨x, hx, rfl⟩ := Option.map_eq_some_iff.1 hd
    exact (State.offer_legal h hx).2

theorem State.takeResult_legal {s : State} (h : s.ledger.Legal) : s.takeResult.ledger.Legal := by
  unfold State.takeResult
  split
  · exact h
  · rename_i c hc
    have hround := h.computing c hc
    have ht : (s.setContests { s.contests with computing := none }).ledger.Legal :=
      { h with computing := fun _ hn => by cases hn }
    simp only
    split
    · exact ht
    · split
      · rw [State.queueFrame_ledger]
        refine State.setRecords_legal ht fun x hx => ?_
        rcases List.mem_append.1 hx with hx | hx
        · exact ht.records x hx
        · obtain rfl := List.mem_singleton.1 hx
          exact State.recordOf_legal ht hround _
      · exact ht

/-- A CLAIM leaves the id and the tyre of an offer as they are. -/
theorem Offer.claim_keeps (o : Offer) (k : Nat) :
    (o.claim k).1.inboundId = o.inboundId ∧ (o.claim k).1.stock = o.stock := by
  unfold Offer.claim
  simp only
  split_ifs <;> exact ⟨rfl, rfl⟩

theorem State.applyOfferClaim_legal {s : State} (h : s.ledger.Legal) (id k : Nat) :
    (s.applyOfferClaim id k).state.ledger.Legal := by
  unfold State.applyOfferClaim
  split
  · exact h
  · rename_i o ho
    obtain ⟨hid, hstock⟩ := State.offer_legal h ho
    obtain ⟨hid', hstock'⟩ := o.claim_keeps k
    refine State.setOffers_legal h fun x hx => ?_
    obtain ⟨y, hy, rfl⟩ := List.mem_map.1 (List.mem_filter.1 hx).1
    split
    · exact ⟨hid' ▸ hid, hstock' ▸ hstock⟩
    · exact h.offers y hy

theorem State.applyAnyClaim_legal {s : State} (h : s.ledger.Legal) (c : ClaimFields) (own : Bool) :
    (s.applyAnyClaim c own).state.ledger.Legal := by
  unfold State.applyAnyClaim
  split
  · rwa [State.applyClaim_ledger]
  · exact State.applyOfferClaim_legal h _ _

theorem State.freeOffer_legal {s : State} (h : s.ledger.Legal) (id : Nat) : (s.freeOffer id).ledger.Legal := by
  have he := State.endRecords_legal h fun c => decide (c.ref = .store id)
  exact State.setOffers_legal he fun o ho => he.offers o (List.mem_filter.1 ho).1

theorem State.emptyOffers_legal {s : State} (h : s.ledger.Legal) : s.emptyOffers.ledger.Legal :=
  State.setOffers_legal h (List.forall_mem_nil _)

/-- An INBOUND is taken with stock data in range only (R98). -/
theorem State.takeInbound_legal {s : State} (h : s.ledger.Legal) {f : InboundFields} (hid : f.inboundId ≤ 65535)
    (stamp : Timer) : (s.takeInbound f stamp).ledger.Legal := by
  unfold State.takeInbound
  split
  · rename_i hf
    obtain ⟨_, _, hstock⟩ := hf
    simp only
    generalize ht : (if (s.contests.offers.any fun o => decide (o.inboundId = f.inboundId)) = true
      then s.freeOffer f.inboundId else s) = t
    have hl : t.ledger.Legal := by
      rw [← ht]
      split
      · exact State.freeOffer_legal h _
      · exact h
    split
    · have href : (Ref.store f.inboundId).inRange = true := by simpa [Ref.inRange] using hid
      refine State.openRound_legal (State.setOffers_legal hl fun o ho => ?_) href
      rcases List.mem_append.1 ho with ho | ho
      · exact hl.offers o ho
      · obtain rfl := List.mem_singleton.1 ho
        exact ⟨hid, hstock⟩
    · exact hl
  · exact h

end Sys2Proof.Machine
end

section
/-! SUPPORT. Relocations, dwells, claims, pockets and lanes, motion, the bus port, audits and starts keep the ledger legal. -/

namespace Sys2Proof.Machine

/-- A conditional operation keeps the ledger legal when both its outcomes do. -/
theorem ite_legal {c : Prop} [Decidable c] {t s : State} (ht : t.ledger.Legal) (hs : s.ledger.Legal) :
    (if c then t else s).ledger.Legal := by
  split
  · exact ht
  · exact hs

/-! ### Relocation (R148, R149) -/

/-- The data of a batch is that of a legal record. -/
theorem State.dataOfBatch_legal {s : State} (h : s.ledger.Legal) (id : Nat) : DataLegal (s.dataOfBatch id) := by
  intro d hd
  obtain ⟨n, _, hn⟩ := List.exists_of_findSome?_eq_some hd
  simp only at hn
  split at hn
  · exact SlotRecord.legal_stock (State.recordAt_legal h n) d hn
  · cases hn

theorem State.cancelRelocated_legal {s : State} (h : s.ledger.Legal) (r : Relocation) :
    (s.cancelRelocated r).ledger.Legal := by
  unfold State.cancelRelocated
  simpa using State.removeTask_legal h r.slot

theorem State.placeTask_legal {s : State} (h : s.ledger.Legal) {r : Relocation} (hr : r.Legal) {d : StockData}
    (hd : stockInRange d = true) : (s.placeTask r d).ledger.Legal := by
  unfold State.placeTask
  split
  · exact State.cancelRelocated_legal h r
  · rename_i slot _
    have hq := State.request_const_legal h slot (inStates [.empty]) (SlotRecord.reserved_legal hr.1 hd)
    simp only
    split
    · rwa [State.moveTask_ledger]
    · exact State.cancelRelocated_legal hq r

theorem State.relocateOne_legal {s : State} (h : s.ledger.Legal) {r : Relocation} (hr : r.Legal) :
    (s.relocateOne r).ledger.Legal := by
  have hread := State.readTable_legal h
  unfold State.relocateOne
  split
  · exact h
  · split
    · simp only
      split
      · exact State.cancelRelocated_legal hread r
      · rename_i d hd
        refine State.placeTask_legal hread hr ?_
        split at hd
        · rename_i he
          exact hr.2 d (he.trans hd)
        · exact State.dataOfBatch_legal hread _ d hd
    · exact h

theorem State.setRelocations_legal {s : State} (h : s.ledger.Legal) {rs : List Relocation} (hr : ∀ r ∈ rs, r.Legal) :
    (s.setAudit { s.audit with relocations := rs }).ledger.Legal := { h with relocations := hr }

theorem State.relocateUpTo_legal (fuel : Nat) {s : State} (h : s.ledger.Legal) : (s.relocateUpTo fuel).ledger.Legal := by
  induction fuel generalizing s with
  | zero => exact h
  | succ fuel ih =>
    unfold State.relocateUpTo
    split
    · exact h
    · rename_i r rest hrest
      have hall : ∀ x ∈ r :: rest, x.Legal := hrest ▸ h.relocations
      obtain ⟨hr, htail⟩ := List.forall_mem_cons.1 hall
      exact ih (State.relocateOne_legal (State.setRelocations_legal h htail) hr)

theorem State.relocateAll_legal {s : State} (h : s.ledger.Legal) : s.relocateAll.ledger.Legal :=
  State.relocateUpTo_legal _ h

/-! ### Considering rounds (R81, R82) and the end of a step -/

theorem State.beginComputation_legal {s : State} (h : s.ledger.Legal) {o : RoundOpen} (ho : o.ref.inRange = true) :
    (s.beginComputation o).ledger.Legal := by
  have hread := State.readTable_legal h
  refine State.relocateAll_legal { hread with computing := ?_ }
  intro c hc
  obtain rfl := Option.some.inj hc
  exact ho

theorem State.setConsidering_legal {s : State} (h : s.ledger.Legal) {rounds : List RoundOpen}
    (hr : ∀ o ∈ rounds, o.ref.inRange = true) :
    (s.setContests { s.contests with considering := rounds }).ledger.Legal := { h with considering := hr }

theorem State.considerList_legal {s : State} (h : s.ledger.Legal) {rounds : List RoundOpen}
    (hr : ∀ o ∈ rounds, o.ref.inRange = true) : (s.considerList rounds).ledger.Legal := by
  induction rounds with
  | nil => exact State.setConsidering_legal h hr
  | cons o rest ih =>
    obtain ⟨ho, hrest⟩ := List.forall_mem_cons.1 hr
    unfold State.considerList
    split
    · exact State.beginComputation_legal (State.setConsidering_legal h hrest) ho
    · exact ih hrest

theorem State.considerRounds_legal {s : State} (h : s.ledger.Legal) : s.considerRounds.ledger.Legal :=
  ite_legal (State.considerList_legal h h.considering) h

/-- The end of a step keeps the ledger legal. -/
theorem State.settle_legal {s : State} (h : s.ledger.Legal) (before : State) :
    (State.settle before s).ledger.Legal := by
  rw [State.settle_ledger]
  exact State.considerRounds_legal (State.relocateAll_legal h)

/-! ### The dwell at work (R66 to R75) -/

theorem State.resolveWrong_legal {s : State} (h : s.ledger.Legal) (w : WrongEvent) :
    (s.resolveWrong w).ledger.Legal := by
  unfold State.resolveWrong
  split
  · rw [State.writeReport_ledger]
    exact State.request_legal h w.slot fun r hr ha =>
      SlotRecord.missing_legal hr (SlotRecord.stock_of_inStates hr ha (by simp [carriesStock]))
  · rw [State.writeReport_ledger]
    exact State.request_const_legal h w.slot _ rfl

theorem State.closeDwell_legal {s : State} (h : s.ledger.Legal) : s.closeDwell.ledger.Legal := by
  unfold State.closeDwell
  split
  · exact h
  · rw [State.endDwell_ledger, State.dropMoved_ledger]
    exact foldl_legal (fun t w ht => State.relocateAll_legal (State.resolveWrong_legal ht w)) _ h

theorem State.confirmPick_legal {s : State} (h : s.ledger.Legal) (slot : Nat) (line : LineRef) :
    (s.confirmPick slot line).ledger.Legal := by
  have hq := State.request_keeping_legal h slot (states := [.pickClaimed]) (state := .outbound)
    (by simp [carriesStock]) (by simp)
  unfold State.confirmPick
  simp only
  split
  · rw [State.dropDue_ledger]
    refine State.dropTask_legal ?_ slot
    split
    · exact hq
    · split
      · exact hq
      · rwa [State.setEntry_ledger]
  · split
    · exact hq
    · exact ite_legal (State.failPick_legal hq slot line) hq

theorem State.confirmLoad_legal {s : State} (h : s.ledger.Legal) (slot id : Nat) :
    (s.confirmLoad slot id).ledger.Legal := by
  have hq := State.request_keeping_legal h slot (states := [.reservedIn]) (state := .occupied)
    (by simp [carriesStock]) (by simp)
  unfold State.confirmLoad
  simp only
  split
  · rw [State.writeReport_ledger, State.dropDue_ledger]
    refine State.dropTask_legal ?_ slot
    rwa [State.updateReceiving_ledger]
  · exact State.relocateAll_legal hq

theorem State.confirmRestore_legal {s : State} (h : s.ledger.Legal) (slot : Nat) (p : Fin 2) :
    (s.confirmRestore slot p).ledger.Legal := by
  have hq := State.request_legal h slot (applies := fun r => decide (r.state ≠ .retired))
    (new := fun r => if r.state = .outbound then .keeping .occupied r else .suspect .unknown) fun r hr _ => by
      split
      · rename_i hs
        exact SlotRecord.keeping_legal hr (SlotRecord.legal_carries hr (by rw [hs]; rfl)) (.inl rfl)
      · rfl
  unfold State.confirmRestore
  simp only
  rw [State.dropDue_ledger]
  refine State.dropTask_legal ?_ slot
  rw [State.freeRestore_ledger]
  split
  · exact hq
  · rwa [State.writeReport_ledger]

theorem State.useChange_legal {s : State} (h : s.ledger.Legal) (d : Dwell) (slot : Nat) (present : Bool) :
    (s.useChange d slot present).ledger.Legal := by
  have hwrong : (s.addWrong slot present).ledger.Legal := by rwa [State.addWrong_ledger]
  unfold State.useChange
  split
  · split
    · exact State.confirmPick_legal h slot _
    · exact State.confirmLoad_legal h slot _
    · exact State.confirmRestore_legal h slot _
    all_goals exact hwrong
  · exact hwrong

theorem State.presenceChange_legal {s : State} (h : s.ledger.Legal) (place : Nat) (present : Bool) :
    (s.presenceChange place present).ledger.Legal := by
  unfold State.presenceChange
  split
  · exact h
  · split
    · rw [State.refreshDwell_ledger, State.testCompletion_ledger]
      refine ite_legal ?_ (State.useChange_legal h _ _ _)
      rwa [State.dropWrong_ledger]
    · exact h

theorem State.scanFace_legal {s : State} (h : s.ledger.Legal) (returns : BitVec 12) (pin : BitVec 16) :
    (s.scanFace returns pin).ledger.Legal := by
  have hu : ((s.setFace { s.face with
      image := s.sampled returns, lastScan := some s.timer }).settleCycle pin).ledger.Legal := by
    rwa [State.settleCycle_ledger]
  exact ite_legal (foldl_legal (fun _ c ht => State.presenceChange_legal ht c.1 c.2) _ hu) hu

/-! ### Pockets (R138, R140) -/

theorem State.turnRestore_legal {s : State} (h : s.ledger.Legal) (p : Fin 2) : (s.turnRestore p).ledger.Legal := by
  have hw : (s.withdrawIntent p).ledger.Legal := by rwa [State.withdrawIntent_ledger]
  unfold State.turnRestore
  simp only
  split
  · exact hw
  · exact hw
  · exact State.requestRestore_legal (s := State.setEntry _ _ _) hw p

theorem State.restoreEntries_legal {s : State} (h : s.ledger.Legal) (test : LineRef → Bool) :
    (s.restoreEntries test).ledger.Legal := by
  refine foldl_legal (fun t p ht => ?_) _ h
  split
  · exact ht
  · split
    · exact ht
    · exact ite_legal (State.turnRestore_legal ht p) ht

theorem State.completeGrant_legal {s : State} (h : s.ledger.Legal) (p : Fin 2) (e : PocketEntry) :
    (s.completeGrant p e).ledger.Legal := by
  unfold State.completeGrant
  simp only
  rw [State.setPocket_ledger]
  refine State.request_const_legal ?_ e.slot _ rfl
  split
  · exact h
  · rwa [State.updateLine_ledger]

theorem State.grantEntry_legal {s : State} (h : s.ledger.Legal) (p : Fin 2) (e : PocketEntry) :
    (s.grantEntry p e).ledger.Legal := ite_legal h (State.completeGrant_legal h p _)

theorem State.pocketEmptied_legal {s : State} (h : s.ledger.Legal) (p : Fin 2) : (s.pocketEmptied p).ledger.Legal := by
  unfold State.pocketEmptied
  split
  · exact h
  · exact h
  · split
    · exact State.completeGrant_legal h p _
    · exact State.completeGrant_legal h p _
    · simpa using h
    all_goals exact h

theorem State.pocketLevel_legal {s : State} (h : s.ledger.Legal) (p : Fin 2) (present : Bool) :
    (s.pocketLevel p present).ledger.Legal := by
  unfold State.pocketLevel
  split
  · simpa using h
  · split_ifs
    · exact h
    · simpa using h
    · exact State.pocketEmptied_legal (s := s.setSense p present) h p

/-! ### Orders, INTENTs, clears and blindness (R121 to R132) -/

theorem State.takeOrder_legal {s : State} (h : s.ledger.Legal) (o : OrderFields) (stamp : Timer) :
    (s.takeOrder o stamp).ledger.Legal := by
  have hpick : ∀ r ∈ o.refs, r.inRange = true := by
    intro r hr
    obtain ⟨n, _, rfl⟩ := List.mem_map.1 hr
    rfl
  have hopen : ∀ (refs : List Ref) {t : State}, t.ledger.Legal → (∀ r ∈ refs, r.inRange = true) →
      (refs.foldl (fun t r => t.openRound { ref := r, round := 1, openedAt := stamp }) t).ledger.Legal := by
    intro refs
    induction refs with
    | nil => intro t ht _; exact ht
    | cons r rest ih =>
      intro t ht hrefs
      obtain ⟨hr, hrest⟩ := List.forall_mem_cons.1 hrefs
      exact ih (State.openRound_legal ht hr) hrest
  exact ite_legal (hopen o.refs (t := s.openOrder o) h hpick) h

theorem State.hearIntent_legal {s : State} (h : s.ledger.Legal) (lane : Fin 8) (f : Frame) :
    (s.hearIntent lane f).ledger.Legal := by
  have hown : ∀ (line : LineRef) (granted : Bool) {t : State}, t.ledger.Legal →
      (t.ownIntent line granted).ledger.Legal := by
    intro line granted t ht
    unfold State.ownIntent
    split
    · exact ht
    · exact ite_legal (State.grantEntry_legal ht _ _) ht
  have hcount : ∀ line, (s.countGrant line).ledger.Legal := fun line => by rwa [State.countGrant_ledger]
  exact ite_legal (hown _ _ (ite_legal (hcount _) h)) (ite_legal (hcount _) h)

theorem State.giveUpBay_legal {s : State} (h : s.ledger.Legal) (lane : Fin 8) (bay : Fin 4) :
    (s.giveUpBay lane bay).ledger.Legal :=
  State.restoreEntries_legal (State.cancelPicks_legal (State.endRecords_legal h _) _) _

theorem State.clearBay_legal {s : State} (h : s.ledger.Legal) (lane : Fin 8) (bay : Fin 4) (resend : Bool) :
    (s.clearBay lane bay resend).ledger.Legal := by
  have hup : ((s.freeBay lane bay).giveUpBay lane bay).ledger.Legal :=
    State.giveUpBay_legal (by rwa [State.freeBay_ledger]) lane bay
  refine ite_legal ?_ hup
  rwa [State.resendRefused_ledger]

theorem State.hearBayClear_legal {s : State} (h : s.ledger.Legal) (lane : Fin 8) (bay : Fin 4) (order : Nat) :
    (s.hearBayClear lane bay order).ledger.Legal := by
  unfold State.hearBayClear
  split
  · exact h
  · exact State.clearBay_legal h lane bay true

theorem State.idleLane_legal {s : State} (h : s.ledger.Legal) (lane : Fin 8) : (s.idleLane lane).ledger.Legal :=
  foldl_legal (fun _ bay ht => State.clearBay_legal ht lane bay false) _ h

theorem State.blindLane_legal {s : State} (h : s.ledger.Legal) (lane : Fin 8) : (s.blindLane lane).ledger.Legal := by
  have hgiven : (((s.lane lane).lineRefs lane).foldl State.giveBackLine s).ledger.Legal := by
    rwa [foldl_ledger _ State.giveBackLine_ledger]
  unfold State.blindLane
  refine ite_legal ?_ h
  simp only
  rw [State.setLane_ledger]
  exact State.restoreEntries_legal (State.cancelPicks_legal
    (State.discardComputation_legal (State.freeRecords_legal hgiven _) _) _) _

theorem State.loseView_legal {s : State} (h : s.ledger.Legal) : s.loseView.ledger.Legal :=
  State.emptyOffers_legal (foldl_legal (fun _ lane ht => State.blindLane_legal ht lane) _ h)

/-! ### Claims (R108 to R112, R123) -/

theorem byteAt_lt (payload : List Byte) (i : Nat) : byteAt payload i < 256 := (payload.getD i 0).isLt

theorem twoBytes_le (payload : List Byte) (i : Nat) : twoBytes payload i ≤ 65535 := by
  have h1 := byteAt_lt payload i
  have h2 := byteAt_lt payload (i + 1)
  unfold twoBytes
  omega

/-- A reference on the bus carries an id of two bytes (chapter 9.6). -/
theorem refOf_inRange (payload : List Byte) : (refOf payload).inRange = true := by
  unfold refOf
  split
  · exact decide_eq_true (twoBytes_le payload 1)
  · rfl

/-- An ADJUST gives stock data in range, or none (R12). -/
theorem adjustOf_legal (payload : List Byte) : DataLegal (adjustOf payload).data := by
  intro d hd
  unfold adjustOf at hd
  simp only at hd
  split at hd
  · rename_i hc
    obtain rfl := Option.some.inj hd
    exact (Bool.and_eq_true_iff.1 hc).2
  · cases hd

theorem State.takePickSlot_legal {s : State} (h : s.ledger.Legal) (line : LineRef) (slot : Nat) :
    (s.takePickSlot line slot).1.ledger.Legal := by
  have hr := (State.readSlot_legal h slot).2
  have hq := State.request_keeping_legal hr slot (states := [.occupied]) (state := .pickClaimed)
    (by simp [carriesStock]) (by simp)
  unfold State.takePickSlot
  simp only
  split
  · exact hr
  · split_ifs
    · exact State.addTask_legal hq rfl slot
    · exact State.request_keeping_legal hq slot (by simp [carriesStock]) (.inl rfl)
    · exact hq
    · exact hr

theorem State.takeStoreSlot_legal {s : State} (h : s.ledger.Legal) {id : Nat} (hid : id ≤ 65535) {tyre : StockData}
    (ht : stockInRange tyre = true) (slot : Nat) : (s.takeStoreSlot id tyre slot).1.ledger.Legal := by
  have hr := (State.readSlot_legal h slot).2
  have hq := State.request_const_legal hr slot (inStates [.empty]) (SlotRecord.reserved_legal hid ht)
  unfold State.takeStoreSlot
  simp only
  split_ifs
  · exact State.addTask_legal hq (w := .load id) (decide_eq_true hid) slot
  · exact State.request_const_legal hq slot _ rfl
  · exact hq
  · exact hr

theorem State.takeSlots_legal {take : State → Nat → State × Bool}
    (htake : ∀ t n, t.ledger.Legal → (take t n).1.ledger.Legal) {s : State} (h : s.ledger.Legal) (slots : List Nat) :
    (State.takeSlots take s slots).1.ledger.Legal := by
  induction slots generalizing s with
  | nil => exact h
  | cons n rest ih => exact ih (htake s n h)

theorem State.takePick_legal {s : State} (h : s.ledger.Legal) (line : LineRef) (slots : List Nat) :
    (s.takePick line slots).ledger.Legal := by
  unfold State.takePick
  simp only
  rw [State.relinquishSome_ledger]
  exact State.takeSlots_legal (fun t n ht => State.takePickSlot_legal ht line n) h slots

theorem State.takeStore_legal {s : State} (h : s.ledger.Legal) {id : Nat} (hid : id ≤ 65535) {tyre : StockData}
    (ht : stockInRange tyre = true) (slots : List Nat) (stamp : Timer) :
    (s.takeStore id tyre slots stamp).ledger.Legal := by
  have htaken := State.takeSlots_legal (fun t n hl => State.takeStoreSlot_legal hl hid ht n) h slots
  unfold State.takeStore
  simp only
  split
  · rw [State.reportFailed_ledger]
    refine ite_legal htaken ?_
    rwa [State.askReceiving_ledger]
  · rwa [State.reportFailed_ledger]

theorem State.freeClaimed_legal {s : State} (h : s.ledger.Legal) (c : Contest) : (s.freeClaimed c).ledger.Legal := by
  have hw : (s.withdrawBid c).ledger.Legal := by rwa [State.withdrawBid_ledger]
  exact State.setRecords_legal hw fun x hx => hw.records x (mem_of_mem_removeFirst hx)

/-- The own CLAIM takes slots with the id and the tyre of its record (R110, R111). -/
theorem State.takeOwnClaim_legal {s : State} (h : s.ledger.Legal) (c : ClaimFields) (applied : Nat) (stamp : Timer) :
    (s.takeOwnClaim c applied stamp).ledger.Legal := by
  unfold State.takeOwnClaim
  split
  · rename_i r hr
    obtain ⟨href, hoffered⟩ := h.records r (List.mem_of_find?_eq_some hr)
    have hfreed := State.freeClaimed_legal h r
    refine ite_legal hfreed ?_
    split
    · exact State.takePick_legal hfreed _ _
    · rename_i id hid
      split
      · rwa [State.reportFailed_ledger]
      · rename_i tyre htyre
        rw [hid] at href
        exact State.takeStore_legal hfreed (of_decide_eq_true href) (hoffered tyre htyre) _ stamp
  · split
    · rwa [State.relinquishSome_ledger]
    · rwa [State.reportFailed_ledger]

theorem State.hearClaim_legal {s : State} (h : s.ledger.Legal) (f : Frame) (stamp : Timer) :
    (s.hearClaim f stamp).ledger.Legal := by
  have happlied := State.applyAnyClaim_legal h (claimOf f.payload) (decide (f.key.station = s.own))
  exact State.openNext_legal
    (State.endRecords_legal (ite_legal (State.takeOwnClaim_legal happlied _ _ stamp) happlied) _)
    (refOf_inRange f.payload) _ stamp

theorem State.hearRelinquish_legal {s : State} (h : s.ledger.Legal) (f : Frame) (stamp : Timer) :
    (s.hearRelinquish f stamp).ledger.Legal := by
  have hgone : (if f.key.station = s.own then s.relinquishGone else s).ledger.Legal :=
    ite_legal (by rwa [State.relinquishGone_ledger]) h
  unfold State.hearRelinquish
  simp only
  split
  · exact hgone
  · exact State.openNext_legal (by rwa [State.applyRelinquish_ledger]) rfl _ stamp

/-! ### Motion (R30, R38, R39, R58) -/

theorem State.outOfService_legal {s : State} (h : s.ledger.Legal) : s.outOfService.ledger.Legal := by
  unfold State.outOfService
  split
  case h_5 =>
    refine State.contestExit_legal ?_
    exact h
  all_goals exact h

theorem State.enterFault_legal {s : State} (h : s.ledger.Legal) (kind : FaultKind) : (s.enterFault kind).ledger.Legal := by
  refine ite_legal h (State.outOfService_legal ?_)
  unfold State.closeDwellAtFault
  rw [State.endDwell_ledger]
  exact h

theorem State.orLost_legal {r : State × Bool} (h : r.1.ledger.Legal) : (State.orLost r).ledger.Legal :=
  ite_legal (State.enterFault_legal h _) h

theorem State.settled_legal {s : State} (h : s.ledger.Legal) : s.settled.ledger.Legal := by
  refine ite_legal ?_ (State.enterFault_legal h _)
  rwa [State.settledAt_ledger]

theorem State.homingRested_legal {s : State} (h : s.ledger.Legal) : s.homingRested.ledger.Legal := by
  refine ite_legal ?_ (State.enterFault_legal h _)
  rwa [State.homed_ledger]

theorem State.graceRunOut_legal {s : State} (h : s.ledger.Legal) : s.graceRunOut.ledger.Legal := by
  have hcancelled := State.cancelPicks_legal (s := s.setPlanner { s.planner with graceSince := none }) h
    fun _ => true
  unfold State.graceRunOut
  simp only
  rwa [foldl_ledger _ fun t l => State.addRelinquish_ledger t l _]

/-! ### The bus port (R157 to R168) -/

theorem State.contend_legal {s : State} (h : s.ledger.Legal) (rival : Option Key) : (s.contend rival).ledger.Legal := by
  unfold State.contend
  split
  · exact h
  · refine ite_legal h (ite_legal h (State.tellStarted_legal ?_ _))
    rwa [State.changeContender_ledger]

theorem State.failContender_legal {s : State} (h : s.ledger.Legal) : s.failContender.ledger.Legal := by
  unfold State.failContender
  split
  · exact h
  · refine ite_legal (State.dropBid_legal ?_ _) ?_
    · rwa [State.removeContender_ledger]
    · rwa [State.changeContender_ledger]

theorem State.enterOff_legal {s : State} (h : s.ledger.Legal) : s.enterOff.ledger.Legal := by
  refine State.loseView_legal ?_
  rw [State.dropIntents_ledger]
  exact State.contestExit_legal h

theorem State.setCounters_legal {s : State} (h : s.ledger.Legal) (tx rx : Nat) : (s.setCounters tx rx).ledger.Legal := by
  refine ite_legal h ?_
  split
  · exact h
  · exact State.contestExit_legal (s := s.setPort _) h
  · exact State.enterOff_legal (s := s.setPort _) h

theorem State.joinOverflow_legal {s : State} (h : s.ledger.Legal) : s.joinOverflow.ledger.Legal :=
  State.loseView_legal (s := s.setControl _) h

theorem State.receiveError_legal {s : State} (h : s.ledger.Legal) : s.receiveError.ledger.Legal := by
  have hcounted := State.setCounters_legal h s.port.txErrors (raiseTo maxByteCount 1 s.port.rxErrors)
  have hjoined := ite_legal (c := s.listenOnly = true) (State.joinOverflow_legal hcounted) hcounted
  exact ite_legal (State.loseView_legal (State.contestExit_legal hjoined)) hjoined

theorem State.busError_legal {s : State} (h : s.ledger.Legal) (kind : BusError) (role : BusRole) :
    (s.busError kind role).ledger.Legal := by
  unfold State.busError
  split
  · refine State.setCounters_legal (State.failContender_legal ?_) _ _
    exact h
  · refine State.receiveError_legal ?_
    exact h

theorem State.markSeen_legal {s : State} (h : s.ledger.Legal) (role : BusRole) : (s.markSeen role).ledger.Legal := by
  unfold State.markSeen
  split
  · exact State.setCounters_legal (State.failContender_legal h) _ _
  · exact h

theorem State.held_legal {s : State} (h : s.ledger.Legal) (role : BusRole) : (s.held role).ledger.Legal := by
  unfold State.held
  split
  · exact State.failContender_legal h
  · exact h

theorem State.countSuccess_legal {s : State} (h : s.ledger.Legal) (f : Frame) : (s.countSuccess f).ledger.Legal := by
  unfold State.countSuccess
  refine ite_legal (State.setCounters_legal ?_ _ _) (State.setCounters_legal h _ _)
  exact h

theorem State.hear_legal {s : State} (h : s.ledger.Legal) (f : Frame) : (s.hear f).ledger.Legal := by
  refine ite_legal (State.busError_legal h _ _) (ite_legal (ite_legal (State.joinOverflow_legal h) (State.held_legal h _)) ?_)
  rw [State.enqueue_ledger]
  exact State.countSuccess_legal h f

theorem State.offerPlace_legal {s : State} (h : s.ledger.Legal) : s.offerPlace.ledger.Legal := by
  unfold State.offerPlace
  split
  · split
    · rename_i c _
      refine State.setRecords_legal (s := s.queueFrame (claimFrameOf s.own c)) h fun x hx => ?_
      obtain ⟨y, hy, rfl⟩ := List.mem_map.1 hx
      split
      · exact h.records y hy
      · exact h.records y hy
    · split
      · rwa [State.queueIntent_ledger]
      · split
        · rwa [State.queueRelinquish_ledger]
        · rwa [State.offerReport_ledger]
  · exact h

/-! ### Audits (R142 to R154) -/

theorem Comparison.slot_legal {c : Comparison} (h : c.state.ledger.Legal) (slot : Nat) (present : Bool) :
    (c.slot slot present).state.ledger.Legal := by
  obtain ⟨hrecord, hstate⟩ := State.readSlot_legal h slot
  unfold Comparison.slot
  simp only
  split
  · exact hstate
  · rename_i f hf
    have hq := State.request_const_legal hstate slot (fun x => decide (x = (c.state.readSlot slot).record))
      (findingOf_legal hrecord hf)
    split
    · exact hq
    · rwa [State.writeReport_ledger]

theorem Comparison.slots_legal {c : Comparison} (h : c.state.ledger.Legal) (slot : Nat) (image : List Bool) :
    (c.slots slot image).state.ledger.Legal := by
  induction image generalizing c slot with
  | nil => exact h
  | cons present rest ih => exact ih (Comparison.slot_legal h slot present) (slot + 1)

theorem State.answerFace_legal {s : State} (h : s.ledger.Legal) (scan : Scan) : (s.answerFace scan).ledger.Legal := by
  unfold State.answerFace
  split
  · exact h
  · refine ite_legal ?_ h
    rw [State.testCompletion_ledger]
    refine foldl_legal (fun _ c ht => State.presenceChange_legal ht c.1 c.2) _ ?_
    rwa [State.refreshDwell_ledger]

theorem State.auditScan_legal {s : State} (h : s.ledger.Legal) (scan : Scan) : (s.auditScan scan).ledger.Legal := by
  have hc := Comparison.slots_legal (c := { state := s, found := 0, unknown := false }) h
    (scan.carrier * s.values.slotsPerCarrier) scan.image
  refine State.answerFace_legal ?_ scan
  rw [State.countStop_ledger]
  have hw := State.relocateAll_legal hc
  rw [← State.weigh_ledger _ scan _] at hw
  refine ite_legal ?_ hw
  rwa [State.sweepOff_ledger]

theorem State.workScan_legal {s : State} (h : s.ledger.Legal) : s.workScan.ledger.Legal := by
  unfold State.workScan
  split
  · exact h
  · refine State.auditScan_legal ?_ _
    exact h

/-! ### Done, deadlines and face inputs (R64, R73, R79) -/

theorem State.debounced_legal {s : State} (h : s.ledger.Legal) (i : FaceInput) (high : Bool)
    {change : State → Bool → State} (hc : ∀ t b, t.ledger.Legal → (change t b).ledger.Legal) :
    (s.debounced i high change).ledger.Legal := ite_legal (hc (s.setDebounce i _) _ h) h

theorem State.doneLevel_legal {s : State} (h : s.ledger.Legal) (active : Bool) : (s.doneLevel active).ledger.Legal := by
  have hdone : ∀ {t : State}, t.ledger.Legal → t.doneDwell.ledger.Legal := by
    intro t ht
    unfold State.doneDwell
    split
    · exact ht
    · exact ite_legal (State.closeDwell_legal ht) ht
  have hpressed : s.donePressed.ledger.Legal := ite_legal h (ite_legal (hdone (ite_legal h h)) (ite_legal h h))
  exact ite_legal hpressed h

theorem State.giveUpArrivals_legal {s : State} (h : s.ledger.Legal) (r : Receiving) :
    (s.giveUpArrivals r).ledger.Legal := by
  have hcancelled : ∀ tasks : List Task, (tasks.foldl (fun u x => u.cancelLoad x.slot) s).ledger.Legal :=
    fun tasks => foldl_legal (fun _ (x : Task) ht => State.cancelLoad_legal ht x.slot) tasks h
  unfold State.giveUpArrivals
  simp only
  rw [State.freeReceived_ledger]
  refine ite_legal (hcancelled _) ?_
  rw [State.reportShort_ledger]
  exact hcancelled _

/-! ### Setup, starts and stops (R17 to R20, R171, R177) -/

theorem State.settleSetup_legal {s : State} (h : s.ledger.Legal) : s.settleSetup.ledger.Legal :=
  { h with table := StockStore.compareGeometry_legal h.table _ }

/-- At a start nothing but the table can hold stock data. -/
theorem State.start_legal {store : StockStore} (h : Memory.Legal store.table) (kind : StartKind) (stn : BitVec 5)
    (rate : BitVec 2) (pending : List Instr) : (State.start kind stn rate store pending).ledger.Legal where
  table := h
  offers := List.forall_mem_nil _
  records := List.forall_mem_nil _
  computing := fun _ hc => by cases hc
  considering := List.forall_mem_nil _
  works := List.forall_mem_nil _
  relocations := List.forall_mem_nil _

theorem State.coldStart_legal (s : State) (stn : BitVec 5) (rate : BitVec 2) : (s.coldStart stn rate).ledger.Legal :=
  State.start_legal (store := StockStore.cold) (List.forall_mem_nil _) _ _ _ _

theorem State.warmStart_legal {s : State} (h : s.ledger.Legal) (stn : BitVec 5) (rate : BitVec 2)
    (flips : List (Fin 512)) : (s.warmStart stn rate flips).ledger.Legal := by
  unfold State.warmStart
  split
  · exact s.coldStart_legal stn rate
  · exact State.normalize_legal (State.start_legal (StockStore.flipped_legal h.table flips) _ _ _ _)

theorem State.stopped_legal {s : State} (h : s.ledger.Legal) (power : Power) : (s.stopped power).ledger.Legal :=
  State.start_legal (store := s.store) h.table .cold 1 0 []

theorem State.markerLost_legal {s : State} (h : s.ledger.Legal) : s.markerLost.ledger.Legal :=
  State.stopped_legal h .unpowered

end Sys2Proof.Machine
end

section
/-! SUPPORT. Every command keeps the ledger legal (R2, R3), and the proof of the statement about it. -/

namespace Sys2Proof.Machine

/-- A command of a running part: its own effect keeps the ledger legal, and so does the end of the step. -/
theorem State.during_legal {s t : State} {effect : State → State} (h : s.ledger.Legal)
    (ht : (s.during effect).goOn = .next t) (he : (effect s).ledger.Legal) : t.ledger.Legal := by
  obtain rfl := Host.Outcome.next.inj ht
  exact ite_legal (State.settle_legal he s) h

/-- The hand-over of a frame: what its owner does with it keeps the ledger legal. -/
theorem State.handOver_legal {s : State} (h : s.ledger.Legal) (kind : FrameKind → Bool) (taken : Bool)
    {owner : Heard → State → State} (ho : ∀ x, (owner x s).ledger.Legal) :
    (s.handOver kind taken owner).ledger.Legal := by
  unfold State.handOver
  split
  · exact h
  · simp only
    rw [State.setPort_ledger]
    exact ite_legal (ho _) h

/-- Every command keeps the ledger legal. -/
theorem exec_legal {s t : State} (h : s.ledger.Legal) (i : Instr) (ht : exec i s = .next t) : t.ledger.Legal := by
  cases i with
  | warmStart stn rate flips =>
    obtain rfl := Host.Outcome.next.inj ht
    exact State.settle_legal (State.warmStart_legal h stn rate flips) _
  | coldStart stn rate =>
    obtain rfl := Host.Outcome.next.inj ht
    exact State.settle_legal (s.coldStart_legal stn rate) _
  | standby =>
    obtain rfl := Host.Outcome.next.inj ht
    exact ite_legal h (State.stopped_legal h _)
  | resetAssert =>
    obtain rfl := Host.Outcome.next.inj ht
    exact ite_legal (State.stopped_legal h _) h
  | markerLost =>
    obtain rfl := Host.Outcome.next.inj ht
    exact State.markerLost_legal h
  | frameHeard frame => exact State.during_legal h ht (ite_legal (State.hear_legal h frame) h)
  | idleBusContend rival => exact State.during_legal h ht (ite_legal (State.contend_legal h rival) h)
  | busError kind role => exact State.during_legal h ht (ite_legal (State.busError_legal h kind role) h)
  | errorMarkSeen role => exact State.during_legal h ht (ite_legal (State.markSeen_legal h role) h)
  | frameHeld role => exact State.during_legal h ht (ite_legal (State.held_legal h role) h)
  | offRecovery bits =>
    exact State.during_legal h ht (ite_legal (by rwa [State.recover_ledger]) h)
  | txPlaceFreed => exact State.during_legal h ht (State.offerPlace_legal h)
  | halt => exact State.during_legal h ht (State.handOver_legal h _ _ fun x => by rwa [State.setHalt_ledger])
  | resume => exact State.during_legal h ht (State.handOver_legal h _ _ fun x => by rwa [State.clearHalt_ledger])
  | calendar => exact State.during_legal h ht (State.handOver_legal h _ _ fun x => h)
  | setup => exact State.during_legal h ht (State.handOver_legal h _ _ fun x => h)
  | setupEnd => exact State.during_legal h ht (State.handOver_legal h _ _ fun x => State.settleSetup_legal h)
  | joinTimeout => exact State.during_legal h ht (ite_legal (by rwa [State.endJoining_ledger]) h)
  | reportHeard => exact State.during_legal h ht (State.handOver_legal h _ _ fun x => h)
  | adjust =>
    exact State.during_legal h ht (State.handOver_legal h _ _ fun x => State.applyAdjust_legal h (adjustOf_legal _))
  | park => exact State.during_legal h ht (State.handOver_legal h _ _ fun x => by rwa [State.takePark_ledger])
  | audit => exact State.during_legal h ht (State.handOver_legal h _ _ fun x => by rwa [State.takeAudit_ledger])
  | order => exact State.during_legal h ht (State.handOver_legal h _ _ fun x => State.takeOrder_legal h _ _)
  | inbound =>
    exact State.during_legal h ht
      (State.handOver_legal h _ _ fun x => State.takeInbound_legal h (twoBytes_le x.frame.payload 0) _)
  | bid => exact State.during_legal h ht (State.handOver_legal h _ _ fun x => State.hearBid_legal h _)
  | claim => exact State.during_legal h ht (State.handOver_legal h _ _ fun x => State.hearClaim_legal h _ _)
  | computationResult => exact State.during_legal h ht (State.takeResult_legal h)
  | windowEnd => exact State.during_legal h ht (State.walkRecords_legal h windowEnd_keepsTyre)
  | secondChance => exact State.during_legal h ht (State.secondChances_legal h)
  | relinquish => exact State.during_legal h ht (State.handOver_legal h _ _ fun x => State.hearRelinquish_legal h _ _)
  | intent => exact State.during_legal h ht (State.handOver_legal h _ _ fun x => State.hearIntent_legal h _ _)
  | bayClear => exact State.during_legal h ht (State.handOver_legal h _ _ fun x => State.hearBayClear_legal h _ _ _)
  | laneIdle => exact State.during_legal h ht (State.handOver_legal h _ _ fun x => State.idleLane_legal h _)
  | faultGraceTimeout => exact State.during_legal h ht (ite_legal (State.graceRunOut_legal h) h)
  | encoderCount dir =>
    exact State.during_legal h ht (State.orLost_legal (r := s.driveCount dir) (by rwa [State.driveCount_ledger]))
  | indexEdge flag =>
    exact State.during_legal h ht (State.orLost_legal (r := s.driveEdge flag) (by rwa [State.driveEdge_ledger]))
  | stallTimeout => exact State.during_legal h ht (ite_legal (State.enterFault_legal h _) h)
  | settleRestTimeout => exact State.during_legal h ht (ite_legal (State.settled_legal h) h)
  | homingRestTimeout => exact State.during_legal h ht (ite_legal (State.homingRested_legal h) h)
  | holdRestTimeout => exact State.during_legal h ht (by rwa [State.tryResume_ledger])
  | curtainClearTimeout => exact State.during_legal h ht (ite_legal (by rwa [State.tryResume_ledger]) h)
  | supplyClearTimeout => exact State.during_legal h ht (ite_legal (by rwa [State.tryResume_ledger]) h)
  | supplyLevelChange level sense => exact State.during_legal h ht (by rwa [State.supplyLevel_ledger])
  | doneHoldTimeout => exact State.during_legal h ht (ite_legal (by rwa [State.startHoming_ledger]) h)
  | scanCycle returns pin flips =>
    have hflipped : (s.setStore (s.store.flipped flips)).ledger.Legal :=
      { h with table := StockStore.flipped_legal h.table flips }
    refine State.during_legal h ht (ite_legal (State.scanFace_legal ?_ returns pin) ?_)
    · exact hflipped
    · exact hflipped
  | doneEdge => exact State.during_legal h ht (State.debounced_legal h _ _ fun u b hu => State.doneLevel_legal hu b)
  | dwellTimeout => exact State.during_legal h ht (ite_legal (State.closeDwell_legal h) h)
  | stopLevelChange high =>
    exact State.during_legal h ht (State.debounced_legal h _ _ fun u b hu => by rwa [State.stopLevel_ledger])
  | curtainChange high =>
    exact State.during_legal h ht (State.debounced_legal h _ _ fun u b hu => by rwa [State.curtainLevel_ledger])
  | arrival high =>
    exact State.during_legal h ht (State.debounced_legal h _ _ fun u b hu => by rwa [State.arrivalLevel_ledger])
  | inboundDeadline =>
    exact State.during_legal h ht (foldl_legal (fun _ r hu => State.giveUpArrivals_legal hu r) _ h)
  | pocketSenseChange p high =>
    exact State.during_legal h ht (State.debounced_legal h _ _ fun u b hu => State.pocketLevel_legal hu p b)
  | jamTimeout =>
    exact State.during_legal h ht (foldl_legal (fun u p hu => by rwa [State.jamPocket_ledger]) _ h)
  | auditScan => exact State.during_legal h ht (State.workScan_legal h)
  | doneRelease => exact State.during_legal h ht (State.debounced_legal h _ _ fun u b hu => State.doneLevel_legal hu b)

/-- Every step keeps the ledger legal: a command at the front of the queue, an own step that is due, or a millisecond. -/
theorem step_legal {s t : State} (h : s.ledger.Legal) (ht : step s = .next t) : t.ledger.Legal := by
  unfold step at ht
  split at ht
  · unfold State.idle at ht
    split at ht
    · split at ht
      · exact exec_legal h _ ht
      · obtain rfl := Host.Outcome.next.inj ht
        rwa [State.tick_ledger]
    · obtain rfl := Host.Outcome.next.inj ht
      exact h
  · refine exec_legal ?_ _ ht
    exact h

/-- Settles O5: the law is the legality of the ledger (`State.stockOk_iff`), which every step keeps. -/
theorem slotRecordsStayLegal : Obligations.SlotRecordsStayLegal := by
  intro s t hs ht
  rw [State.stockOk_iff] at hs ⊢
  exact step_legal hs ht

end Sys2Proof.Machine
end

section
/-! SUPPORT. A cold start (R19): what its step leaves, and that a slot which stands UNVERIFIED is offered to no contest. -/

namespace Sys2Proof.Machine

/-- A slot that stands UNVERIFIED is eligible for no pick (R84). -/
theorem State.pickFit_unverified {s : State} {n : Nat} (h : s.recordAt n = SlotRecord.suspect .unverified)
    (l : OrderLine) : s.pickFit l n = false := by
  simp [State.pickFit, h, SlotRecord.suspect]

/-- A slot that stands UNVERIFIED is eligible for no store (R85). -/
theorem State.storeFit_unverified {s : State} {n : Nat} (h : s.recordAt n = SlotRecord.suspect .unverified)
    (size : Nat) : s.storeFit size n = false := by
  simp [State.storeFit, h, SlotRecord.suspect]

/-- Without a known position there is no planning position, and so no bid (R53, R90). -/
theorem State.bidResult_unhomed {s : State} (h : s.drive.state = .unhomed) (ref : Ref) : s.bidResult ref = none := by
  simp [State.bidResult, State.planningPosition, h]

/-- At a start nothing handed over waits. -/
theorem State.coldStart_quiet (s : State) (stn : BitVec 5) (rate : BitVec 2) : (s.coldStart stn rate).quiet := ⟨rfl, rfl⟩

/-- With nothing handed over, the end of a step leaves the retained store and the report log as they are. -/
theorem State.settle_store_log (before s : State) (h : s.quiet) :
    (State.settle before s).store = s.store ∧ (State.settle before s).control.log = s.control.log := by
  have hwork := State.settle_work before s h
  generalize State.settle before s = t at hwork
  exact ⟨congrArg Work.store hwork, congrArg Work.log hwork⟩

/-- The end of a step leaves an UNHOMED drive UNHOMED. -/
theorem State.settle_unhomed (before s : State) (h : s.drive.state = .unhomed) :
    (State.settle before s).drive.state = .unhomed := by
  have hdrive := (State.settle_drive before s).1 (by simp [h]) (by simp [h])
  generalize State.settle before s = t at hdrive
  have hstate : t.drive.unstuck.state = s.drive.unstuck.state := congrArg Drive.state hdrive
  exact hstate.trans h

/-- Settles O11: the end of the step leaves the store as the cold start lays it out, and the drive UNHOMED. -/
theorem coldStartLaysOutTheStore : Obligations.ColdStartLaysOutTheStore := by
  intro stn rate s
  refine ⟨State.settle (s.coldStart stn rate) (s.coldStart stn rate), rfl, ?_⟩
  have hbook := State.settle_store_log (s.coldStart stn rate) _ (s.coldStart_quiet stn rate)
  have hunhomed := State.settle_unhomed (s.coldStart stn rate) (s.coldStart stn rate) rfl
  generalize State.settle (s.coldStart stn rate) (s.coldStart stn rate) = t at hbook hunhomed
  obtain ⟨hstore, hlog⟩ : t.store = StockStore.cold ∧ t.control.log = [] := hbook
  have hrecord : ∀ n, t.recordAt n = SlotRecord.suspect .unverified := fun n => by rw [State.recordAt, hstore]; rfl
  refine ⟨fun p => by rw [hstore]; rfl, by rw [hstore]; rfl, by rw [hstore]; rfl, hlog, fun g p => by rw [hstore]; rfl,
    fun l n => State.pickFit_unverified (hrecord n) l, fun size n => State.storeFit_unverified (hrecord n) size,
    State.bidResult_unhomed hunhomed, fun u n hu => ⟨State.pickFit_unverified hu, State.storeFit_unverified hu⟩⟩

end Sys2Proof.Machine
end

section
/-! SUPPORT. The gauges of a state: the error counters with the confinement state and the WARN flag they give (R166), and
whether duty may be applied with the brake and the duty (R21). Which operations leave them alone. -/

namespace Sys2Proof.Machine

/-- What R166 and R21 speak of. `turns` says whether duty may be applied (R26). -/
structure Gauges where
  txErrors : Nat
  rxErrors : Nat
  confinement : Confinement
  warn : Bool
  turns : Bool
  brake : Bool
  duty : Nat

/-- The gauges of a state. -/
def State.gauges (s : State) : Gauges :=
  { txErrors := s.port.txErrors, rxErrors := s.port.rxErrors, confinement := s.port.confinement, warn := s.port.warn,
    turns := s.drive.dutyApplied, brake := s.drive.brake, duty := s.drive.duty }

/-- What leaves the port and the drive alone leaves the gauges alone. -/
theorem State.gauges_of_outer {s t : State} (h : t.outer = s.outer) : t.gauges = s.gauges := by
  have hport : t.port = s.port := congrArg Outer.port h
  have hdrive : t.drive = s.drive := congrArg Outer.drive h
  unfold State.gauges
  rw [hport, hdrive]

/-- A fold of operations that leave the gauges alone leaves them alone. -/
theorem foldl_gauges {α : Type} (f : State → α → State) (h : ∀ s x, (f s x).gauges = s.gauges) (xs : List α)
    (s : State) : (xs.foldl f s).gauges = s.gauges := by
  induction xs generalizing s with
  | nil => rfl
  | cons x rest ih => exact (ih (f s x)).trans (h s x)

/-- A conditional operation leaves the gauges as `g` when both its outcomes do. -/
theorem ite_gauges {c : Prop} [Decidable c] {t u : State} {g : Gauges} (ht : t.gauges = g) (hu : u.gauges = g) :
    (if c then t else u).gauges = g := by
  split
  · exact ht
  · exact hu

/-! ### Setters -/

section
variable (s : State)
@[simp] theorem State.setStore_gauges (x : StockStore) : (s.setStore x).gauges = s.gauges := rfl
@[simp] theorem State.setPlanner_gauges (x : Planner) : (s.setPlanner x).gauges = s.gauges := rfl
@[simp] theorem State.setFace_gauges (x : FaceUnit) : (s.setFace x).gauges = s.gauges := rfl
@[simp] theorem State.setContests_gauges (x : ContestEngine) : (s.setContests x).gauges = s.gauges := rfl
@[simp] theorem State.setLanes_gauges (x : LaneTracker) : (s.setLanes x).gauges = s.gauges := rfl
@[simp] theorem State.setLane_gauges (l : Fin 8) (x : Lane) : (s.setLane l x).gauges = s.gauges := rfl
@[simp] theorem State.setPocket_gauges (p : Fin 2) (x : Pocket) : (s.setPocket p x).gauges = s.gauges := rfl
@[simp] theorem State.setEntry_gauges (p : Fin 2) (e : PocketEntry) : (s.setEntry p e).gauges = s.gauges := rfl
@[simp] theorem State.setAudit_gauges (x : AuditUnit) : (s.setAudit x).gauges = s.gauges := rfl
@[simp] theorem State.setControl_gauges (x : StationControl) : (s.setControl x).gauges = s.gauges := rfl
end

/-! ### Work on what has been handed over, which leaves the port and the drive alone -/

section
variable (s : State)
@[simp] theorem State.writeReport_gauges (b : ReportBody) : (s.writeReport b).gauges = s.gauges :=
  State.gauges_of_outer (s.writeReport_outer b)
@[simp] theorem State.updateLine_gauges (l : LineRef) (f : OrderLine → OrderLine) :
    (s.updateLine l f).gauges = s.gauges := State.gauges_of_outer (s.updateLine_outer l f)
@[simp] theorem State.addRelinquish_gauges (l : LineRef) (q : Nat) : (s.addRelinquish l q).gauges = s.gauges :=
  State.gauges_of_outer (s.addRelinquish_outer l q)
@[simp] theorem State.addTask_gauges (w : TaskWork) (slot : Nat) : (s.addTask w slot).gauges = s.gauges := rfl
@[simp] theorem State.requestRestore_gauges (p : Fin 2) : (s.requestRestore p).gauges = s.gauges :=
  State.gauges_of_outer (s.requestRestore_outer p)
@[simp] theorem State.reportShort_gauges (id n : Nat) (c : ShortCause) (r : Option Receiving) :
    (s.reportShort id n c r).gauges = s.gauges := State.gauges_of_outer (s.reportShort_outer id n c r)
@[simp] theorem State.readSlot_gauges (slot : Nat) : (s.readSlot slot).state.gauges = s.gauges :=
  State.gauges_of_outer (s.readSlot_outer slot)
@[simp] theorem State.request_gauges (slot : Nat) (a : SlotRecord → Bool) (n : SlotRecord → SlotRecord) :
    (s.request slot a n).state.gauges = s.gauges := State.gauges_of_outer (s.request_outer slot a n)
@[simp] theorem State.readSlots_gauges (slots : List Nat) : (s.readSlots slots).gauges = s.gauges :=
  State.gauges_of_outer (s.readSlots_outer slots)
@[simp] theorem State.writeRecord_gauges (slot : Nat) (r : SlotRecord) : (s.writeRecord slot r).gauges = s.gauges :=
  State.gauges_of_outer (s.writeRecord_outer slot r)
@[simp] theorem State.cancelPicks_gauges (test : LineRef → Bool) : (s.cancelPicks test).gauges = s.gauges :=
  State.gauges_of_outer (s.cancelPicks_outer test)
@[simp] theorem State.cancelLoad_gauges (slot : Nat) : (s.cancelLoad slot).gauges = s.gauges :=
  State.gauges_of_outer (s.cancelLoad_outer slot)
@[simp] theorem State.applyAdjust_gauges (a : AdjustFields) : (s.applyAdjust a).gauges = s.gauges :=
  State.gauges_of_outer (s.applyAdjust_outer a)
@[simp] theorem State.becomeForeign_gauges (p : Fin 2) : (s.becomeForeign p).gauges = s.gauges :=
  State.gauges_of_outer (s.becomeForeign_outer p)
@[simp] theorem State.relocateAll_gauges : s.relocateAll.gauges = s.gauges :=
  State.gauges_of_outer s.relocateAll_outer
@[simp] theorem State.refreshDwell_gauges : s.refreshDwell.gauges = s.gauges :=
  State.gauges_of_outer s.refreshDwell_outer
@[simp] theorem State.testCompletion_gauges : s.testCompletion.gauges = s.gauges :=
  State.gauges_of_outer s.testCompletion_outer
@[simp] theorem State.endDwell_gauges : s.endDwell.gauges = s.gauges := State.gauges_of_outer s.endDwell_outer
@[simp] theorem State.closeDwell_gauges : s.closeDwell.gauges = s.gauges := State.gauges_of_outer s.closeDwell_outer
@[simp] theorem State.presenceChange_gauges (place : Nat) (b : Bool) : (s.presenceChange place b).gauges = s.gauges :=
  State.gauges_of_outer (s.presenceChange_outer place b)
end

/-! ### Frames and contest records -/

@[simp] theorem State.queueFrame_gauges (s : State) (f : Frame) : (s.queueFrame f).gauges = s.gauges := rfl

@[simp] theorem State.offerReport_gauges (s : State) : s.offerReport.gauges = s.gauges := by
  unfold State.offerReport
  split
  · split
    · rfl
    · split <;> rfl
  · rfl

@[simp] theorem State.queueRelinquish_gauges (s : State) : s.queueRelinquish.gauges = s.gauges := by
  unfold State.queueRelinquish
  split
  · rfl
  · split_ifs <;> rfl

/-- A walk whose visits leave the gauges alone leaves them alone. -/
theorem State.walkRecords_gauges (s : State) {visit : State → Contest → State × Option Contest}
    (h : ∀ t c, (visit t c).1.gauges = t.gauges) : (s.walkRecords visit).gauges = s.gauges := by
  have hfold : ∀ (cs : List Contest) (acc : State × List Contest),
      (cs.foldl (fun acc c => ((visit acc.1 c).1, acc.2 ++ (visit acc.1 c).2.toList)) acc).1.gauges = acc.1.gauges := by
    intro cs
    induction cs with
    | nil => intro acc; rfl
    | cons c rest ih => intro acc; exact (ih _).trans (h acc.1 c)
  exact hfold s.contests.records (s, [])

@[simp] theorem State.withdrawBid_gauges (s : State) (c : Contest) : (s.withdrawBid c).gauges = s.gauges := by
  unfold State.withdrawBid; split <;> rfl

@[simp] theorem State.withdrawClaim_gauges (s : State) (c : Contest) : (s.withdrawClaim c).gauges = s.gauges := by
  unfold State.withdrawClaim; split <;> rfl

@[simp] theorem State.withdrawOwn_gauges (s : State) (c : Contest) : (s.withdrawOwn c).gauges = s.gauges := by
  unfold State.withdrawOwn; simp

@[simp] theorem State.endRecord_gauges (s : State) (c : Contest) : (s.endRecord c).1.gauges = s.gauges := by
  unfold State.endRecord; split_ifs <;> simp

@[simp] theorem State.endRecords_gauges (s : State) (test : Contest → Bool) : (s.endRecords test).gauges = s.gauges := by
  refine s.walkRecords_gauges fun t c => ?_
  split <;> simp

@[simp] theorem State.freeRecords_gauges (s : State) (test : Contest → Bool) :
    (s.freeRecords test).gauges = s.gauges := by
  refine s.walkRecords_gauges fun t c => ?_
  split <;> simp

@[simp] theorem State.discardComputation_gauges (s : State) (test : Ref → Bool) :
    (s.discardComputation test).gauges = s.gauges := by
  unfold State.discardComputation
  split
  · rfl
  · split <;> rfl

@[simp] theorem State.contestExit_gauges (s : State) : s.contestExit.gauges = s.gauges := by
  unfold State.contestExit; simp

@[simp] theorem State.claimRecord_gauges (s : State) (c : Contest) : (s.claimRecord c).1.gauges = s.gauges := by
  unfold State.claimRecord; split_ifs <;> rfl

@[simp] theorem State.decideRecord_gauges (s : State) (c : Contest) : (s.decideRecord c).1.gauges = s.gauges := by
  unfold State.decideRecord
  split
  · simp
  · split <;> simp

@[simp] theorem State.windowEnds_gauges (s : State) : (s.walkRecords State.windowEnd).gauges = s.gauges := by
  refine s.walkRecords_gauges fun t c => ?_
  unfold State.windowEnd
  split_ifs <;> simp

@[simp] theorem State.secondChances_gauges (s : State) : s.secondChances.gauges = s.gauges := by
  have hwalk : (s.walkRecords State.secondChance).gauges = s.gauges := by
    refine s.walkRecords_gauges fun t c => ?_
    unfold State.secondChance
    split_ifs <;> simp
  exact hwalk

@[simp] theorem State.outbid_gauges (s : State) (c : Contest) : (s.outbid c).1.gauges = s.gauges := by
  unfold State.outbid
  split
  case h_3 => split <;> simp
  all_goals simp

@[simp] theorem State.trackBid_gauges (s : State) (ref : Ref) (round key : Nat) (c : Contest) :
    (State.trackBid ref round key s c).1.gauges = s.gauges := by
  unfold State.trackBid
  split
  · simp only
    split <;> simp
  · rfl

@[simp] theorem State.hearOwnBid_gauges (s : State) (ref : Ref) (round : Nat) (c : Contest) :
    (State.hearOwnBid ref round s c).1.gauges = s.gauges := by
  unfold State.hearOwnBid
  split
  · simp only
    split <;> simp
  · rfl

@[simp] theorem State.hearBid_gauges (s : State) (f : Frame) : (s.hearBid f).gauges = s.gauges :=
  ite_gauges (s.walkRecords_gauges fun t c => t.hearOwnBid_gauges _ _ c)
    (s.walkRecords_gauges fun t c => t.trackBid_gauges _ _ _ c)

@[simp] theorem State.dropBid_gauges (s : State) (f : Frame) : (s.dropBid f).gauges = s.gauges := by
  refine s.walkRecords_gauges fun t c => ?_
  split_ifs <;> simp

@[simp] theorem State.openRound_gauges (s : State) (o : RoundOpen) : (s.openRound o).gauges = s.gauges :=
  s.endRecords_gauges _

@[simp] theorem State.openNext_gauges (s : State) (ref : Ref) (round : Option Nat) (stamp : Timer) :
    (s.openNext ref round stamp).gauges = s.gauges := by
  unfold State.openNext; split <;> simp

@[simp] theorem State.takeResult_gauges (s : State) : s.takeResult.gauges = s.gauges := by
  unfold State.takeResult
  split
  · rfl
  · simp only
    split
    · rfl
    · split <;> rfl

@[simp] theorem State.takeInbound_gauges (s : State) (f : InboundFields) (stamp : Timer) :
    (s.takeInbound f stamp).gauges = s.gauges := by
  have hfree : (s.freeOffer f.inboundId).gauges = s.gauges := s.endRecords_gauges _
  unfold State.takeInbound
  simp only
  refine ite_gauges (ite_gauges ?_ (ite_gauges hfree rfl)) rfl
  rw [State.openRound_gauges]
  exact ite_gauges hfree rfl

/-! ### Claims (R108 to R112, R122, R123) -/

@[simp] theorem State.relinquishSome_gauges (s : State) (l : LineRef) (q : Nat) :
    (s.relinquishSome l q).gauges = s.gauges := by
  unfold State.relinquishSome; split <;> simp

@[simp] theorem State.reportFailed_gauges (s : State) (id n : Nat) : (s.reportFailed id n).gauges = s.gauges := by
  unfold State.reportFailed; split <;> simp

@[simp] theorem State.askReceiving_gauges (s : State) (id n : Nat) (stamp : Timer) :
    (s.askReceiving id n stamp).gauges = s.gauges := by
  unfold State.askReceiving
  simp only
  split
  · rfl
  · split <;> rfl

@[simp] theorem State.takePickSlot_gauges (s : State) (l : LineRef) (slot : Nat) :
    (s.takePickSlot l slot).1.gauges = s.gauges := by
  unfold State.takePickSlot
  simp only
  split
  · simp
  · split_ifs <;> simp

@[simp] theorem State.takeStoreSlot_gauges (s : State) (id : Nat) (tyre : StockData) (slot : Nat) :
    (s.takeStoreSlot id tyre slot).1.gauges = s.gauges := by
  unfold State.takeStoreSlot
  simp only
  split_ifs <;> simp

theorem State.takeSlots_gauges {take : State → Nat → State × Bool} (h : ∀ t n, (take t n).1.gauges = t.gauges)
    (s : State) (slots : List Nat) : (State.takeSlots take s slots).1.gauges = s.gauges := by
  induction slots generalizing s with
  | nil => rfl
  | cons n rest ih => exact (ih _).trans (h s n)

@[simp] theorem State.takePick_gauges (s : State) (l : LineRef) (slots : List Nat) :
    (s.takePick l slots).gauges = s.gauges :=
  (State.relinquishSome_gauges _ l _).trans (State.takeSlots_gauges (fun t n => t.takePickSlot_gauges l n) s slots)

@[simp] theorem State.takeStore_gauges (s : State) (id : Nat) (tyre : StockData) (slots : List Nat) (stamp : Timer) :
    (s.takeStore id tyre slots stamp).gauges = s.gauges := by
  have htaken := State.takeSlots_gauges (fun t n => t.takeStoreSlot_gauges id tyre n) s slots
  refine ite_gauges ?_ (s.reportFailed_gauges id _)
  rw [State.reportFailed_gauges]
  exact ite_gauges htaken ((State.askReceiving_gauges _ _ _ _).trans htaken)

@[simp] theorem State.takeOwnClaim_gauges (s : State) (c : ClaimFields) (applied : Nat) (stamp : Timer) :
    (s.takeOwnClaim c applied stamp).gauges = s.gauges := by
  have hfreed : ∀ r, (s.freeClaimed r).gauges = s.gauges := fun r => s.withdrawBid_gauges r
  unfold State.takeOwnClaim
  split
  · refine ite_gauges (hfreed _) ?_
    split
    · simp [hfreed]
    · split <;> simp [hfreed]
  · split <;> simp

@[simp] theorem State.applyAnyClaim_gauges (s : State) (c : ClaimFields) (own : Bool) :
    (s.applyAnyClaim c own).state.gauges = s.gauges := by
  unfold State.applyAnyClaim State.applyClaim State.applyOfferClaim
  split
  · split <;> simp
  · split <;> rfl

@[simp] theorem State.hearClaim_gauges (s : State) (f : Frame) (stamp : Timer) :
    (s.hearClaim f stamp).gauges = s.gauges := by
  unfold State.hearClaim
  simp only
  rw [State.openNext_gauges, State.endRecords_gauges]
  refine ite_gauges ?_ (s.applyAnyClaim_gauges _ _)
  rw [State.takeOwnClaim_gauges, State.applyAnyClaim_gauges]

@[simp] theorem State.hearRelinquish_gauges (s : State) (f : Frame) (stamp : Timer) :
    (s.hearRelinquish f stamp).gauges = s.gauges := by
  have hgone : (if f.key.station = s.own then s.relinquishGone else s).gauges = s.gauges := by
    refine ite_gauges ?_ rfl
    unfold State.relinquishGone
    split
    · rfl
    · split <;> rfl
  have happly : ∀ (t : State) l q, (t.applyRelinquish l q).state.gauges = t.gauges := by
    intro t l q
    unfold State.applyRelinquish
    split <;> simp
  unfold State.hearRelinquish
  simp only
  split
  · exact hgone
  · rw [State.openNext_gauges, happly]
    exact hgone

/-! ### Pockets, orders and lanes (R121 to R141) -/

@[simp] theorem State.queueIntent_gauges (s : State) (p : Fin 2) : (s.queueIntent p).gauges = s.gauges := by
  unfold State.queueIntent
  split
  · rfl
  · rfl
  · split
    · rfl
    · split <;> rfl

@[simp] theorem State.withdrawIntent_gauges (s : State) (p : Fin 2) : (s.withdrawIntent p).gauges = s.gauges := by
  unfold State.withdrawIntent
  split
  · rfl
  · rfl
  · split
    · rfl
    · split <;> rfl

@[simp] theorem State.turnRestore_gauges (s : State) (p : Fin 2) : (s.turnRestore p).gauges = s.gauges := by
  unfold State.turnRestore
  simp only
  split <;> simp

@[simp] theorem State.restoreEntries_gauges (s : State) (test : LineRef → Bool) :
    (s.restoreEntries test).gauges = s.gauges := by
  apply foldl_gauges
  intro t p
  split
  · rfl
  · split
    · rfl
    · split <;> simp

@[simp] theorem State.resendRefused_gauges (s : State) (lane : Fin 8) : (s.resendRefused lane).gauges = s.gauges := by
  apply foldl_gauges
  intro t p
  split
  · rfl
  · split
    · rfl
    · split <;> simp

@[simp] theorem State.dropIntents_gauges (s : State) : s.dropIntents.gauges = s.gauges := by
  apply foldl_gauges
  intro t p
  split
  · rfl
  · split <;> rfl

@[simp] theorem State.completeGrant_gauges (s : State) (p : Fin 2) (e : PocketEntry) :
    (s.completeGrant p e).gauges = s.gauges := by
  unfold State.completeGrant
  simp only [State.setPocket_gauges, State.request_gauges]
  split <;> simp

@[simp] theorem State.loadEntry_gauges (s : State) (p : Fin 2) (e : PocketEntry) :
    (s.loadEntry p e).gauges = s.gauges := State.queueIntent_gauges _ p

@[simp] theorem State.takeOrder_gauges (s : State) (o : OrderFields) (stamp : Timer) :
    (s.takeOrder o stamp).gauges = s.gauges :=
  ite_gauges (foldl_gauges _ (fun t _ => t.openRound_gauges _) _ (s.openOrder o)) rfl

@[simp] theorem State.hearIntent_gauges (s : State) (lane : Fin 8) (f : Frame) :
    (s.hearIntent lane f).gauges = s.gauges := by
  have hgrant : ∀ line, (s.countGrant line).gauges = s.gauges := fun line => s.updateLine_gauges line _
  have hown : ∀ (t : State) line granted, (t.ownIntent line granted).gauges = t.gauges := by
    intro t line granted
    unfold State.ownIntent
    split
    · rfl
    · exact ite_gauges (ite_gauges rfl (t.completeGrant_gauges _ _)) rfl
  refine ite_gauges ?_ (ite_gauges (hgrant _) rfl)
  rw [hown]
  exact ite_gauges (hgrant _) rfl

@[simp] theorem State.clearBay_gauges (s : State) (lane : Fin 8) (bay : Fin 4) (resend : Bool) :
    (s.clearBay lane bay resend).gauges = s.gauges := by
  have hfree : (s.freeBay lane bay).gauges = s.gauges := by unfold State.freeBay; split <;> rfl
  unfold State.clearBay State.giveUpBay
  simp only
  split <;> simp [hfree]

@[simp] theorem State.hearBayClear_gauges (s : State) (lane : Fin 8) (bay : Fin 4) (order : Nat) :
    (s.hearBayClear lane bay order).gauges = s.gauges := by
  unfold State.hearBayClear; split <;> simp

@[simp] theorem State.idleLane_gauges (s : State) (lane : Fin 8) : (s.idleLane lane).gauges = s.gauges :=
  foldl_gauges _ (fun t bay => t.clearBay_gauges lane bay false) _ s

@[simp] theorem State.blindLane_gauges (s : State) (lane : Fin 8) : (s.blindLane lane).gauges = s.gauges := by
  have hgive : ∀ (t : State) l, (t.giveBackLine l).gauges = t.gauges := by
    intro t l
    unfold State.giveBackLine
    split <;> simp
  unfold State.blindLane
  simp only
  split
  · simp [foldl_gauges _ hgive]
  · rfl

@[simp] theorem State.loseView_gauges (s : State) : s.loseView.gauges = s.gauges := by
  unfold State.loseView State.emptyOffers State.blindAll
  rw [State.setContests_gauges, foldl_gauges _ State.blindLane_gauges]

@[simp] theorem State.pocketLevel_gauges (s : State) (p : Fin 2) (present : Bool) :
    (s.pocketLevel p present).gauges = s.gauges := by
  have hsense : (s.setSense p present).gauges = s.gauges := rfl
  unfold State.pocketLevel
  split
  · rw [← hsense]
    unfold State.pocketAdopted
    split <;> simp
  · split_ifs
    · rfl
    · rw [← hsense]
      unfold State.pocketFilled
      simp only
      split
      · split_ifs <;> simp
      · split_ifs <;> simp
      · simp
      · simp
      · rfl
    · rw [← hsense]
      unfold State.pocketEmptied
      split
      · rfl
      · rfl
      · split <;> simp

@[simp] theorem State.jamPocket_gauges (s : State) (p : Fin 2) : (s.jamPocket p).gauges = s.gauges := by
  unfold State.jamPocket
  split
  · split <;> rfl
  · rfl

/-! ### The face and the audit -/

@[simp] theorem State.scanFace_gauges (s : State) (returns : BitVec 12) (pin : BitVec 16) :
    (s.scanFace returns pin).gauges = s.gauges := by
  have hcycle : ∀ t : State, (t.settleCycle pin).gauges = t.gauges := by
    intro t
    unfold State.settleCycle
    split
    · rfl
    · exact ite_gauges rfl rfl
  refine ite_gauges ?_ (hcycle _)
  exact (foldl_gauges _ (fun (t : State) (c : Nat × Bool) => t.presenceChange_gauges c.1 c.2) _ _).trans (hcycle _)

@[simp] theorem State.arrivalLevel_gauges (s : State) (active : Bool) : (s.arrivalLevel active).gauges = s.gauges := by
  have hdelivered : ∀ t : State, t.delivered.gauges = t.gauges := by
    intro t
    unfold State.delivered
    split <;> simp
  exact ite_gauges (hdelivered _) rfl

@[simp] theorem State.giveUpArrivals_gauges (s : State) (r : Receiving) : (s.giveUpArrivals r).gauges = s.gauges := by
  have hcancelled : ∀ tasks : List Task, (tasks.foldl (fun u x => u.cancelLoad x.slot) s).gauges = s.gauges :=
    fun tasks => foldl_gauges _ (fun (t : State) (x : Task) => t.cancelLoad_gauges x.slot) tasks s
  exact ite_gauges (hcancelled _) ((State.reportShort_gauges _ _ _ _ _).trans (hcancelled _))

/-- DONE changes the timing of its hold and the dwell, and no gauge (R40, R73). -/
@[simp] theorem State.doneLevel_gauges (s : State) (active : Bool) : (s.doneLevel active).gauges = s.gauges := by
  have hdwell : ∀ t : State, t.doneDwell.gauges = t.gauges := by
    intro t
    unfold State.doneDwell
    split
    · rfl
    · exact ite_gauges t.closeDwell_gauges rfl
  have htimed : ∀ t : State, (if t.drive.state = .fault then t.setDrive { t.drive with doneSince := some t.timer } else t).gauges
      = t.gauges := fun t => ite_gauges rfl rfl
  exact ite_gauges (ite_gauges rfl (ite_gauges ((hdwell _).trans (htimed _)) (htimed _))) rfl

@[simp] theorem Comparison.slots_gauges (c : Comparison) (slot : Nat) (image : List Bool) :
    (c.slots slot image).state.gauges = c.state.gauges := by
  have hslot : ∀ (c : Comparison) slot present, (c.slot slot present).state.gauges = c.state.gauges := by
    intro c slot present
    unfold Comparison.slot
    simp only
    split
    · simp
    · split <;> simp
  induction image generalizing c slot with
  | nil => rfl
  | cons present rest ih => exact (ih _ _).trans (hslot c slot present)

@[simp] theorem State.answerFace_gauges (s : State) (scan : Scan) : (s.answerFace scan).gauges = s.gauges := by
  unfold State.answerFace
  split
  · rfl
  · refine ite_gauges ?_ rfl
    rw [State.testCompletion_gauges, foldl_gauges _ fun (t : State) (c : Nat × Bool) => t.presenceChange_gauges c.1 c.2]
    exact State.refreshDwell_gauges _

@[simp] theorem State.workScan_gauges (s : State) : s.workScan.gauges = s.gauges := by
  have hmark : ∀ (t : State) scan m, (t.setMark scan m).gauges = t.gauges := fun _ _ _ => rfl
  have hweigh : ∀ (t : State) scan unknown, (t.weigh scan unknown).1.gauges = t.gauges := by
    intro t scan unknown
    unfold State.weigh
    simp only
    split_ifs <;> simp [hmark]
  have hsweep : ∀ (t : State) c n, (t.sweepOff c n).gauges = t.gauges := by
    intro t c n
    unfold State.sweepOff
    simp only
    split <;> simp
  have hcount : ∀ (t : State) a b, (t.countStop a b).gauges = t.gauges := fun _ _ _ => rfl
  unfold State.workScan
  split
  · rfl
  · unfold State.auditScan
    simp only
    rw [State.answerFace_gauges, hcount]
    split <;> simp [hsweep, hweigh]

/-! ### The port's own frames (R157, R164) -/

@[simp] theorem State.changeContender_gauges (s : State) (f : TxFrame → TxFrame) :
    (s.changeContender f).gauges = s.gauges := by
  unfold State.changeContender
  split
  · rfl
  · split <;> rfl

@[simp] theorem State.failContender_gauges (s : State) : s.failContender.gauges = s.gauges := by
  have hremove : s.removeContender.gauges = s.gauges := by
    unfold State.removeContender
    split <;> rfl
  unfold State.failContender
  split
  · rfl
  · split <;> simp [hremove]

@[simp] theorem State.contend_gauges (s : State) (rival : Option Key) : (s.contend rival).gauges = s.gauges := by
  have hstarted : ∀ (t : State) line, (t.intentStarted line).gauges = t.gauges := by
    intro t line
    unfold State.intentStarted
    split <;> rfl
  have htell : ∀ (t : State) f, (t.tellStarted f).gauges = t.gauges := by
    intro t f
    have hwalk : (t.walkRecords fun u c => (u, some (c.onBus t.own f))).gauges = t.gauges :=
      t.walkRecords_gauges fun _ _ => rfl
    unfold State.tellStarted
    simp only
    split
    · exact (hstarted _ _).trans hwalk
    · exact hwalk
  unfold State.contend
  split
  · rfl
  · exact ite_gauges rfl (ite_gauges rfl ((htell _ _).trans (s.changeContender_gauges _)))

@[simp] theorem State.held_gauges (s : State) (role : BusRole) : (s.held role).gauges = s.gauges := by
  unfold State.held; split <;> simp

@[simp] theorem State.offerPlace_gauges (s : State) : s.offerPlace.gauges = s.gauges := by
  unfold State.offerPlace
  split
  · split
    · rfl
    · split
      · simp
      · split <;> simp
  · rfl

@[simp] theorem State.joinOverflow_gauges (s : State) : s.joinOverflow.gauges = s.gauges := State.loseView_gauges _

@[simp] theorem State.enqueue_gauges (s : State) (f : Frame) : (s.enqueue f).gauges = s.gauges := by
  unfold State.enqueue; split <;> rfl

/-! ### The end of a step but for the planner's part, and a millisecond -/

@[simp] theorem State.faced_gauges (s : State) : s.faced.gauges = s.gauges := by
  unfold State.gauges
  rw [State.faced_port, State.faced_drive]

theorem State.settle_gauges (before s : State) : (State.settle before s).gauges = (State.plan before s.faced).gauges := by
  have hsuspend : ∀ t : State, t.suspendScan.gauges = t.gauges := fun t => ite_gauges rfl rfl
  have hlamps : ∀ t : State, (State.takeLamps before t).gauges = t.gauges := fun _ => rfl
  have hnews : ∀ t : State, (State.noteNews before t).gauges = t.gauges := fun t => ite_gauges rfl rfl
  have hrelease : ∀ t : State, t.releaseHead.gauges = t.gauges := fun t => ite_gauges rfl rfl
  have hoffer : ∀ t : State, t.offerRest.gauges = t.gauges := fun t => ite_gauges rfl (by simp)
  exact (hoffer _).trans ((hrelease _).trans ((hnews _).trans ((hlamps _).trans (hsuspend _))))

@[simp] theorem State.tick_gauges (s : State) : s.tick.gauges = s.gauges := by
  unfold State.tick
  simp only
  split
  · rfl
  · exact ite_gauges rfl rfl

end Sys2Proof.Machine
end

section
/-! SUPPORT. Every command keeps the counters' rule (R166) and the brake's rule (R21), and the proof of the statement about
them. The rule of the brake is said of the drive alone: either no duty may be applied, the brake is set and the duty 0, or the
loop may turn and the brake is released. -/

namespace Sys2Proof.Machine

/-- Brake and duty as R21 and the table of 2.3 say. -/
def Drive.Ruled (d : Drive) : Prop :=
  (d.dutyApplied = false ∧ d.brake = true ∧ d.duty = 0) ∨ (d.dutyApplied = true ∧ d.brake = false)

theorem State.brakeOk_iff {s : State} : s.brakeOk = true ↔ s.drive.Ruled := by
  unfold State.brakeOk Drive.Ruled
  cases s.drive.dutyApplied <;> cases s.drive.brake <;> simp

/-- A drive at rest whose brake and duty stand as another ruled drive at rest has them. -/
theorem Drive.Ruled.rests {d e : Drive} (h : d.Ruled) (hd : d.dutyApplied = false) (he : e.dutyApplied = false)
    (hbrake : e.brake = d.brake) (hduty : e.duty = d.duty) : e.Ruled := by
  rcases h with ⟨_, hset, hzero⟩ | ⟨hturns, _⟩
  · exact .inl ⟨he, hbrake.trans hset, hduty.trans hzero⟩
  · rw [hd] at hturns; cases hturns

/-- A drive that turns as another ruled drive does, whatever the duty of the two. -/
theorem Drive.Ruled.turns {d e : Drive} (h : d.Ruled) (hd : d.dutyApplied = true) (he : e.dutyApplied = true)
    (hbrake : e.brake = d.brake) : e.Ruled := by
  rcases h with ⟨hrests, _⟩ | ⟨_, hreleased⟩
  · rw [hd] at hrests; cases hrests
  · exact .inr ⟨he, hbrake.trans hreleased⟩

/-- A drive with the brake and duty of another that turns if and only if that one does. -/
theorem Drive.Ruled.same {d e : Drive} (h : d.Ruled) (he : e.dutyApplied = d.dutyApplied) (hbrake : e.brake = d.brake)
    (hduty : e.duty = d.duty) : e.Ruled := by
  unfold Drive.Ruled
  rwa [he, hbrake, hduty]

theorem Drive.Ruled.ite {c : Prop} [Decidable c] {d e : Drive} (hd : d.Ruled) (he : e.Ruled) :
    (if c then d else e).Ruled := by
  split
  · exact hd
  · exact he

/-- From one state to the other both rules are kept. -/
structure State.Follows (s t : State) : Prop where
  confinement : s.confinementOk = true → t.confinementOk = true
  brake : s.drive.Ruled → t.drive.Ruled

/-- What leaves the gauges alone keeps both rules. -/
theorem State.Follows.of_gauges {s t : State} (h : t.gauges = s.gauges) : s.Follows t where
  confinement hs := by
    have hok : t.confinementOk = s.confinementOk := congrArg (fun g : Gauges =>
      decide (g.confinement = confinementOf g.txErrors g.rxErrors) && decide (g.warn = warnOf g.txErrors g.rxErrors)) h
    rwa [hok]
  brake hs := hs.same (congrArg Gauges.turns h) (congrArg Gauges.brake h) (congrArg Gauges.duty h)

theorem State.Follows.refl (s : State) : s.Follows s := .of_gauges rfl

theorem State.Follows.trans {s t u : State} (h : s.Follows t) (g : t.Follows u) : s.Follows u where
  confinement hs := g.confinement (h.confinement hs)
  brake hs := g.brake (h.brake hs)

/-- What follows without a change of the gauges. -/
theorem State.Follows.then {s t u : State} (h : s.Follows t) (g : u.gauges = t.gauges) : s.Follows u :=
  h.trans (.of_gauges g)

/-- What follows on a change that leaves the gauges alone. -/
theorem State.Follows.after {s t u : State} (h : t.Follows u) (g : t.gauges = s.gauges) : s.Follows u :=
  (State.Follows.of_gauges g).trans h

theorem State.Follows.ite {c : Prop} [Decidable c] {s t u : State} (ht : c → s.Follows t) (hu : s.Follows u) :
    s.Follows (if c then t else u) := by
  split
  · exact ht ‹c›
  · exact hu

/-- A change of the drive alone. -/
theorem State.Follows.of_drive {s : State} {d : Drive} (h : s.drive.Ruled → d.Ruled) : s.Follows (s.setDrive d) where
  confinement hs := hs
  brake := h

/-! ### Counters and confinement (R165 to R167) -/

/-- The port's counters changed and judged again. -/
theorem State.follows_withCounters (s : State) (tx rx gaps : Nat) :
    s.Follows (s.setPort { s.port.withCounters tx rx with gaps := gaps }) where
  confinement _ := by simp [State.confinementOk, BusPort.withCounters]
  brake hs := hs

theorem State.setCounters_follows (s : State) (tx rx : Nat) : s.Follows (s.setCounters tx rx) := by
  have hjudged : s.Follows (s.setPort (s.port.withCounters tx rx)) := s.follows_withCounters tx rx s.port.gaps
  have hoff : ∀ t : State, t.enterOff.gauges = t.gauges := by
    intro t
    unfold State.enterOff
    simp only [State.loseView_gauges, State.dropIntents_gauges]
    exact t.contestExit_gauges
  unfold State.setCounters
  refine .ite (fun _ => hjudged) ?_
  split
  · exact hjudged
  · exact hjudged.then (State.contestExit_gauges _)
  · exact hjudged.then (hoff _)

theorem State.receiveError_follows (s : State) : s.Follows s.receiveError := by
  have hcounted := s.setCounters_follows s.port.txErrors (raiseTo maxByteCount 1 s.port.rxErrors)
  have hjoined := State.Follows.ite (c := s.listenOnly = true)
    (fun _ => hcounted.then (State.joinOverflow_gauges _)) hcounted
  exact .ite (fun _ => hjoined.then ((State.loseView_gauges _).trans (State.contestExit_gauges _))) hjoined

theorem State.busError_follows (s : State) (kind : BusError) (role : BusRole) : s.Follows (s.busError kind role) := by
  have hstuck : s.Follows (s.setPort (s.port.stick kind)) := .of_gauges (by cases kind <;> rfl)
  unfold State.busError
  cases role with
  | transmitter => exact (hstuck.then (State.failContender_gauges _)).trans (State.setCounters_follows _ _ _)
  | receiver => exact hstuck.trans (State.receiveError_follows _)

theorem State.markSeen_follows (s : State) (role : BusRole) : s.Follows (s.markSeen role) := by
  cases role with
  | transmitter =>
    exact (State.Follows.of_gauges s.failContender_gauges).trans (State.setCounters_follows _ _ _)
  | receiver => exact .refl s

theorem State.recover_follows (s : State) (bits : Nat) : s.Follows (s.recover bits) :=
  .ite (fun _ => s.follows_withCounters 0 0 0) (.of_gauges rfl)

theorem State.countSuccess_follows (s : State) (f : Frame) : s.Follows (s.countSuccess f) := by
  refine .ite (fun _ => ?_) (s.setCounters_follows _ _)
  exact (State.setCounters_follows _ _ _).after rfl

theorem State.hear_follows (s : State) (f : Frame) : s.Follows (s.hear f) :=
  .ite (fun _ => s.busError_follows _ _)
    (.ite (fun _ => .ite (fun _ => .of_gauges s.joinOverflow_gauges) (.of_gauges (s.held_gauges _)))
      ((s.countSuccess_follows f).then (State.enqueue_gauges _ f)))

/-! ### Moves, holding and homing (R28, R35 to R38) -/

theorem State.beginMotion_ruled (s : State) (dir : Direction) (travel : Nat) :
    (s.beginMotion dir travel).drive.Ruled := .inr ⟨rfl, rfl⟩

theorem State.turnHoming_ruled (s : State) : s.turnHoming.drive.Ruled := .inr ⟨rfl, rfl⟩

theorem State.enterSettling_ruled (s : State) : s.enterSettling.drive.Ruled := .inl ⟨rfl, rfl, rfl⟩

/-- An accepted move starts from IDLE, where the brake is set. -/
theorem State.takeMove_follows {s : State} (h : s.drive.state = .idle) (target : Nat) : s.Follows (s.takeMove target) := by
  have hrests : s.drive.dutyApplied = false := by simp [Drive.dutyApplied, h]
  exact .ite (fun _ => .of_drive fun hs => hs.rests hrests rfl rfl rfl)
    (.of_drive fun _ => State.beginMotion_ruled (s.setDrive { s.drive with target := some target }) _ _)

theorem State.startStop_follows {s : State} (h : s.drive.state = .idle) (st : Stop) : s.Follows (s.startStop st) := by
  unfold State.startStop
  split
  · exact (State.takeMove_follows h st.target).then rfl
  · obtain ⟨hport, hdrive, _, _⟩ := s.settledAt_parts st.target
    exact .of_gauges (by unfold State.gauges; rw [hport, hdrive])
  · exact .refl s

/-- The planner is asked for a stop in IDLE alone. -/
theorem State.chooseNext_follows (s : State) : s.Follows s.chooseNext := by
  unfold State.chooseNext
  refine .ite (fun hmay => ?_) (.refl s)
  have hidle : s.drive.state = .idle := by
    simp only [State.mayChoose, Bool.and_eq_true, decide_eq_true_eq] at hmay
    exact hmay.1.1.2
  split
  · exact State.startStop_follows hidle _
  · exact .of_gauges (ite_gauges rfl rfl)

theorem State.plan_follows (before s : State) : s.Follows (State.plan before s) := by
  have hretarget : ∀ t : State, (State.retarget before t).gauges = t.gauges := by
    intro t
    refine ite_gauges ?_ rfl
    split
    · rfl
    · split <;> rfl
  exact s.chooseNext_follows.then (hretarget _)

/-- The end of a step keeps both rules. -/
theorem State.settle_follows (before s : State) : s.Follows (State.settle before s) :=
  ((State.Follows.of_gauges s.faced_gauges).trans (State.plan_follows before s.faced)).then (State.settle_gauges before s)

theorem State.startHoming_follows (s : State) : s.Follows s.startHoming := by
  unfold State.startHoming
  refine .ite (fun hs => ?_) (.refl s)
  have hrests : s.drive.dutyApplied = false := by rcases hs with hs | hs <;> simp [Drive.dutyApplied, hs]
  exact .ite (fun _ => .of_drive fun hd => hd.rests hrests rfl rfl rfl)
    (.of_drive fun _ => State.turnHoming_ruled (s.setDrive _))

theorem State.endJoining_follows (s : State) : s.Follows s.endJoining :=
  (State.startHoming_follows _).after rfl

/-- Held work stands with the brake set. -/
theorem State.holdIfTurning_follows (s : State) : s.Follows s.holdIfTurning := by
  have hheld : ∀ w : HeldWork, s.Follows (s.setDrive { s.drive.braked with state := .holding, held := some w }) :=
    fun w => .of_drive fun _ => .inl ⟨rfl, rfl, rfl⟩
  unfold State.holdIfTurning
  refine .ite (fun _ => ?_) (.refl s)
  split
  · exact hheld .move
  · exact .ite (fun _ => .refl s) (hheld .homing)
  all_goals exact .refl s

theorem State.resumeMove_follows (s : State) : s.Follows s.resumeMove :=
  .ite (fun _ => .of_drive fun _ => s.enterSettling_ruled)
    (.ite (fun _ => .of_drive fun _ => s.beginMotion_ruled _ _) (.of_drive fun _ => s.beginMotion_ruled _ _))

theorem State.tryResume_follows (s : State) : s.Follows s.tryResume := by
  unfold State.tryResume
  refine .ite (fun _ => ?_) (.refl s)
  split
  · exact s.resumeMove_follows
  · exact .of_drive fun _ => s.turnHoming_ruled
  · exact .refl s

theorem State.setHalt_follows (s : State) : s.Follows s.setHalt := by
  refine .ite (fun _ => .refl s) ?_
  exact ((State.holdIfTurning_follows (s.setControl { s.control with halt := true })).then
    (foldl_gauges _ State.withdrawIntent_gauges _ _)).after rfl

theorem State.clearHalt_follows (s : State) : s.Follows s.clearHalt := by
  refine .ite (fun _ => ?_) (.refl s)
  exact ((State.tryResume_follows (s.setControl { s.control with halt := false })).then
    (foldl_gauges _ State.queueIntent_gauges _ _)).after rfl

/-! ### Counts and edges (R22 to R30, R38) -/

/-- While MOVING the ramp changes the duty, and the brake stays released. -/
theorem State.countMoving_follows {s : State} (h : s.drive.state = .moving) (dir : Direction) :
    s.Follows (s.countMoving dir) := by
  have hturns : s.drive.dutyApplied = true := by simp [Drive.dutyApplied, h]
  exact .of_drive fun hs => .ite (hs.turns hturns hturns rfl) (hs.turns hturns hturns rfl)

theorem State.driveCount_follows (s : State) (dir : Direction) : s.Follows (s.driveCount dir).1 := by
  unfold State.driveCount
  split
  case h_3 => split <;> exact .of_gauges rfl
  case h_5 hmoving => exact (State.countMoving_follows (s := s.countPosition dir) hmoving dir).after rfl
  case h_7 => split <;> exact .of_gauges rfl
  all_goals exact .of_gauges rfl

/-- At an accepted edge of a move the brake stays released. -/
theorem State.phaseAtEdge_follows {s : State} (h : s.drive.state = .moving) : s.Follows s.phaseAtEdge := by
  have hturns : s.drive.dutyApplied = true := by simp [Drive.dutyApplied, h]
  refine .of_drive fun hs => ?_
  have hreleased : ∀ e : Drive, e.dutyApplied = s.drive.dutyApplied → e.brake = s.drive.brake → e.Ruled :=
    fun e he hbrake => hs.turns hturns (he.trans hturns) hbrake
  simp only
  split
  · exact .ite (hreleased _ rfl rfl) (.ite (hreleased _ rfl rfl) (hreleased _ rfl rfl))
  · exact .ite (hreleased _ rfl rfl) (.ite (hreleased _ rfl rfl) (hreleased _ rfl rfl))
  · exact hreleased _ rfl rfl

theorem State.edgeKnown_follows (s : State) (flag : Bool) : s.Follows (s.edgeKnown flag).1 := by
  have hrealigned : s.Follows s.realign := .of_gauges rfl
  unfold State.edgeKnown
  simp only
  split_ifs with _ _ hmoving
  · exact hrealigned.trans (.of_drive fun _ => State.enterSettling_ruled _)
  · exact hrealigned.trans (State.phaseAtEdge_follows hmoving)
  · exact hrealigned
  · exact hrealigned
  · exact .refl s

/-- At the home edge the duty is removed and the brake set; any other edge of a homing changes neither. -/
theorem State.edgeHoming_follows {s : State} (h : s.drive.state = .homing) (flag : Bool) :
    s.Follows (s.edgeHoming flag).1 := by
  unfold State.edgeHoming
  simp only
  split_ifs
  · exact .of_drive fun _ => .inl ⟨by simp [Drive.dutyApplied, Drive.braked, h], rfl, rfl⟩
  · exact .of_gauges rfl
  · exact .refl s

theorem State.driveEdge_follows (s : State) (flag : Bool) : s.Follows (s.driveEdge flag).1 := by
  unfold State.driveEdge
  split_ifs with _ hhoming
  · exact s.edgeKnown_follows flag
  · exact State.edgeHoming_follows hhoming flag
  · exact .refl s

/-! ### Faults and rests (R30, R38, R39) -/

/-- A fault removes the duty and sets the brake. -/
theorem State.enterFault_follows (s : State) (kind : FaultKind) : s.Follows (s.enterFault kind) := by
  have hservice : ∀ t : State, t.outOfService.gauges = t.gauges := by
    intro t
    unfold State.outOfService
    split
    case h_5 => exact State.contestExit_gauges _
    all_goals rfl
  have hfaulted : s.Follows (s.driveFault kind) := .of_drive fun _ => .inl ⟨rfl, rfl, rfl⟩
  exact .ite (fun _ => .refl s) (hfaulted.then ((hservice _).trans (State.endDwell_gauges _)))

theorem State.orLost_follows {s : State} {r : State × Bool} (h : s.Follows r.1) : s.Follows (State.orLost r) :=
  .ite (fun _ => h.trans (State.enterFault_follows _ _)) h

theorem State.settled_follows {s : State} (h : s.drive.state = .settling) : s.Follows s.settled := by
  have hrests : s.drive.dutyApplied = false := by simp [Drive.dutyApplied, h]
  refine .ite (fun _ => ?_) (s.enterFault_follows _)
  have hidle : s.Follows (s.setDrive { s.drive with state := .idle, target := none, travel := 0 }) :=
    .of_drive fun hs => hs.rests hrests rfl rfl rfl
  refine hidle.then ?_
  obtain ⟨hport, hdrive, _, _⟩ :=
    (s.setDrive { s.drive with state := .idle, target := none, travel := 0 }).settledAt_parts s.settledCarrier
  unfold State.gauges
  rw [hport, hdrive]

/-- HOMED follows the home edge, at which the brake was set. -/
theorem State.homingRested_follows {s : State} (h : s.drive.state = .homing) (hf : s.drive.homeFound = true) :
    s.Follows s.homingRested := by
  have hrests : s.drive.dutyApplied = false := by simp [Drive.dutyApplied, h, hf]
  refine .ite (fun _ => ?_) (s.enterFault_follows _)
  have hidle : s.Follows (s.setDrive
      { s.drive with state := .idle, homeFound := false, held := none, target := none, travel := 0 }) :=
    .of_drive fun hs => hs.rests hrests rfl rfl rfl
  unfold State.homed
  simp only
  split <;> exact hidle.then rfl

/-! ### Levels (R33 to R36, R64) -/

theorem Drive.Ruled.followRequest {d : Drive} (h : d.Ruled) : d.followRequest.Ruled := .ite h (h.same rfl rfl rfl)

theorem State.warnLevel_follows (s : State) (below : Bool) : s.Follows (s.warnLevel below) := by
  have hlevel : s.Follows (s.setDrive (Drive.followRequest
      { s.drive with warnBelow := below, stickyWarn := s.drive.stickyWarn || below })) :=
    .of_drive fun hs => Drive.Ruled.followRequest (hs.same rfl rfl rfl)
  exact .ite (fun _ => .refl s) (.ite (fun _ => hlevel.then rfl) hlevel)

theorem State.cutLevel_follows (s : State) (below : Bool) : s.Follows (s.cutLevel below) :=
  .ite (fun _ => .refl s)
    (.ite (fun _ => (State.holdIfTurning_follows _).after (ite_gauges rfl rfl)) (.of_gauges rfl))

theorem State.supplyLevel_follows (s : State) (level : SupplyLevel) (sense : Nat) :
    s.Follows (s.supplyLevel level sense) := by
  have hset : ∀ f, (s.setDrive (s.drive.setFilter level f)).gauges = s.gauges := fun f => by cases level <;> rfl
  have hlive : ∀ (t : State) below, t.Follows (t.liveLevel level below) := by
    cases level with
    | warn => exact State.warnLevel_follows
    | cut => exact State.cutLevel_follows
  exact .ite (fun _ => (hlive _ _).after (hset _)) (.of_gauges (hset _))

theorem State.stopLevel_follows (s : State) (active : Bool) : s.Follows (s.stopLevel active) := by
  have hface : s.Follows (s.setFace { s.face with stop := some active }) := .of_gauges rfl
  exact .ite (fun _ => hface.trans (State.holdIfTurning_follows _)) (hface.trans (State.tryResume_follows _))

theorem State.curtainLevel_follows (s : State) (broken : Bool) : s.Follows (s.curtainLevel broken) := by
  refine .ite (fun _ => .refl s) (.ite (fun _ => ?_) (.of_gauges rfl))
  exact (State.holdIfTurning_follows _).after rfl

/-- A debounced level brings what its change brings; until it changes the debounces of the face alone move. -/
theorem State.debounced_follows (s : State) (i : FaceInput) (high : Bool) {change : State → Bool → State}
    (h : ∀ (t : State) (b : Bool), t.Follows (change t b)) : s.Follows (s.debounced i high change) :=
  .ite (fun _ => (h _ _).after rfl) (.of_gauges rfl)

/-! ### Setup, starts and stops (R171, R177) -/

theorem State.holdReading_gauges (s : State) (level : SupplyLevel) (sense : Nat) :
    (s.holdReading level sense).gauges = s.gauges := by cases level <;> rfl

/-- SETUP END hands over values and lets the inputs adopt anew; no gauge changes. -/
theorem State.settleSetup_gauges (s : State) : s.settleSetup.gauges = s.gauges := by
  have hanew : ∀ t : State, t.compareAnew.gauges = t.gauges := fun t =>
    (State.holdReading_gauges _ _ _).trans (t.holdReading_gauges _ _)
  have hunadopt : ∀ t : State, t.unadopt.gauges = t.gauges := fun _ => rfl
  unfold State.settleSetup
  simp only
  rw [hunadopt, hanew, State.setStore_gauges, State.setControl_gauges]

/-- The start values keep both rules, whatever went before. -/
theorem State.start_follows (s : State) (kind : StartKind) (stn : BitVec 5) (rate : BitVec 2) (store : StockStore)
    (pending : List Instr) : s.Follows (State.start kind stn rate store pending) where
  confinement _ := rfl
  brake _ := .inl ⟨rfl, rfl, rfl⟩

theorem State.warmStart_follows (s : State) (stn : BitVec 5) (rate : BitVec 2) (flips : List (Fin 512)) :
    s.Follows (s.warmStart stn rate flips) := by
  have hrest : ∀ (t : State) slot, (t.restSlot slot).gauges = t.gauges := by
    intro t slot
    exact ite_gauges rfl (t.writeRecord_gauges _ _)
  have hnormal : ∀ t : State, t.normalize.gauges = t.gauges := by
    intro t
    unfold State.normalize
    simp only
    rw [foldl_gauges _ hrest, State.readSlots_gauges]
  unfold State.warmStart
  split
  · exact s.start_follows _ _ _ _ _
  · exact (s.start_follows _ _ _ _ _).then (hnormal _)

theorem State.stopped_follows (s : State) (power : Power) : s.Follows (s.stopped power) where
  confinement _ := rfl
  brake _ := .inl ⟨rfl, rfl, rfl⟩

theorem State.markerLost_follows (s : State) : s.Follows s.markerLost := (s.stopped_follows .unpowered).then rfl

/-! ### Every command -/

/-- A command of a running part: its own effect, then the end of the step. -/
theorem State.during_follows {s t : State} {effect : State → State} (ht : (s.during effect).goOn = .next t)
    (he : s.Follows (effect s)) : s.Follows t := by
  obtain rfl := Host.Outcome.next.inj ht
  exact .ite (fun _ => he.trans (State.settle_follows s _)) (.refl s)

/-- The hand-over of a frame brings what its owner does with it. -/
theorem State.handOver_follows {s : State} (kind : FrameKind → Bool) (taken : Bool) {owner : Heard → State → State}
    (ho : ∀ x, s.Follows (owner x s)) : s.Follows (s.handOver kind taken owner) := by
  unfold State.handOver
  split
  · exact .refl s
  · exact State.Follows.then (.ite (fun _ => ho _) (.refl s)) rfl

/-- A command whose own effect leaves the gauges alone. -/
theorem State.during_gauges {s t : State} {effect : State → State} (ht : (s.during effect).goOn = .next t)
    (he : (effect s).gauges = s.gauges) : s.Follows t := State.during_follows ht (.of_gauges he)

/-- A frame whose owner leaves the gauges alone. -/
theorem State.handOver_gauges {s : State} (kind : FrameKind → Bool) (taken : Bool) {owner : Heard → State → State}
    (ho : ∀ x, (owner x s).gauges = s.gauges) : s.Follows (s.handOver kind taken owner) :=
  State.handOver_follows kind taken fun x => .of_gauges (ho x)

/-- Every command keeps both rules. -/
theorem exec_follows {s t : State} (i : Instr) (ht : exec i s = .next t) : s.Follows t := by
  cases i with
  | warmStart stn rate flips =>
    obtain rfl := Host.Outcome.next.inj ht
    exact (s.warmStart_follows stn rate flips).trans (State.settle_follows _ _)
  | coldStart stn rate =>
    obtain rfl := Host.Outcome.next.inj ht
    exact (s.start_follows _ _ _ _ _).trans (State.settle_follows _ _)
  | standby =>
    obtain rfl := Host.Outcome.next.inj ht
    exact .ite (fun _ => .refl s) (s.stopped_follows _)
  | resetAssert =>
    obtain rfl := Host.Outcome.next.inj ht
    exact .ite (fun _ => s.stopped_follows _) (.refl s)
  | markerLost =>
    obtain rfl := Host.Outcome.next.inj ht
    exact s.markerLost_follows
  | frameHeard frame => exact State.during_follows ht (.ite (fun _ => s.hear_follows frame) (.refl s))
  | idleBusContend rival => exact State.during_gauges ht (ite_gauges (s.contend_gauges rival) rfl)
  | busError kind role => exact State.during_follows ht (.ite (fun _ => s.busError_follows kind role) (.refl s))
  | errorMarkSeen role => exact State.during_follows ht (.ite (fun _ => s.markSeen_follows role) (.refl s))
  | frameHeld role => exact State.during_gauges ht (ite_gauges (s.held_gauges role) rfl)
  | offRecovery bits => exact State.during_follows ht (.ite (fun _ => s.recover_follows bits) (.refl s))
  | txPlaceFreed => exact State.during_gauges ht s.offerPlace_gauges
  | halt => exact State.during_follows ht (State.handOver_follows _ _ fun _ => s.setHalt_follows)
  | resume => exact State.during_follows ht (State.handOver_follows _ _ fun _ => s.clearHalt_follows)
  | calendar => exact State.during_follows ht (State.handOver_gauges _ _ fun _ => rfl)
  | setup => exact State.during_follows ht (State.handOver_gauges _ _ fun _ => rfl)
  | setupEnd => exact State.during_follows ht (State.handOver_gauges _ _ fun _ => s.settleSetup_gauges)
  | joinTimeout => exact State.during_follows ht (.ite (fun _ => s.endJoining_follows) (.refl s))
  | reportHeard => exact State.during_follows ht (State.handOver_gauges _ _ fun _ => rfl)
  | adjust => exact State.during_follows ht (State.handOver_gauges _ _ fun _ => s.applyAdjust_gauges _)
  | park => exact State.during_follows ht (State.handOver_gauges _ _ fun _ => ite_gauges rfl rfl)
  | audit => exact State.during_follows ht (State.handOver_gauges _ _ fun _ => ite_gauges rfl rfl)
  | order => exact State.during_follows ht (State.handOver_gauges _ _ fun _ => s.takeOrder_gauges _ _)
  | inbound => exact State.during_follows ht (State.handOver_gauges _ _ fun _ => s.takeInbound_gauges _ _)
  | bid => exact State.during_follows ht (State.handOver_gauges _ _ fun _ => s.hearBid_gauges _)
  | claim => exact State.during_follows ht (State.handOver_gauges _ _ fun _ => s.hearClaim_gauges _ _)
  | computationResult => exact State.during_gauges ht s.takeResult_gauges
  | windowEnd => exact State.during_gauges ht s.windowEnds_gauges
  | secondChance => exact State.during_gauges ht s.secondChances_gauges
  | relinquish => exact State.during_follows ht (State.handOver_gauges _ _ fun _ => s.hearRelinquish_gauges _ _)
  | intent => exact State.during_follows ht (State.handOver_gauges _ _ fun _ => s.hearIntent_gauges _ _)
  | bayClear => exact State.during_follows ht (State.handOver_gauges _ _ fun _ => s.hearBayClear_gauges _ _ _)
  | laneIdle => exact State.during_follows ht (State.handOver_gauges _ _ fun _ => s.idleLane_gauges _)
  | faultGraceTimeout =>
    have hgrace : s.graceRunOut.gauges = s.gauges :=
      (foldl_gauges _ (fun t l => t.addRelinquish_gauges l _) _ _).trans (State.cancelPicks_gauges _ _)
    exact State.during_gauges ht (ite_gauges hgrace rfl)
  | encoderCount dir => exact State.during_follows ht (State.orLost_follows (s.driveCount_follows dir))
  | indexEdge flag => exact State.during_follows ht (State.orLost_follows (s.driveEdge_follows flag))
  | stallTimeout => exact State.during_follows ht (.ite (fun _ => s.enterFault_follows _) (.refl s))
  | settleRestTimeout =>
    refine State.during_follows ht (.ite (fun hdue => State.settled_follows ?_) (.refl s))
    exact of_decide_eq_true (Bool.and_eq_true_iff.1 hdue).1
  | homingRestTimeout =>
    refine State.during_follows ht (.ite (fun hdue => ?_) (.refl s))
    obtain ⟨⟨hstate, hfound⟩, _⟩ : (s.drive.state = .homing ∧ s.drive.homeFound = true) ∧ _ := by
      simpa only [State.homingDue, Bool.and_eq_true, decide_eq_true_eq] using hdue
    exact State.homingRested_follows hstate hfound
  | holdRestTimeout => exact State.during_follows ht s.tryResume_follows
  | curtainClearTimeout =>
    exact State.during_follows ht
      (.ite (fun _ => (State.tryResume_follows _).after rfl) (.refl s))
  | supplyClearTimeout =>
    exact State.during_follows ht
      (.ite (fun _ => (State.tryResume_follows _).after rfl) (.refl s))
  | supplyLevelChange level sense => exact State.during_follows ht (s.supplyLevel_follows level sense)
  | doneHoldTimeout => exact State.during_follows ht (.ite (fun _ => s.startHoming_follows) (.refl s))
  | scanCycle returns pin flips =>
    exact State.during_gauges ht (ite_gauges (State.scanFace_gauges _ returns pin) rfl)
  | doneEdge => exact State.during_follows ht (s.debounced_follows _ _ fun t b => .of_gauges (t.doneLevel_gauges b))
  | dwellTimeout => exact State.during_gauges ht (ite_gauges s.closeDwell_gauges rfl)
  | stopLevelChange high => exact State.during_follows ht (s.debounced_follows _ _ State.stopLevel_follows)
  | curtainChange high => exact State.during_follows ht (s.debounced_follows _ _ State.curtainLevel_follows)
  | arrival high => exact State.during_follows ht (s.debounced_follows _ _ fun t b => .of_gauges (t.arrivalLevel_gauges b))
  | inboundDeadline => exact State.during_gauges ht (foldl_gauges _ State.giveUpArrivals_gauges _ _)
  | pocketSenseChange p high =>
    exact State.during_follows ht (s.debounced_follows _ _ fun t b => .of_gauges (t.pocketLevel_gauges p b))
  | jamTimeout => exact State.during_gauges ht (foldl_gauges _ State.jamPocket_gauges _ _)
  | auditScan => exact State.during_gauges ht s.workScan_gauges
  | doneRelease => exact State.during_follows ht (s.debounced_follows _ _ fun t b => .of_gauges (t.doneLevel_gauges b))

/-- Every step keeps both rules: a command at the front of the queue, an own step that is due, or a millisecond. -/
theorem step_follows {s t : State} (ht : step s = .next t) : s.Follows t := by
  unfold step at ht
  split at ht
  · unfold State.idle at ht
    split at ht
    · split at ht
      · exact exec_follows _ ht
      · obtain rfl := Host.Outcome.next.inj ht
        exact .of_gauges s.tick_gauges
    · obtain rfl := Host.Outcome.next.inj ht
      exact .refl s
  · have hqueue : s.Follows (s.setPending ‹_›) := .of_gauges rfl
    exact hqueue.trans (exec_follows _ ht)

/-- Settles O6: the two laws are the two rules that every step keeps. -/
theorem confinementAndBrakeFollowTheirRules : Obligations.ConfinementAndBrakeFollowTheirRules := by
  refine ⟨fun s t hs ht => (step_follows ht).confinement hs, fun s t hs ht => ?_⟩
  rw [State.brakeOk_iff] at hs ⊢
  exact (step_follows ht).brake hs

end Sys2Proof.Machine
end

section
/-! SUPPORT. What the work at the end of a step leaves of the plan: the park target and the stop in flight stay, and no dwell
opens. The end of a step that follows no command finds nothing else to do (`State.standsStill`). -/

namespace Sys2Proof.Machine

/-- The park target and the stop in flight stay, and no dwell opens. -/
structure State.KeepsPlan (s t : State) : Prop where
  park : t.planner.parkTarget = s.planner.parkTarget
  inFlight : t.planner.inFlight = s.planner.inFlight
  dwell : s.face.dwell = none → t.face.dwell = none

theorem State.KeepsPlan.refl (s : State) : s.KeepsPlan s := ⟨rfl, rfl, id⟩

theorem State.KeepsPlan.trans {s t u : State} (h : s.KeepsPlan t) (g : t.KeepsPlan u) : s.KeepsPlan u :=
  ⟨g.park.trans h.park, g.inFlight.trans h.inFlight, fun hs => g.dwell (h.dwell hs)⟩

theorem State.KeepsPlan.ite {c : Prop} [Decidable c] {s t u : State} (ht : s.KeepsPlan t) (hu : s.KeepsPlan u) :
    s.KeepsPlan (if c then t else u) := by
  split
  · exact ht
  · exact hu

theorem foldl_keepsPlan {α : Type} {f : State → α → State} (h : ∀ (s : State) (x : α), s.KeepsPlan (f s x)) (xs : List α) (s : State) :
    s.KeepsPlan (xs.foldl f s) := by
  induction xs generalizing s with
  | nil => exact .refl s
  | cons x rest ih => exact (h s x).trans (ih _)

/-! ### Reports, tasks and pockets -/

theorem State.writeReport_keepsPlan (s : State) (b : ReportBody) : s.KeepsPlan (s.writeReport b) :=
  .ite ⟨rfl, rfl, id⟩ ⟨rfl, rfl, id⟩

theorem State.reportShort_keepsPlan (s : State) (id n : Nat) (c : ShortCause) (r : Option Receiving) :
    s.KeepsPlan (s.reportShort id n c r) := by
  unfold State.reportShort
  split <;> exact s.writeReport_keepsPlan _

theorem State.updateLine_keepsPlan (s : State) (l : LineRef) (f : OrderLine → OrderLine) :
    s.KeepsPlan (s.updateLine l f) := by
  unfold State.updateLine
  split
  · exact .refl s
  · split <;> exact ⟨rfl, rfl, id⟩

theorem State.addRelinquish_keepsPlan (s : State) (l : LineRef) (q : Nat) : s.KeepsPlan (s.addRelinquish l q) := by
  refine (s.updateLine_keepsPlan l fun x => { x with ownClaim := x.ownClaim - q }).trans ?_
  unfold State.addRelinquish
  refine .ite ⟨rfl, rfl, id⟩ ?_
  split <;> exact ⟨rfl, rfl, id⟩

theorem State.requestRestore_keepsPlan (s : State) (p : Fin 2) : s.KeepsPlan (s.requestRestore p) := by
  unfold State.requestRestore
  split
  · exact .refl s
  · exact .ite ⟨rfl, rfl, id⟩ (.refl s)

theorem State.dropTask_keepsPlan (s : State) (slot : Nat) : s.KeepsPlan (s.dropTask slot) := by
  have hqueue : ∀ q, s.KeepsPlan (s.setQueue q) := fun _ => ⟨rfl, rfl, id⟩
  exact .ite ((hqueue _).trans (foldl_keepsPlan State.requestRestore_keepsPlan _ _)) (.refl s)

theorem State.dropDue_keepsPlan (s : State) (slot : Nat) : s.KeepsPlan (s.dropDue slot) := by
  unfold State.dropDue
  split
  · exact .refl s
  · rename_i hd
    exact ⟨rfl, rfl, fun hn => absurd (hd.symm.trans hn) (by simp)⟩

theorem State.testCompletion_keepsPlan (s : State) : s.KeepsPlan s.testCompletion := by
  unfold State.testCompletion
  split
  · exact .refl s
  · exact .ite ⟨rfl, rfl, fun _ => rfl⟩ (.refl s)

theorem State.freeAssigned_keepsPlan (s : State) (slot : Nat) : s.KeepsPlan (s.freeAssigned slot) := by
  unfold State.freeAssigned
  split <;> exact ⟨rfl, rfl, id⟩

theorem State.removeTask_keepsPlan (s : State) (slot : Nat) : s.KeepsPlan (s.removeTask slot) :=
  ((s.dropTask_keepsPlan slot).trans (State.dropDue_keepsPlan _ slot)).trans (State.freeAssigned_keepsPlan _ slot)

theorem State.failPick_keepsPlan (s : State) (slot : Nat) (line : LineRef) : s.KeepsPlan (s.failPick slot line) :=
  ((s.removeTask_keepsPlan slot).trans (State.addRelinquish_keepsPlan _ line 1)).trans
    (State.testCompletion_keepsPlan _)

theorem State.handOn_keepsPlan (s : State) (slot : Nat) (d : Option StockData) : s.KeepsPlan (s.handOn slot d) := by
  unfold State.handOn
  split
  · exact .refl s
  · split
    · exact s.failPick_keepsPlan slot _
    · exact ⟨rfl, rfl, id⟩
    · exact .refl s

/-! ### Slot records and relocations -/

theorem State.writeRecord_keepsPlan (s : State) (slot : Nat) (r : SlotRecord) : s.KeepsPlan (s.writeRecord slot r) :=
  .ite ⟨rfl, rfl, id⟩ (.refl s)

theorem State.readSlot_keepsPlan (s : State) (slot : Nat) : s.KeepsPlan (s.readSlot slot).state := by
  unfold State.readSlot
  simp only
  split_ifs
  · exact .refl s
  · exact (s.writeRecord_keepsPlan slot _).trans ⟨rfl, rfl, id⟩
  · exact ((s.writeRecord_keepsPlan slot _).trans (State.writeReport_keepsPlan _ _)).trans
      (State.handOn_keepsPlan _ slot none)

theorem State.request_keepsPlan (s : State) (slot : Nat) (a : SlotRecord → Bool) (n : SlotRecord → SlotRecord) :
    s.KeepsPlan (s.request slot a n).state := by
  have hwritten := (s.readSlot_keepsPlan slot).trans
    (State.writeRecord_keepsPlan _ slot (n (s.readSlot slot).record))
  unfold State.request
  simp only
  split
  · exact .ite (hwritten.trans (State.handOn_keepsPlan _ slot _)) hwritten
  · exact s.readSlot_keepsPlan slot

theorem State.readTable_keepsPlan (s : State) : s.KeepsPlan s.readTable :=
  foldl_keepsPlan State.readSlot_keepsPlan _ s

theorem State.moveTask_keepsPlan (s : State) (old new : Nat) : s.KeepsPlan (s.moveTask old new) := by
  have hupdate : ∀ f, s.KeepsPlan (s.updateTask old f) := fun _ => ⟨rfl, rfl, id⟩
  unfold State.moveTask
  split
  · exact hupdate _
  · rename_i d hd
    refine .ite (.ite ?_ ?_) (hupdate _)
    · exact ⟨rfl, rfl, fun hn => absurd (hd.symm.trans hn) (by simp)⟩
    · exact ((hupdate _).trans (State.dropDue_keepsPlan _ old)).trans (State.testCompletion_keepsPlan _)

theorem State.cancelRelocated_keepsPlan (s : State) (r : Relocation) : s.KeepsPlan (s.cancelRelocated r) := by
  have hface : ∀ (t : State) receiving, t.KeepsPlan (t.setFace { t.face with receiving := receiving }) :=
    fun _ _ => ⟨rfl, rfl, id⟩
  exact ((((s.removeTask_keepsPlan r.slot).trans (hface _ _)).trans (State.reportShort_keepsPlan _ _ _ _ _)).trans
    (hface _ _)).trans (State.testCompletion_keepsPlan _)

theorem State.placeTask_keepsPlan (s : State) (r : Relocation) (d : StockData) : s.KeepsPlan (s.placeTask r d) := by
  unfold State.placeTask
  split
  · exact s.cancelRelocated_keepsPlan r
  · rename_i slot _
    have hasked := s.request_keepsPlan slot (inStates [.empty]) fun _ => .reserved r.inboundId d
    exact .ite (hasked.trans (State.moveTask_keepsPlan _ _ _)) (hasked.trans (State.cancelRelocated_keepsPlan _ r))

theorem State.relocateOne_keepsPlan (s : State) (r : Relocation) : s.KeepsPlan (s.relocateOne r) := by
  unfold State.relocateOne
  split
  · exact .refl s
  · refine .ite (s.readTable_keepsPlan.trans ?_) (.refl s)
    simp only
    split
    · exact State.cancelRelocated_keepsPlan _ r
    · exact State.placeTask_keepsPlan _ r _

theorem State.relocateAll_keepsPlan (s : State) : s.KeepsPlan s.relocateAll := by
  have hup : ∀ (fuel : Nat) (t : State), t.KeepsPlan (t.relocateUpTo fuel) := by
    intro fuel
    induction fuel with
    | zero => exact .refl
    | succ fuel ih =>
      intro t
      unfold State.relocateUpTo
      split
      · exact .refl t
      · have htaken : ∀ rest, t.KeepsPlan (t.setAudit { t.audit with relocations := rest }) := fun _ => ⟨rfl, rfl, id⟩
        exact ((htaken _).trans (State.relocateOne_keepsPlan _ _)).trans (ih _)
  exact hup 1024 s

/-! ### The end of a step -/

theorem State.considerRounds_keepsPlan (s : State) : s.KeepsPlan s.considerRounds := by
  have hcontests : ∀ (t : State) x, t.KeepsPlan (t.setContests x) := fun _ _ => ⟨rfl, rfl, id⟩
  have hlist : ∀ rounds, s.KeepsPlan (s.considerList rounds) := by
    intro rounds
    induction rounds with
    | nil => exact hcontests _ _
    | cons o rest ih =>
      unfold State.considerList
      refine .ite ?_ ih
      exact (((hcontests _ _).trans (State.readTable_keepsPlan _)).trans (hcontests _ _)).trans
        (State.relocateAll_keepsPlan _)
  exact .ite (hlist _) (.refl s)

theorem State.refreshDwell_keepsPlan (s : State) : s.KeepsPlan s.refreshDwell := by
  have hjoin : s.KeepsPlan s.joinDue := by
    unfold State.joinDue
    split
    · exact .refl s
    · rename_i d hd
      have htasks : s.KeepsPlan ((s.joining d.carrier d.due).foldl (fun u x => u.updateTask x.slot Task.atFace) s) :=
        foldl_keepsPlan (f := fun (u : State) (x : Task) => u.updateTask x.slot Task.atFace) (fun _ _ => ⟨rfl, rfl, id⟩) _ s
      exact ⟨htasks.park, htasks.inFlight, fun hn => absurd (hd.symm.trans hn) (by simp)⟩
  have hlight : ∀ t : State, t.KeepsPlan t.lightDue := by
    intro t
    unfold State.lightDue
    split
    · exact .refl t
    · rename_i d hd
      have hplanner : (t.lightAll d.due).1.planner = t.planner := by
        have hone : ∀ (u : State) x, (u.lightOne x).1.planner = u.planner := by
          intro u x
          unfold State.lightOne
          split
          · rfl
          · split
            · rfl
            · rfl
            · split
              · rfl
              · split <;> rfl
        have hfold : ∀ (ds : List Due) (acc : State × List Due),
            (ds.foldl (fun acc d => ((acc.1.lightOne d).1, acc.2 ++ [(acc.1.lightOne d).2])) acc).1.planner =
              acc.1.planner := by
          intro ds
          induction ds with
          | nil => intro acc; rfl
          | cons x rest ih => intro acc; exact (ih _).trans (hone acc.1 x)
        exact hfold d.due (t, [])
      refine .ite ⟨?_, ?_, fun hn => absurd (hd.symm.trans hn) (by simp)⟩ (.refl t)
      · exact congrArg Planner.parkTarget hplanner
      · exact congrArg Planner.inFlight hplanner
  exact hjoin.trans (hlight _)

/-- The work before the planner is asked keeps the plan. -/
theorem State.faced_keepsPlan (s : State) : s.KeepsPlan s.faced :=
  ((s.relocateAll_keepsPlan.trans (State.considerRounds_keepsPlan _)).trans (State.refreshDwell_keepsPlan _)).trans
    (State.testCompletion_keepsPlan _)

/-- The planner sends nothing but a stop from IDLE, and a retarget in a move that goes on (R46, R51). -/
theorem State.plan_still {before s : State} (hi : s.drive.state ≠ .idle)
    (hm : before.drive.state ≠ .moving ∨ s.drive.state ≠ .moving) : State.plan before s = s := by
  have hchoose : s.chooseNext = s := by simp [State.chooseNext, State.mayChoose, hi]
  unfold State.plan State.retarget
  rw [hchoose, if_neg]
  rintro ⟨hb, hs⟩
  rcases hm with hm | hm
  · exact hm hb
  · exact hm hs

/-- Where the planner has nothing to send, the end of a step leaves the drive and the plan as they are. -/
theorem State.settle_still {before s : State} (hi : s.drive.state ≠ .idle)
    (hm : before.drive.state ≠ .moving ∨ s.drive.state ≠ .moving) :
    (State.settle before s).drive.unstuck = s.drive.unstuck ∧ s.KeepsPlan (State.settle before s) := by
  obtain ⟨hdrive, hplanner, hdwell, _⟩ := State.settle_planned before s
  have hplan : State.plan before s.faced = s.faced :=
    State.plan_still (by rwa [State.faced_drive]) (by rwa [State.faced_drive])
  rw [hplan] at hdrive hplanner hdwell
  have hfaced := s.faced_keepsPlan
  rw [State.faced_drive] at hdrive
  exact ⟨hdrive, (congrArg Planner.parkTarget hplanner).trans hfaced.park,
    (congrArg Planner.inFlight hplanner).trans hfaced.inFlight, fun hn => hdwell.trans (hfaced.dwell hn)⟩

/-- The end of a step that follows no command finds nothing to do (log 33). -/
theorem State.settle_standsStill (s : State) : s.standsStill (State.settle s s) := by
  refine ⟨s.settle_kept s, State.settle_records s s, State.settle_offers s s, State.settle_tx s s,
    State.settle_work s s, fun hi hm => ?_⟩
  obtain ⟨hdrive, hkeeps⟩ := State.settle_still (before := s) hi (.inr hm)
  exact ⟨hdrive, hkeeps.park, hkeeps.inFlight, hkeeps.dwell⟩

end Sys2Proof.Machine
end

section
/-! SUPPORT. Held work resumes (R36, R37): what a resume brings, that the end of the step leaves it as it is, and at which
commands it comes; and the proof of the statement about it. -/

namespace Sys2Proof.Machine

/-! ### A resume -/

/-- The loop is at rest as the model tests it. -/
theorem State.atRest_iff {s : State} : s.atRest = true ↔ s.rested := by
  unfold State.atRest State.rested
  cases s.drive.lastCount with
  | none => simp
  | some last => simp [State.reached_iff, restMs]

/-- A move that begins from where the loop stands. -/
theorem State.beginMotion_begunMove (s : State) (dir : Direction) (travel : Nat) :
    s.begunMove (s.beginMotion dir travel) dir travel := by
  refine ⟨rfl, rfl, rfl, rfl, rfl, rfl, rfl, rfl, rfl, rfl, ?_⟩
  simp [State.beginMotion]

/-- A held move resumed: by its signed travel it settles, goes on, or turns back (log 25). -/
theorem State.resumeMove_resumed {s : State} (h : s.drive.held = some .move) : s.resumed s.resumeMove := by
  refine ⟨fun _ => ⟨?_, fun hnear => ?_, fun hahead => ?_, fun hpassed => ?_⟩, fun hhoming => ?_⟩
  · unfold State.resumeMove
    split_ifs <;> rfl
  · rw [State.resumeMove, if_pos hnear]
    exact ⟨rfl, rfl, rfl, rfl⟩
  · rw [State.resumeMove, if_neg (by omega), if_pos (by omega)]
    exact s.beginMotion_begunMove _ _
  · have hcounts : s.drive.travel.natAbs = (-s.drive.travel).toNat := by omega
    rw [State.resumeMove, if_neg (by omega), if_neg (by omega), hcounts]
    exact s.beginMotion_begunMove _ _
  · rw [h] at hhoming
    cases hhoming

theorem State.turnHoming_resumed {s : State} (h : s.drive.held = some .homing) : s.resumed s.turnHoming :=
  ⟨fun hmove => absurd (h.symm.trans hmove) (by simp), fun _ => ⟨rfl, rfl, rfl, rfl, rfl, rfl, rfl, rfl⟩⟩

/-- With every cause clear and the loop at rest, the held work resumes. -/
theorem State.tryResume_resumed {s : State} (hs : s.drive.state = .holding) (hc : s.causeInForce = false)
    (hr : s.rested) : s.resumed s.tryResume := by
  rw [State.tryResume, if_pos ⟨hs, hc, State.atRest_iff.2 hr⟩]
  cases hw : s.drive.held with
  | none => exact ⟨fun h => absurd (hw.symm.trans h) (by simp), fun h => absurd (hw.symm.trans h) (by simp)⟩
  | some work =>
    cases work with
    | move => exact State.resumeMove_resumed hw
    | homing => exact State.turnHoming_resumed hw

/-- Otherwise nothing resumes. -/
theorem State.tryResume_stays {s : State} (h : s.drive.state ≠ .holding ∨ s.causeInForce = true ∨ ¬s.rested) :
    s.tryResume = s := by
  rw [State.tryResume, if_neg]
  rintro ⟨hs, hc, hr⟩
  rcases h with h | h | h
  · exact h hs
  · rw [hc] at h; cases h
  · exact h (State.atRest_iff.1 hr)

/-- A resume touches nothing of the kept part but the mark of the home edge. -/
theorem State.tryResume_kept (s : State) : s.tryResume.kept = { s.kept with homeFound := s.tryResume.drive.homeFound } := by
  have hmove : s.resumeMove.kept = { s.kept with homeFound := s.resumeMove.drive.homeFound } := by
    unfold State.resumeMove
    split_ifs <;> rfl
  unfold State.tryResume
  split
  · split
    · exact hmove
    · rfl
    · rfl
  · rfl

/-- A resume ends in no state from which the planner would send a stop. -/
theorem State.tryResume_ne_idle {s : State} (h : s.drive.state = .holding) : s.tryResume.drive.state ≠ .idle := by
  have hmove : s.resumeMove.drive.state ≠ .idle := by
    unfold State.resumeMove
    split_ifs <;> exact nofun
  unfold State.tryResume
  split
  · split
    · exact hmove
    · exact nofun
    · simp [h]
  · simp [h]

/-! ### The end of the step after it -/

/-- What has resumed is read off the drive, but for its sticky flags. -/
theorem State.resumed_of_unstuck {s t u : State} (h : t.drive.unstuck = u.drive.unstuck) (hu : s.resumed u) :
    s.resumed t := by
  have hread : ∀ x : State, s.resumed x ↔ s.resumed (s.setDrive x.drive.unstuck) := fun _ => Iff.rfl
  rw [hread, h, ← hread]
  exact hu

/-- A state in which the held work and the motion are those of another, whatever causes are in force. -/
structure State.HoldsAs (s u : State) : Prop where
  values : u.values = s.values
  timer : u.timer = s.timer
  drive : u.drive = { s.drive with
    curtainCause := u.drive.curtainCause, curtainClearSince := u.drive.curtainClearSince,
    supplyCause := u.drive.supplyCause, supplyClearSince := u.drive.supplyClearSince }

theorem State.HoldsAs.resumed {s u t : State} (h : s.HoldsAs u) (hu : u.resumed t) : s.resumed t := by
  unfold State.resumed State.begunMove at hu ⊢
  rwa [h.values, h.timer, h.drive] at hu

theorem State.HoldsAs.rested {s u : State} (h : s.HoldsAs u) : u.rested ↔ s.rested := by
  unfold State.rested
  rw [h.timer, h.drive]

/-- What O49 says of a step from `s` to `t` at whose end `other` says whether a cause is in force. -/
def State.resumesUnless (s t : State) (other : Bool) : Prop := s.drive.state = .holding →
  (other = false → s.rested → s.resumed t) ∧
    (other = true ∨ ¬s.rested → t.drive.unstuck = { s.drive.unstuck with
      curtainCause := t.drive.curtainCause, curtainClearSince := t.drive.curtainClearSince,
      supplyCause := t.drive.supplyCause, supplyClearSince := t.drive.supplyClearSince })

/-- Two drives alike but for their sticky flags have the same causes in force. -/
theorem Drive.unstuck_causes {d e : Drive} (h : e.unstuck = d.unstuck) : e.unstuck = { d.unstuck with
    curtainCause := e.curtainCause, curtainClearSince := e.curtainClearSince,
    supplyCause := e.supplyCause, supplyClearSince := e.supplyClearSince } := by
  have hcurtain : e.curtainCause = d.curtainCause := (congrArg Drive.curtainCause h : e.unstuck.curtainCause = _)
  have hclear : e.curtainClearSince = d.curtainClearSince :=
    (congrArg Drive.curtainClearSince h : e.unstuck.curtainClearSince = _)
  have hsupply : e.supplyCause = d.supplyCause := (congrArg Drive.supplyCause h : e.unstuck.supplyCause = _)
  have habove : e.supplyClearSince = d.supplyClearSince :=
    (congrArg Drive.supplyClearSince h : e.unstuck.supplyClearSince = _)
  rw [h, hcurtain, hclear, hsupply, habove]
  rfl

/-- A step that clears a cause, giving `u`, and lets the work resume, giving `w`: what its end leaves. -/
theorem State.settle_resumes {s u w : State} (hu : s.HoldsAs u) (hdrive : w.drive = u.tryResume.drive)
    (hkept : w.kept = u.tryResume.kept) {other : Bool} (hother : u.causeInForce = other) :
    (State.settle s w).kept = { u.kept with homeFound := (State.settle s w).drive.homeFound } ∧
      s.resumesUnless (State.settle s w) other := by
  subst hother
  have hk : (State.settle s w).kept = u.tryResume.kept := (State.settle_kept s w).trans hkept
  have hfound : (State.settle s w).drive.homeFound = u.tryResume.drive.homeFound := congrArg Kept.homeFound hk
  refine ⟨by rw [hfound, hk, State.tryResume_kept], fun hs => ?_⟩
  have hholds : u.drive.state = .holding := by rw [hu.drive]; exact hs
  obtain ⟨hstill, _⟩ := State.settle_still (before := s) (s := w)
    (by rw [hdrive]; exact State.tryResume_ne_idle hholds) (.inl (by simp [hs]))
  rw [hdrive] at hstill
  refine ⟨fun hc hr => ?_, fun hheld => ?_⟩
  · exact State.resumed_of_unstuck hstill (hu.resumed (State.tryResume_resumed hholds hc (hu.rested.2 hr)))
  · rw [State.tryResume_stays (.inr (hheld.imp_right (mt hu.rested.1)))] at hstill
    rw [Drive.unstuck_causes hstill, hu.drive]
    rfl

/-! ### The commands -/

/-- A command of a running part. -/
theorem State.during_next {s : State} (h : s.isRunning = true) (effect : State → State) :
    (s.during effect).goOn = .next (State.settle s (effect s)) := by
  unfold State.during State.goOn
  rw [if_pos h]

/-- A command of a running part that finds nothing to do. -/
theorem State.during_idle {s : State} (h : s.isRunning = true) {effect : State → State} (he : effect s = s) :
    (s.during effect).goOn = .next (State.settle s s) := by
  rw [State.during_next h, he]

/-- The frame handed over is the one its command looks for. -/
theorem State.headFor_handed {s : State} {h : Heard} {k : FrameKind} (hh : s.handed h k) {kind : FrameKind → Bool}
    (hk : kind k = true) : s.headFor kind = some h := by
  obtain ⟨_, hbusy, hhead, hkind⟩ := hh
  unfold State.headFor
  cases hrx : s.port.rx with
  | nil => rw [hrx] at hhead; cases hhead
  | cons x rest =>
    rw [hrx] at hhead
    obtain rfl : x = h := Option.some.inj hhead
    simp [hbusy, hkind, hk]

/-- Queueing an INTENT leaves the drive alone. -/
theorem State.queueIntent_drive (s : State) (p : Fin 2) : (s.queueIntent p).drive = s.drive := by
  unfold State.queueIntent
  split
  · rfl
  · rfl
  · split
    · rfl
    · split <;> rfl

/-- The halt flag cleared: the drive resumes where it may, and the queued INTENTs leave it at that. -/
theorem State.clearHalt_motion {s : State} (h : s.control.halt = true) :
    let u := s.setControl { s.control with halt := false }
    s.clearHalt.drive = u.tryResume.drive ∧ s.clearHalt.kept = u.tryResume.kept := by
  rw [State.clearHalt, if_pos h]
  have hdrive : ∀ (ps : List (Fin 2)) (t : State), (ps.foldl State.queueIntent t).drive = t.drive := by
    intro ps
    induction ps with
    | nil => intro t; rfl
    | cons p rest ih => intro t; exact (ih _).trans (t.queueIntent_drive p)
  exact ⟨hdrive _ _, foldl_kept _ State.queueIntent_kept _ _⟩

theorem State.curtainDue_iff {s : State} : s.curtainDue = true ↔
    s.drive.curtainCause = true ∧ ∃ b, s.drive.curtainClearSince = some b ∧ 1000 ≤ elapsedMs s.timer b := by
  unfold State.curtainDue
  cases s.drive.curtainClearSince <;> simp [State.reached_iff, curtainClearMs]

theorem State.supplyDue_iff {s : State} : s.supplyDue = true ↔
    s.drive.supplyCause = true ∧ ∃ b, s.drive.supplyClearSince = some b ∧ 500 ≤ elapsedMs s.timer b := by
  unfold State.supplyDue
  cases s.drive.supplyClearSince <;> simp [State.reached_iff, supplyClearMs]

/-- A clearing time that is not there, or has not run. -/
theorem not_due {cause : Bool} {since : Option Timer} {now : Timer} {ms : Nat}
    (h : cause = false ∨ since = none ∨ ∃ b, since = some b ∧ elapsedMs now b < ms) :
    ¬(cause = true ∧ ∃ b, since = some b ∧ ms ≤ elapsedMs now b) := by
  rintro ⟨hcause, b, hb, hran⟩
  rcases h with h | h | ⟨c, hc, hshort⟩
  · rw [h] at hcause; cases hcause
  · rw [h] at hb; cases hb
  · obtain rfl : b = c := Option.some.inj (hb.symm.trans hc)
    omega

/-- Settles O49: each command clears its cause and lets the held work resume, and the end of the step leaves the drive as the
resume has put it. -/
theorem heldWorkResumes : Obligations.HeldWorkResumes := by
  intro s hrun
  refine ⟨?_, ?_, ?_, ?_, ?_⟩
  · obtain ⟨hkept, hresumes⟩ := State.settle_resumes (s := s) (u := s) (w := s.tryResume) ⟨rfl, rfl, rfl⟩ rfl rfl rfl
    refine ⟨_, State.during_next hrun _, hkept, hresumes, fun hheld => ?_⟩
    rw [State.tryResume_stays hheld]
    exact ⟨rfl, s.settle_standsStill⟩
  · intro h hhanded hservice hhalt
    have hnext : exec .resume s = .next (State.settle s (s.clearHalt.setPort { s.clearHalt.port with headBusy := true })) := by
      refine (State.during_next hrun _).trans ?_
      have htaken : s.inSetupWait = false := decide_eq_false hservice
      simp [State.handOver, State.headFor_handed hhanded (kind := FrameKind.isResume) rfl, htaken]
    obtain ⟨hdrive, hkept⟩ := State.clearHalt_motion hhalt
    obtain ⟨hk, hresumes⟩ := State.settle_resumes (s := s) (u := s.setControl { s.control with halt := false })
      (w := s.clearHalt.setPort { s.clearHalt.port with headBusy := true }) ⟨rfl, rfl, rfl⟩ hdrive hkept
      (other := s.face.stopActive || s.drive.curtainCause || s.drive.supplyCause) (by simp [State.causeInForce])
    exact ⟨_, hnext, hk, hresumes⟩
  · intro high hlong hinactive
    have hlevel : s.debounced .stop high State.stopLevel =
        (s.setFace { s.face with debounces := s.levelTaken .stop high, stop := some false }).tryResume := by
      rw [State.debounced_changes _ hlong, hinactive]
      rfl
    obtain ⟨hk, hresumes⟩ := State.settle_resumes (s := s)
      (u := s.setFace { s.face with debounces := s.levelTaken .stop high, stop := some false })
      ⟨rfl, rfl, rfl⟩ rfl rfl (other := s.control.halt || s.drive.curtainCause || s.drive.supplyCause)
      (by simp [State.causeInForce, FaceUnit.stopActive])
    refine ⟨_, State.during_next hrun _, ?_⟩
    rw [hlevel]
    exact ⟨hk, hresumes⟩
  · refine ⟨_, State.during_next hrun _, fun since hcause hsince hran => ?_, fun hnot => ?_⟩
    · rw [if_pos (State.curtainDue_iff.2 ⟨hcause, since, hsince, hran⟩)]
      obtain ⟨hk, hresumes⟩ := State.settle_resumes (s := s)
        (u := s.setDrive { s.drive with curtainCause := false, curtainClearSince := none }) ⟨rfl, rfl, rfl⟩ rfl rfl
        (other := s.control.halt || s.face.stopActive || s.drive.supplyCause) (by simp [State.causeInForce])
      exact ⟨hk, hresumes⟩
    · rw [if_neg fun hdue => not_due hnot (State.curtainDue_iff.1 hdue)]
      exact ⟨rfl, s.settle_standsStill⟩
  · refine ⟨_, State.during_next hrun _, fun since hcause hsince hran => ?_, fun hnot => ?_⟩
    · rw [if_pos (State.supplyDue_iff.2 ⟨hcause, since, hsince, hran⟩)]
      obtain ⟨hk, hresumes⟩ := State.settle_resumes (s := s)
        (u := s.setDrive { s.drive with supplyCause := false, supplyClearSince := none }) ⟨rfl, rfl, rfl⟩ rfl rfl
        (other := s.control.halt || s.face.stopActive || s.drive.curtainCause) (by simp [State.causeInForce])
      exact ⟨hk, hresumes⟩
    · rw [if_neg fun hdue => not_due hnot (State.supplyDue_iff.1 hdue)]
      exact ⟨rfl, s.settle_standsStill⟩

end Sys2Proof.Machine
end

section
/-! SUPPORT. The stop choice (R46 to R48), the way to a stop and its ramp (R28, R29), and retargets (R31, R51); and the proof
of the statement about them. -/

namespace Sys2Proof.Machine

/-! ### The least of a list -/

theorem leastBy_eq_none {α : Type} {measure : α → Nat} {xs : List α} : leastBy measure xs = none ↔ xs = [] := by
  cases xs with
  | nil => simp [leastBy]
  | cons x rest =>
    unfold leastBy
    split
    · simp
    · split <;> simp

/-- The element chosen is one of the list, and none measures less. -/
theorem leastBy_least {α : Type} {measure : α → Nat} {xs : List α} {x : α} (h : leastBy measure xs = some x) :
    x ∈ xs ∧ ∀ y ∈ xs, measure x ≤ measure y := by
  induction xs generalizing x with
  | nil => cases h
  | cons z rest ih =>
    unfold leastBy at h
    cases hrest : leastBy measure rest with
    | none =>
      rw [hrest] at h
      obtain rfl := Option.some.inj h
      simp [leastBy_eq_none.1 hrest]
    | some w =>
      rw [hrest] at h
      obtain ⟨hmem, hleast⟩ := ih hrest
      simp only at h
      split at h
      · rename_i hle
        obtain rfl := Option.some.inj h
        exact ⟨List.mem_cons_self .., List.forall_mem_cons.2 ⟨Nat.le_refl _, fun y hy => hle.trans (hleast y hy)⟩⟩
      · rename_i hlt
        obtain rfl := Option.some.inj h
        exact ⟨List.mem_cons_of_mem _ hmem, List.forall_mem_cons.2 ⟨by omega, hleast⟩⟩

/-- A list that is not empty has a least element. -/
theorem exists_leastBy {α : Type} (measure : α → Nat) {xs : List α} (h : xs ≠ []) :
    ∃ x, leastBy measure xs = some x ∧ x ∈ xs ∧ ∀ y ∈ xs, measure x ≤ measure y := by
  cases hx : leastBy measure xs with
  | none => exact absurd (leastBy_eq_none.1 hx) h
  | some x => exact ⟨x, rfl, leastBy_least hx⟩

/-! ### The choice (R47) -/

/-- Nearness orders by distance first. -/
theorem State.distance_le_of_nearness_le {s : State} {c d : Nat} (h : s.nearness c ≤ s.nearness d) :
    s.values.distanceBetween s.faceCarrier c ≤ s.values.distanceBetween s.faceCarrier d := by
  unfold State.nearness at h
  simp only at h
  split_ifs at h <;> omega

/-- Of carriers there are, the nearest is one, and none lies closer. -/
theorem State.exists_nearest (s : State) {carriers : List Nat} (h : carriers ≠ []) :
    ∃ c, s.nearest carriers = some c ∧ c ∈ carriers ∧
      ∀ d ∈ carriers, s.values.distanceBetween s.faceCarrier c ≤ s.values.distanceBetween s.faceCarrier d := by
  obtain ⟨c, hc, hmem, hleast⟩ := exists_leastBy s.nearness h
  exact ⟨c, hc, hmem, fun d hd => State.distance_le_of_nearness_le (hleast d hd)⟩

/-- The sweep comes first (R49). -/
def State.sweepFirst (s : State) : Prop :=
  s.audit.sweep ≠ [] ∧ (s.values.sweepEvery ≤ s.planner.stopRun ∨ s.candidates = [])

theorem State.workStop_sweep {s : State} (h : s.sweepFirst) :
    s.workStop = (s.nearest s.audit.sweep).map fun c => { target := c, kind := .sweep } := if_pos h

theorem State.workStop_task {s : State} (h : ¬s.sweepFirst) :
    s.workStop = (match s.candidates.find? s.aged with
      | some t => some { target := s.taskCarrier t, kind := .aged }
      | none => (s.nearest (s.candidates.map s.taskCarrier)).map fun c => { target := c, kind := .nearest }) := if_neg h

/-- What the first three steps choose is the stop. -/
theorem State.chooseStop_of_workStop {s : State} {st : Stop} (h : s.workStop = some st) : s.chooseStop = some st := by
  unfold State.chooseStop
  rw [h]

theorem State.chooseStop_sweep {s : State} (h : s.sweepFirst) :
    ∃ c, s.chooseStop = some { target := c, kind := .sweep } ∧ c ∈ s.audit.sweep ∧
      ∀ d ∈ s.audit.sweep,
        s.values.distanceBetween s.faceCarrier c ≤ s.values.distanceBetween s.faceCarrier d := by
  obtain ⟨c, hc, hmem, hleast⟩ := s.exists_nearest h.1
  refine ⟨c, State.chooseStop_of_workStop ?_, hmem, hleast⟩
  rw [State.workStop_sweep h, hc, Option.map_some]

theorem State.chooseStop_aged {s : State} (h : ¬s.sweepFirst) {before after : List Task} {x : Task}
    (hc : s.candidates = before ++ x :: after) (hb : ∀ y ∈ before, s.aged y = false) (hx : s.aged x = true) :
    s.chooseStop = some { target := s.taskCarrier x, kind := .aged } := by
  have hfind : s.candidates.find? s.aged = some x := by
    have hnone : before.find? s.aged = none := List.find?_eq_none.2 fun y hy => by simp [hb y hy]
    rw [hc, List.find?_append, hnone, Option.none_or, List.find?_cons_of_pos hx]
  apply State.chooseStop_of_workStop
  rw [State.workStop_task h, hfind]

theorem State.chooseStop_nearest {s : State} (h : ¬s.sweepFirst) (hc : s.candidates ≠ [])
    (hy : ∀ y ∈ s.candidates, s.aged y = false) :
    ∃ x ∈ s.candidates, s.chooseStop = some { target := s.taskCarrier x, kind := .nearest } ∧
      ∀ y ∈ s.candidates, s.values.distanceBetween s.faceCarrier (s.taskCarrier x) ≤
        s.values.distanceBetween s.faceCarrier (s.taskCarrier y) := by
  have hfind : s.candidates.find? s.aged = none := List.find?_eq_none.2 fun y hm => by simp [hy y hm]
  obtain ⟨c, hnear, hmem, hleast⟩ :=
    s.exists_nearest (carriers := s.candidates.map s.taskCarrier) (by simpa using hc)
  obtain ⟨x, hx, rfl⟩ := List.mem_map.1 hmem
  refine ⟨x, hx, State.chooseStop_of_workStop ?_, fun y hm => hleast _ (List.mem_map_of_mem hm)⟩
  rw [State.workStop_task h, hfind]
  simp only
  rw [hnear, Option.map_some]

theorem State.chooseStop_park {s : State} (hs : s.audit.sweep = []) (hc : s.candidates = []) :
    s.chooseStop = (match s.planner.parkTarget with
      | none => none
      | some c => if c = s.faceCarrier then none else some { target := c, kind := .park }) := by
  have hwork : s.workStop = none := by simp [State.workStop, hs, hc, State.nearest, leastBy]
  cases hpark : s.planner.parkTarget <;> simp only [State.chooseStop, hwork, hpark]

/-! ### The way to a carrier and the span of its ramp (R28, R29) -/

section
variable {v : SetupValues}

/-- The shorter way is forward on a tie. -/
theorem SetupValues.directionTo_forward {j k : Nat} (hj : j < v.carriers) (hk : k < v.carriers) :
    v.directionTo j k = .forward ↔ (k + v.carriers - j) % v.carriers ≤ (j + v.carriers - k) % v.carriers := by
  unfold SetupValues.directionTo SetupValues.forwardTo
  rw [Nat.mod_eq_of_lt hj, Nat.mod_eq_of_lt hk]
  split <;> simp_all

/-- A distance round a circle: going it from `a` leads to `b`. -/
theorem add_circle_mod {a b n : Nat} (ha : a < n) (hb : b < n) : (a + (b + n - a) % n) % n = b := by
  rw [Nat.add_mod_mod, show a + (b + n - a) = b + n by omega, Nat.add_mod_right, Nat.mod_eq_of_lt hb]

/-- The index positions lie on the loop. -/
theorem SetupValues.index_lt_loop (hp : 0 < v.countsPerPitch) {k : Nat} (hk : k < v.carriers) :
    k * v.countsPerPitch < v.loop := Nat.mul_lt_mul_of_pos_right hk hp

theorem SetupValues.countsTo_forward (hp : 0 < v.countsPerPitch) {a k : Nat} (ha : a < v.loop) (hk : k < v.carriers) :
    v.countsTo a .forward k < v.loop ∧ (a + v.countsTo a .forward k) % v.loop = k * v.countsPerPitch := by
  have hindex := SetupValues.index_lt_loop hp hk
  unfold SetupValues.countsTo
  simp only
  rw [Nat.mod_eq_of_lt ha]
  exact ⟨Nat.mod_lt _ (by omega), add_circle_mod ha hindex⟩

theorem SetupValues.countsTo_reverse (hp : 0 < v.countsPerPitch) {a k : Nat} (ha : a < v.loop) (hk : k < v.carriers) :
    v.countsTo a .reverse k < v.loop ∧ (k * v.countsPerPitch + v.countsTo a .reverse k) % v.loop = a := by
  have hindex := SetupValues.index_lt_loop hp hk
  unfold SetupValues.countsTo
  simp only
  rw [Nat.mod_eq_of_lt hindex]
  exact ⟨Nat.mod_lt _ (by omega), add_circle_mod hindex ha⟩

/-- The first count beyond `low` at which a place comes that lies in each period, `ahead` the first of all: it is `ahead` itself
or one period later. -/
theorem first_beyond {low p ahead : Nat} (hlow : low ≤ p) (hpos : 0 < ahead) (hahead : ahead ≤ p) {place : Nat → Prop}
    (hplace : ∀ n, place n ↔ n ≡ ahead [MOD p]) :
    let span := if low < ahead then ahead else ahead + p
    low < span ∧ place span ∧ ∀ n, low < n → n < span → ¬place n := by
  have honly : ∀ n, 0 < n → n < ahead + p → place n → n = ahead := fun n hn hlt hp =>
    ((hplace n).1 hp).eq_of_abs_lt (by rw [abs_lt]; omega)
  simp only
  split
  · rename_i h
    refine ⟨h, (hplace _).2 rfl, fun n hn hlt hp => ?_⟩
    have := honly n (by omega) (by omega) hp
    omega
  · refine ⟨by omega, (hplace _).2 (Nat.add_mod_right _ _), fun n hn hlt hp => ?_⟩
    have := honly n (by omega) hlt hp
    omega

theorem SetupValues.accelSpan_forward (hp : 0 < v.countsPerPitch) (ht : v.indexTolerance ≤ v.countsPerPitch) (a : Nat) :
    v.indexTolerance < v.accelSpan a .forward ∧ (a + v.accelSpan a .forward) % v.countsPerPitch = 0 ∧
      ∀ n, v.indexTolerance < n → n < v.accelSpan a .forward → ¬(a + n) % v.countsPerPitch = 0 := by
  have hmod := Nat.mod_lt a hp
  have hahead : a + (v.countsPerPitch - a % v.countsPerPitch) ≡ 0 [MOD v.countsPerPitch] := by
    unfold Nat.ModEq
    rw [Nat.add_mod, Nat.add_mod_mod, Nat.zero_mod,
      show a % v.countsPerPitch + (v.countsPerPitch - a % v.countsPerPitch) = v.countsPerPitch by omega, Nat.mod_self]
  refine first_beyond (ahead := v.countsPerPitch - a % v.countsPerPitch) ht (by omega) (by omega)
    (place := fun n => (a + n) % v.countsPerPitch = 0) fun n => ⟨fun hzero => ?_, fun h => ?_⟩
  · exact Nat.ModEq.add_left_cancel' a (Nat.ModEq.trans (by simpa [Nat.ModEq] using hzero) hahead.symm)
  · simpa [Nat.ModEq] using (h.add_left a).trans hahead

theorem SetupValues.accelSpan_reverse (hp : 0 < v.countsPerPitch) (ht : v.indexTolerance ≤ v.countsPerPitch) (a : Nat) :
    v.indexTolerance < v.accelSpan a .reverse ∧
      ((a : Int) - (v.accelSpan a .reverse : Nat)) % (v.countsPerPitch : Nat) = 0 ∧
      ∀ n : Nat, v.indexTolerance < n → n < v.accelSpan a .reverse → ¬((a : Int) - n) % (v.countsPerPitch : Nat) = 0 := by
  have hmod := Nat.mod_lt a hp
  have hahead : (if a % v.countsPerPitch = 0 then v.countsPerPitch else a % v.countsPerPitch) ≡ a [MOD v.countsPerPitch] := by
    unfold Nat.ModEq
    split_ifs with h
    · rw [h, Nat.mod_self]
    · exact Nat.mod_mod _ _
  refine first_beyond (ahead := if a % v.countsPerPitch = 0 then v.countsPerPitch else a % v.countsPerPitch) ht
    (by split_ifs <;> omega) (by split_ifs <;> omega)
    (place := fun n : Nat => ((a : Int) - n) % (v.countsPerPitch : Nat) = 0) fun n => ?_
  have hplace : ((a : Int) - n) % (v.countsPerPitch : Nat) = 0 ↔ n ≡ a [MOD v.countsPerPitch] := by
    rw [← Int.emod_eq_emod_iff_emod_sub_eq_zero, ← Int.natCast_modEq_iff]
    exact eq_comm
  exact hplace.trans ⟨fun h => h.trans hahead.symm, fun h => h.trans hahead⟩

end

end Sys2Proof.Machine
end

section
/-! SUPPORT. What the planner sends at the end of a step: a stop from IDLE (R46 to R48, R28) and a retarget in a move (R31,
R51); and the proof of the statement about the stop choice. -/

namespace Sys2Proof.Machine

/-! ### Whether the planner is asked (R46) -/

/-- What the planner decides is alike in two states: the drive but for its sticky flags, the plan and the open dwell. -/
structure State.PlansAs (t u : State) : Prop where
  drive : t.drive.unstuck = u.drive.unstuck
  planner : t.planner = u.planner
  dwell : t.face.dwell = u.face.dwell

theorem State.mayChoose_iff {s : State} : s.mayChoose = true ↔
    s.control.service = .inService ∧ s.drive.state = .idle ∧ s.face.dwell = none ∧ s.planner.inFlight = none := by
  simp [State.mayChoose, and_assoc]

theorem State.chooseNext_stays {s : State} (h : s.mayChoose = false) : s.chooseNext = s := by
  simp [State.chooseNext, h]

/-- The end of a step plans what the planner's part of it does. -/
theorem State.settle_plansAs (b s : State) : (State.settle b s).PlansAs (State.plan b s.faced) := by
  obtain ⟨hdrive, hplanner, hdwell, _⟩ := State.settle_planned b s
  exact ⟨hdrive, hplanner, hdwell⟩

/-- Where no move goes on through the step, the planner does nothing but choose a stop. -/
theorem State.plan_of_not_moving {b : State} (s : State) (h : b.drive.state ≠ .moving) : State.plan b s = s.chooseNext := by
  unfold State.plan State.retarget
  rw [if_neg fun hm => h hm.1]

/-- The work before the planner is asked leaves the service state. -/
theorem State.faced_service (s : State) : s.faced.control.service = s.control.service := by
  have hkept : s.faced.kept = s.kept := by unfold State.faced; simp
  exact congrArg Kept.service hkept

/-- Tasks that join a dwell change its due tasks only. -/
theorem State.joinDue_dwell {s : State} {d : Dwell} (h : s.face.dwell = some d) :
    (∃ due, s.joinDue.face.dwell = some { d with due := due }) ∧
      s.joinDue.planner.inFlight = s.planner.inFlight := by
  have hfold : ∀ (xs : List Task) (t : State),
      (xs.foldl (fun u x => u.updateTask x.slot Task.atFace) t).planner.inFlight = t.planner.inFlight := by
    intro xs
    induction xs with
    | nil => intro t; rfl
    | cons x rest ih => intro t; exact ih _
  unfold State.joinDue
  rw [h]
  exact ⟨⟨_, rfl⟩, hfold _ s⟩

/-- A dwell that still scans stays open before the planner is asked (R52, R63). -/
theorem State.faced_scanning {s : State} (hq : s.quiet) {d : Dwell} (h : s.face.dwell = some d) (hd : d.phase = .scanning) :
    s.faced.face.dwell ≠ none := by
  obtain ⟨⟨due, hjoin⟩, _⟩ := State.joinDue_dwell h
  have hlight : s.refreshDwell = s.joinDue := by
    unfold State.refreshDwell State.lightDue
    rw [hjoin]
    simp [hd]
  have htest : s.joinDue.testCompletion = s.joinDue := by
    unfold State.testCompletion
    rw [hjoin]
    simp [hd]
  unfold State.faced
  rw [State.relocateAll_quiet s hq.1, State.considerRounds_quiet s hq.2, hlight, htest, hjoin]
  simp

/-- Out of service, with a stop in flight or with a dwell that still scans, the planner sends nothing. -/
theorem State.settle_unasked {b s : State} (hb : b.drive.state ≠ .moving) (hq : s.quiet)
    (h : s.control.service ≠ .inService ∨ s.planner.inFlight ≠ none ∨
      ∃ d, s.face.dwell = some d ∧ d.phase = .scanning) :
    (State.settle b s).drive.unstuck = s.drive.unstuck ∧
      (State.settle b s).planner.inFlight = s.planner.inFlight := by
  have hunasked : s.faced.mayChoose = false := by
    rw [Bool.eq_false_iff, Ne, State.mayChoose_iff, State.faced_service, s.faced_keepsPlan.inFlight]
    rintro ⟨hservice, _, hdwell, hflight⟩
    rcases h with h | h | ⟨d, hd, hphase⟩
    · exact h hservice
    · exact h hflight
    · exact State.faced_scanning hq hd hphase hdwell
  have hplan := State.settle_plansAs b s
  rw [State.plan_of_not_moving _ hb, State.chooseNext_stays hunasked] at hplan
  exact ⟨hplan.drive.trans (congrArg Drive.unstuck s.faced_drive),
    (congrArg Planner.inFlight hplan.planner).trans s.faced_keepsPlan.inFlight⟩

/-! ### A stop sent from IDLE (R28, R48) -/

section
variable {s : State} {st : Stop}

theorem State.startStop_refused (hi : s.drive.state = .idle) (h : s.values.carriers ≤ st.target) : s.startStop st = s := by
  simp [State.startStop, State.moveAnswer, hi, h]

theorem State.startStop_atFace (hi : s.drive.state = .idle) (h : st.target < s.values.carriers)
    (hf : st.target = s.faceCarrier) : s.startStop st = s.settledAt st.target := by
  have hanswer : s.moveAnswer st.target = .settledAtOnce := by
    unfold State.moveAnswer
    rw [hi]
    simp only
    rw [if_neg (by omega), if_pos hf]
  unfold State.startStop
  rw [hanswer]

theorem State.startStop_away (hi : s.drive.state = .idle) (h : st.target < s.values.carriers)
    (hf : st.target ≠ s.faceCarrier) :
    (s.startStop st).drive = (s.takeMove st.target).drive ∧
      (s.startStop st).planner = { s.planner with inFlight := some st } ∧ (s.startStop st).face = s.face := by
  have hanswer : s.moveAnswer st.target = .accepted := by
    unfold State.moveAnswer
    rw [hi]
    simp only
    rw [if_neg (by omega), if_neg hf]
  have htaken : (s.takeMove st.target).planner = s.planner ∧ (s.takeMove st.target).face = s.face := by
    unfold State.takeMove
    simp only
    split <;> exact ⟨rfl, rfl⟩
  obtain ⟨hplanner, hface⟩ := htaken
  unfold State.startStop
  rw [hanswer]
  exact ⟨rfl, congrArg (fun p : Planner => { p with inFlight := some st }) hplanner, hface⟩

end

/-- SETTLED opens a dwell that scans, and no stop is in flight (R48, R52). -/
theorem State.settledAt_opens (s : State) (c : Nat) :
    (s.settledAt c).drive = s.drive ∧ (s.settledAt c).planner.inFlight = none ∧
      ∃ d, (s.settledAt c).face.dwell = some d ∧ d.carrier = c ∧ d.phase = .scanning ∧ d.wrong = [] ∧ d.elapsed = 0 := by
  obtain ⟨_, hdrive, _, _⟩ := s.settledAt_parts c
  refine ⟨hdrive, ?_⟩
  unfold State.settledAt
  simp only
  obtain ⟨⟨due, hdwell⟩, hflight⟩ := State.joinDue_dwell
    (s := (s.setPlanner { s.planner with
      inFlight := none,
      parkTarget := if s.planner.parkTarget = some c then none else s.planner.parkTarget }).setFace { s.face with
      image := Vector.replicate 12 SensorPos.unknown,
      dwell := some { carrier := c, phase := .scanning, due := [], wrong := [], elapsed := 0, scan := [] } }) rfl
  exact ⟨hflight, _, hdwell, rfl, rfl, rfl, rfl⟩

/-- A move begun is read off the drive, but for its sticky flags. -/
theorem State.begunMove_of_unstuck {s t u : State} {dir : Direction} {travel : Nat}
    (h : t.drive.unstuck = u.drive.unstuck) (hu : s.begunMove u dir travel) : s.begunMove t dir travel := by
  have hread : ∀ x : State, s.begunMove x dir travel ↔ s.begunMove (s.setDrive x.drive.unstuck) dir travel :=
    fun _ => Iff.rfl
  rw [hread, h, ← hread]
  exact hu

/-- A move taken from IDLE begins at once, or is held under a cause (R28). -/
theorem State.takeMove_begins {s t : State} {c : Nat} (h : t.drive.unstuck = (s.takeMove c).drive.unstuck) :
    let dir := s.values.directionTo s.faceCarrier c
    let travel := s.values.countsTo s.drive.position dir c
    t.drive.target = some c ∧ (s.causeInForce = false → s.begunMove t dir travel) ∧
      (s.causeInForce = true → t.drive.unstuck = { s.drive.unstuck with
        state := .holding, held := some .move, target := some c, direction := dir, travel := (travel : Int) }) := by
  have htarget : (s.takeMove c).drive.target = some c := by
    unfold State.takeMove
    simp only
    split <;> rfl
  refine ⟨(congrArg Drive.target h : t.drive.unstuck.target = _).trans htarget, fun hc => ?_, fun hc => ?_⟩
  · refine State.begunMove_of_unstuck h ?_
    simp only [State.takeMove, hc]
    exact State.beginMotion_begunMove (s.setDrive { s.drive with target := some c }) _ _
  · rw [h]
    simp only [State.takeMove, hc]
    rfl

/-- A choice without a stop clears a park target at the face, and nothing else (R47). -/
theorem State.clearParked_plan (s : State) :
    s.clearParked.drive = s.drive ∧ s.clearParked.planner.inFlight = s.planner.inFlight ∧
      s.clearParked.planner.parkTarget =
        (if s.planner.parkTarget = some s.faceCarrier then none else s.planner.parkTarget) ∧
      s.clearParked.face = s.face := by
  unfold State.clearParked
  split <;> exact ⟨rfl, rfl, rfl, rfl⟩

/-- In IDLE and IN_SERVICE, with no dwell open and no stop in flight, the step ends with the stop choice. -/
theorem State.settle_asked {b s : State} (hb : b.drive.state ≠ .moving) (hi : s.drive.state = .idle) (hq : s.quiet)
    (hservice : s.control.service = .inService) (hflight : s.planner.inFlight = none) (hdwell : s.face.dwell = none) :
    (∀ st, s.chooseStop = some st → (State.settle b s).PlansAs (s.startStop st)) ∧
      (s.chooseStop = none → (State.settle b s).PlansAs s.clearParked) := by
  have hplan := State.settle_plansAs b s
  rw [State.faced_still hq hdwell, State.plan_of_not_moving _ hb, State.chooseNext,
    if_pos (State.mayChoose_iff.2 ⟨hservice, hi, hdwell, hflight⟩)] at hplan
  refine ⟨fun st hst => ?_, fun hnone => ?_⟩
  · simpa only [hst] using hplan
  · simpa only [hnone] using hplan

/-! ### A retarget (R31, R51) -/

theorem StopKind.mayBecome_iff {old new : StopKind} : old.mayBecome new = true ↔
    old = .park ∨ (new = old ∧ (old = .nearest ∨ old = .sweep)) := by
  cases old <;> simp [StopKind.mayBecome]

/-- What a retarget could go to: a task that has become a candidate, or a carrier that has joined the sweep set. -/
def State.isNew (b s : State) (x : Stop) : Prop :=
  (x.kind = .nearest ∧ ∃ k ∈ s.candidates, s.taskCarrier k = x.target ∧
    ∀ y ∈ b.candidates, (y.work, y.created, y.joined) ≠ (k.work, k.created, k.joined)) ∨
  (x.kind = .sweep ∧ x.target ∈ s.audit.sweep ∧ x.target ∉ b.audit.sweep)

/-- One task at two moments, by what a move leaves as it is (log 31). -/
theorem Task.same_iff {t u : Task} : t.same u = true ↔ (u.work, u.created, u.joined) = (t.work, t.created, t.joined) := by
  rw [eq_comm (a := (u.work, u.created, u.joined))]
  simp [Task.same, and_assoc]

/-- A task that is none of some others, as the retarget tests it. -/
theorem Task.not_any_same {ts : List Task} {k : Task} : (!ts.any k.same) = true ↔
    ∀ y ∈ ts, (y.work, y.created, y.joined) ≠ (k.work, k.created, k.joined) := by
  simp only [Bool.not_eq_true', List.any_eq_false, Task.same_iff, ne_eq]

theorem State.mem_newTargets {b s : State} {x : Stop} : x ∈ State.newTargets b s ↔ State.isNew b s x := by
  obtain ⟨target, kind⟩ := x
  unfold State.newTargets State.isNew
  simp only [List.mem_append, List.mem_map, List.mem_filter, Task.not_any_same, Stop.mk.injEq]
  constructor
  · rintro (⟨k, ⟨hk, hnew⟩, hcarrier, hkind⟩ | ⟨c, ⟨hc, hnew⟩, hcarrier, hkind⟩)
    · exact .inl ⟨hkind.symm, k, hk, hcarrier, hnew⟩
    · subst hcarrier
      exact .inr ⟨hkind.symm, hc, by simpa using hnew⟩
  · rintro (⟨hkind, k, hk, hcarrier, hnew⟩ | ⟨hkind, hc, hnew⟩)
    · exact .inl ⟨k, ⟨hk, hnew⟩, hcarrier, hkind.symm⟩
    · exact .inr ⟨target, ⟨hc, by simpa using hnew⟩, rfl, hkind.symm⟩

/-- What a retarget from the stop in flight may go to (R51). -/
def State.eligible (b s : State) (old x : Stop) : Prop :=
  State.isNew b s x ∧ (old.kind = .park ∨ (x.kind = old.kind ∧ (old.kind = .nearest ∨ old.kind = .sweep))) ∧
    0 < s.countsAhead x.target ∧ (s.countsAhead x.target : Int) < s.drive.travel

/-- What the planner chooses a retarget from. -/
def State.retargets (b s : State) (old : Stop) : List Stop :=
  (State.newTargets b s).filter fun x => old.kind.mayBecome x.kind && s.onPath x.target

theorem State.mem_retargets {b s : State} {old x : Stop} : x ∈ State.retargets b s old ↔ State.eligible b s old x := by
  simp only [State.retargets, List.mem_filter, State.mem_newTargets, Bool.and_eq_true, StopKind.mayBecome_iff, State.onPath,
    decide_eq_true_eq, State.eligible]

/-- What the drive asks of a retarget it takes (R31). -/
def State.takesRetarget (s : State) (x : Stop) : Prop :=
  s.drive.phase ≠ .decel ∧ x.target < s.values.carriers ∧ s.values.countsPerPitch ≤ s.countsAhead x.target

/-- The drive's answer to a carrier ahead of the loop and before the target (R31). -/
theorem State.retargetAnswer_onPath {s : State} {x : Stop} (hpos : 0 < s.countsAhead x.target)
    (hlt : (s.countsAhead x.target : Int) < s.drive.travel) :
    (s.takesRetarget x → s.retargetAnswer x.target = .accepted) ∧
      (¬s.takesRetarget x → ∃ reason, s.retargetAnswer x.target = .refused reason) := by
  unfold State.takesRetarget State.retargetAnswer State.countsAhead at *
  simp only
  constructor
  · rintro ⟨hphase, hcarrier, hfar⟩
    rw [if_neg hphase, if_neg (by omega), if_neg (by omega)]
  · intro hnot
    split_ifs with hphase hafter hclose
    · exact ⟨_, rfl⟩
    · exact ⟨_, rfl⟩
    · exact ⟨_, rfl⟩
    · exact absurd ⟨hphase, by omega, by omega⟩ hnot

/-- The end of a step in a move that goes on, with no dwell open: a retarget of the state as it is. -/
theorem State.settle_retarget {b s : State} (hs : s.drive.state = .moving) (hdwell : s.face.dwell = none)
    (hq : s.quiet) : (State.settle b s).PlansAs (State.retarget b s) := by
  have hunasked : s.mayChoose = false := by simp [State.mayChoose, hs]
  have hplan := State.settle_plansAs b s
  rwa [State.faced_still hq hdwell, State.plan, State.chooseNext_stays hunasked] at hplan

section
variable {b s : State} {old : Stop} (hb : b.drive.state = .moving) (hs : s.drive.state = .moving)
  (hold : s.planner.inFlight = some old)
include hb hs hold

theorem State.retarget_none (h : ∀ x, ¬State.eligible b s old x) : State.retarget b s = s := by
  have hnone : State.retargetStop b s = none := by
    unfold State.retargetStop
    rw [hold]
    exact leastBy_eq_none.2 (List.eq_nil_iff_forall_not_mem.2 fun x hx => h x (State.mem_retargets.1 hx))
  rw [State.retarget, if_pos ⟨hb, hs⟩, hnone]

/-- Of what a retarget may go to, the one the loop reaches first is asked for, and the drive answers (R51). -/
theorem State.retarget_some (h : ∃ x, State.eligible b s old x) :
    ∃ x, State.eligible b s old x ∧
      (∀ y, State.eligible b s old y → s.countsAhead x.target ≤ s.countsAhead y.target) ∧
      (s.takesRetarget x → State.retarget b s =
        (s.takeRetarget x.target).setPlanner { (s.takeRetarget x.target).planner with inFlight := some x }) ∧
      (¬s.takesRetarget x → State.retarget b s = s) := by
  obtain ⟨z, hz⟩ := h
  obtain ⟨x, hx, hmem, hleast⟩ := exists_leastBy (fun x : Stop => s.countsAhead x.target)
    (List.ne_nil_of_mem (State.mem_retargets.2 hz))
  have hstop : State.retargetStop b s = some x := by
    unfold State.retargetStop
    rw [hold]
    exact hx
  have heligible := State.mem_retargets.1 hmem
  obtain ⟨_, _, hpos, hlt⟩ := id heligible
  obtain ⟨htaken, hrefused⟩ := State.retargetAnswer_onPath hpos hlt
  refine ⟨x, heligible, fun y hy => hleast y (State.mem_retargets.2 hy), fun ht => ?_, fun ht => ?_⟩
  · rw [State.retarget, if_pos ⟨hb, hs⟩, hstop]
    simp only [htaken ht]
  · obtain ⟨reason, hreason⟩ := hrefused ht
    rw [State.retarget, if_pos ⟨hb, hs⟩, hstop]
    simp only [hreason]

end

/-! ### The statement -/

/-- The dominant level of a frame another station sends is no command to this one. -/
theorem exec_frameHeld_receiver {s : State} (h : s.isRunning = true) :
    exec (.frameHeld .receiver) s = .next (State.settle s s) :=
  State.during_idle h (by simp [State.held])

/-- Settles O60: the choice and the ways to a stop are read off their definitions; the end of a step is the planner's part
of it on the state as it is, and of what a retarget may go to the least counts ahead are chosen. -/
theorem stopChoiceTakesTheFirstStep : Obligations.StopChoiceTakesTheFirstStep := by
  refine ⟨fun s => ⟨State.chooseStop_sweep, fun _ _ _ h => State.chooseStop_aged h, State.chooseStop_nearest,
      State.chooseStop_park⟩,
    fun s hrun => ⟨exec_frameHeld_receiver hrun, fun _ => if_pos hrun⟩, ?_, ?_, ?_⟩
  · intro v a j k hp ht ha hj hk
    exact ⟨SetupValues.directionTo_forward hj hk, SetupValues.countsTo_forward hp ha hk, SetupValues.countsTo_reverse hp ha hk,
      SetupValues.accelSpan_forward hp ht a, SetupValues.accelSpan_reverse hp ht a⟩
  · intro b s hb hi hq
    refine ⟨State.settle_unasked hb hq, fun hservice hflight hdwell => ?_⟩
    obtain ⟨hstop, hrest⟩ := State.settle_asked hb hi hq hservice hflight hdwell
    refine ⟨fun st hst => ?_, fun hnone => ?_⟩
    · obtain ⟨hdrive, hplanner, hopen⟩ := hstop st hst
      refine ⟨fun hbad => ?_, fun hok hface => ?_, fun hok haway => ?_⟩
      · rw [State.startStop_refused hi hbad] at hdrive hplanner hopen
        exact ⟨⟨hdrive, congrArg Planner.inFlight hplanner⟩, hopen.trans hdwell⟩
      · rw [State.startStop_atFace hi hok hface] at hdrive hplanner hopen
        obtain ⟨hrests, hends, d, hd, hscanning⟩ := s.settledAt_opens st.target
        exact ⟨⟨hdrive.trans (congrArg Drive.unstuck hrests),
          ((congrArg Planner.inFlight hplanner).trans hends).trans hflight.symm⟩, d, hopen.trans hd, hscanning⟩
      · obtain ⟨hmove, hplan, hface⟩ := State.startStop_away hi hok haway
        rw [hmove] at hdrive
        rw [hplan] at hplanner
        rw [hface] at hopen
        have hpark : (State.settle b s).planner.parkTarget = s.planner.parkTarget := by rw [hplanner]
        exact ⟨congrArg Planner.inFlight hplanner, hpark, hopen.trans hdwell, State.takeMove_begins hdrive⟩
    · obtain ⟨hdrive, hplanner, hopen⟩ := hrest hnone
      obtain ⟨hrests, hflies, hcleared, hface⟩ := s.clearParked_plan
      exact ⟨⟨hdrive.trans (congrArg Drive.unstuck hrests), (congrArg Planner.inFlight hplanner).trans hflies⟩,
        hopen.trans ((congrArg FaceUnit.dwell hface).trans hdwell), (congrArg Planner.parkTarget hplanner).trans hcleared⟩
  · intro b s old hb hs hdwell hq hold
    obtain ⟨hdrive, hplanner, _⟩ := State.settle_retarget (b := b) hs hdwell hq
    refine ⟨fun hno => ?_, fun hsome => ?_⟩
    · rw [State.retarget_none hb hs hold hno] at hdrive hplanner
      exact ⟨hdrive, (congrArg Planner.inFlight hplanner).trans hold⟩
    · obtain ⟨x, heligible, hleast, htaken, hrefused⟩ := State.retarget_some hb hs hold hsome
      refine ⟨x, heligible, hleast, fun ht => ?_, fun ht => ?_⟩
      · rw [htaken ht] at hdrive hplanner
        exact ⟨congrArg Planner.inFlight hplanner, hdrive⟩
      · rw [hrefused ht] at hdrive hplanner
        exact ⟨hdrive, (congrArg Planner.inFlight hplanner).trans hold⟩

end Sys2Proof.Machine
end

section
/-! SUPPORT. The laws of the work queue, the bidding hold, the queues of the bus port, the report log and the contest table
(R43, R54, R82, R100, R160, R162, R175), on two views of a state that hold no more than these laws speak of: the bench
(tasks, hold, pocket entries, report log) and the calls (contest references and bus queues). A few moves are all that can
happen to each view, and every law is kept by every move; the sections after this one show that every operation of the
model is made of such moves. -/

namespace Sys2Proof.Machine

/-! ### The bench -/

/-- What the laws of R43, R54 and R175 speak of: the tasks with their slots, the bidding hold and its marks, the service
state, whether a pocket holds an entry, and how many records the report log holds; and the station number, which says
which frames join the receive queue (R160). -/
structure Bench where
  tasks : List (TaskWork × Nat)
  held : Bool
  stopMark : Nat
  resumeMark : Nat
  /-- The stop mark that a SETUP END would settle. -/
  receivedMark : Nat
  service : ServiceState
  entries : Bool
  logged : Nat
  own : BitVec 5

def Task.place (t : Task) : TaskWork × Nat := (t.work, t.slot)

/-- The bench of a state. -/
def State.bench (s : State) : Bench :=
  { tasks := s.planner.queue.map Task.place, held := s.planner.bidHold, stopMark := s.values.stopMark,
    resumeMark := s.values.resumeMark, receivedMark := s.control.received.stopMark, service := s.control.service,
    entries := bothPockets.any fun p => (s.pocket p).hasEntry, logged := s.control.log.length,
    own := s.own }

/-- The ordinary tasks of a bench (R42). -/
def Bench.ordinary (b : Bench) : Nat := (b.tasks.filter fun t => t.1.ordinary).length

/-- The hold after the tasks have become others (R54). -/
def Bench.judge (b : Bench) : Bool :=
  if b.stopMark ≤ b.ordinary then true else if b.ordinary ≤ b.resumeMark then false else b.held

/-- Other tasks, and the hold judged again. -/
def Bench.withTasks (b : Bench) (ts : List (TaskWork × Nat)) : Bench :=
  { b with tasks := ts, held := { b with tasks := ts }.judge }

/-- The task of one slot on another. -/
def Bench.relocated (b : Bench) (old new : Nat) : Bench :=
  { b with tasks := b.tasks.map fun t => if t.2 = old then (t.1, new) else t }

/-- Everything that can happen to a bench while the part runs. In SETUP_WAIT a task is added only for a pocket entry, and
an entry is made only for a task. -/
inductive Bench.Move : Bench → Bench → Prop
  | added {b : Bench} (w : TaskWork) (slot : Nat) (hnew : slot ∉ b.tasks.map Prod.snd)
      (hordinary : w.ordinary = true → b.ordinary < ordinaryCapacity) (hroom : b.tasks.length < queueCapacity)
      (hcause : b.service ≠ .setupWait ∨ b.entries = true) : Move b (b.withTasks (b.tasks ++ [(w, slot)]))
  | dropped {b : Bench} {ts : List (TaskWork × Nat)} (h : ts.Sublist b.tasks) : Move b (b.withTasks ts)
  | moved {b : Bench} (old new : Nat) (hnew : new ∉ b.tasks.map Prod.snd) : Move b (b.relocated old new)
  | entries {b : Bench} (e : Bool) (h : e = true → b.entries = true ∨ b.tasks ≠ []) : Move b { b with entries := e }
  | logged {b : Bench} (n : Nat) (h : n ≤ max b.logged logCapacity) : Move b { b with logged := n }
  | served {b : Bench} (x : ServiceState) (h : x ≠ .setupWait) : Move b { b with service := x }
  | received {b : Bench} (n : Nat) (h : 0 < n) : Move b { b with receivedMark := n }
  | settled {b : Bench} (mark : Nat) (hwait : b.service = .setupWait) (h : 0 < b.receivedMark → mark < b.receivedMark) :
      Move b { b with stopMark := b.receivedMark, resumeMark := mark, service := .joining }

/-- A sequence of moves. -/
abbrev Bench.Moves : Bench → Bench → Prop := Relation.ReflTransGen Bench.Move

/-- Outside SETUP_WAIT the part never comes back to it by itself. -/
theorem Bench.Moves.awake {b c : Bench} (h : b.Moves c) (hb : b.service ≠ .setupWait) : c.service ≠ .setupWait := by
  induction h with
  | refl => exact hb
  | tail _ hm ih =>
    cases hm with
    | served x hx => exact hx
    | settled => simp
    | _ => exact ih

/-- The station number stays. -/
theorem Bench.Moves.own_eq {b c : Bench} (h : b.Moves c) : c.own = b.own := by
  induction h with
  | refl => rfl
  | tail _ hm ih => cases hm <;> exact ih

/-- A law that every move keeps. -/
theorem Bench.Moves.law {law : Bench → Prop} (hmove : ∀ {b c : Bench}, law b → b.Move c → law c) {b c : Bench}
    (h : b.Moves c) (hb : law b) : law c := by
  induction h with
  | refl => exact hb
  | tail _ hm ih => exact hmove ih hm

/-! ### The laws of a bench -/

/-- The law of R43. -/
structure Bench.QueueLaw (b : Bench) : Prop where
  room : b.tasks.length ≤ queueCapacity
  ordinary : b.ordinary ≤ ordinaryCapacity
  nodup : (b.tasks.map Prod.snd).Nodup

/-- The law of R54, with the marks apart and nothing held in SETUP_WAIT. -/
structure Bench.HoldLaw (b : Bench) : Prop where
  received : 0 < b.receivedMark
  marks : b.resumeMark < b.stopMark
  clear : b.held = false → b.ordinary < b.stopMark
  set : b.held = true → b.resumeMark < b.ordinary
  waits : b.service = .setupWait → b.tasks = [] ∧ b.entries = false

/-- The law of R175. -/
def Bench.LogLaw (b : Bench) : Prop := b.logged ≤ logCapacity

@[simp] theorem Bench.ordinary_withTasks (b : Bench) (ts : List (TaskWork × Nat)) :
    (b.withTasks ts).ordinary = (ts.filter fun t => t.1.ordinary).length := rfl

/-- A task moved to another slot stays ordinary or not. -/
theorem Bench.ordinary_relocated (b : Bench) (old new : Nat) : (b.relocated old new).ordinary = b.ordinary := by
  unfold Bench.ordinary Bench.relocated
  simp only [List.filter_map, List.length_map]
  congr 2
  funext t
  simp only [Function.comp]
  split <;> rfl

/-- A task that goes to a slot of no task leaves every slot with at most one. -/
theorem Bench.relocated_nodup {b : Bench} (h : (b.tasks.map Prod.snd).Nodup) (old : Nat) {new : Nat}
    (hnew : new ∉ b.tasks.map Prod.snd) : ((b.relocated old new).tasks.map Prod.snd).Nodup := by
  have hslots : (b.relocated old new).tasks.map Prod.snd =
      (b.tasks.map Prod.snd).map fun n => if n = old then new else n := by
    simp only [Bench.relocated, List.map_map]
    apply List.map_congr_left
    intro t _
    simp only [Function.comp]
    split <;> rfl
  rw [hslots]
  refine h.map_on fun x hx y hy hxy => ?_
  have hne : ∀ z ∈ b.tasks.map Prod.snd, z ≠ new := fun z hz he => hnew (he ▸ hz)
  split_ifs at hxy with hxo hyo hyo
  · exact hxo.trans hyo.symm
  · exact absurd hxy.symm (hne y hy)
  · exact absurd hxy (hne x hx)
  · exact hxy

theorem Bench.QueueLaw.move {b c : Bench} (h : b.QueueLaw) (hm : b.Move c) : c.QueueLaw := by
  obtain ⟨hroom, hordinary, hnodup⟩ := h
  cases hm with
  | added w slot hnew hfew hfits hcause =>
    refine ⟨?_, ?_, ?_⟩
    · simp only [Bench.withTasks, List.length_append, List.length_singleton]
      omega
    · simp only [Bench.ordinary_withTasks, List.filter_append, List.length_append]
      cases hw : w.ordinary with
      | true => simpa [hw, Bench.ordinary] using Nat.succ_le_of_lt (hfew hw)
      | false => simpa [hw, Bench.ordinary] using hordinary
    · rw [Bench.withTasks, List.map_append]
      exact hnodup.append (List.nodup_singleton slot) (by simpa using hnew)
  | dropped hsub =>
    exact ⟨hsub.length_le.trans hroom, (hsub.filter _).length_le.trans hordinary, (hsub.map _).nodup hnodup⟩
  | moved old new hnew =>
    exact ⟨by simpa [Bench.relocated] using hroom, (b.ordinary_relocated old new).trans_le hordinary,
      Bench.relocated_nodup hnodup old hnew⟩
  | _ => exact ⟨hroom, hordinary, hnodup⟩

theorem Bench.HoldLaw.withTasks {b : Bench} (h : b.HoldLaw) {ts : List (TaskWork × Nat)}
    (hwaits : b.service = .setupWait → ts = []) : (b.withTasks ts).HoldLaw where
  received := h.received
  marks := h.marks
  clear := by
    simp only [Bench.withTasks, Bench.judge]
    split_ifs with hstop hresume
    · simp
    · exact fun _ => lt_of_not_ge hstop
    · exact fun _ => lt_of_not_ge hstop
  set := by
    have hmarks := h.marks
    simp only [Bench.withTasks, Bench.judge]
    split_ifs with hstop hresume
    · exact fun _ => hmarks.trans_le hstop
    · simp
    · exact fun _ => lt_of_not_ge hresume
  waits := fun hw => ⟨hwaits hw, (h.waits hw).2⟩

theorem Bench.HoldLaw.move {b c : Bench} (h : b.HoldLaw) (hm : b.Move c) : c.HoldLaw := by
  cases hm with
  | added w slot hnew hfew hfits hcause =>
    refine h.withTasks fun hw => ?_
    rcases hcause with hawake | hentry
    · exact absurd hw hawake
    · exact absurd hentry (by simp [(h.waits hw).2])
  | dropped hsub => exact h.withTasks fun hw => List.sublist_nil.1 ((h.waits hw).1 ▸ hsub)
  | moved old new hnew =>
    have hsame := b.ordinary_relocated old new
    exact { h with
      clear := fun hc => hsame.trans_lt (h.clear hc)
      set := fun hs => (h.set hs).trans_eq hsame.symm
      waits := fun hw => ⟨by simp [Bench.relocated, (h.waits hw).1], (h.waits hw).2⟩ }
  | entries e he =>
    refine { h with waits := fun hw => ⟨(h.waits hw).1, ?_⟩ }
    have := h.waits hw
    cases e <;> simp_all
  | logged n hn => exact { h with }
  | served x hx => exact { h with waits := fun hw => absurd hw hx }
  | received n hn => exact { h with received := hn }
  | settled mark hwait hmark =>
    obtain ⟨htasks, _⟩ := h.waits hwait
    have hnone : b.ordinary = 0 := by simp [Bench.ordinary, htasks]
    refine ⟨h.received, hmark h.received, fun _ => ?_, fun hs => ?_, by simp⟩
    · exact hnone.trans_lt h.received
    · exact absurd (h.set hs) (by omega)

theorem Bench.LogLaw.move {b c : Bench} (h : b.LogLaw) (hm : b.Move c) : c.LogLaw := by
  cases hm with
  | logged n hn => exact hn.trans (max_le h le_rfl)
  | _ => exact h

/-! ### The calls -/

/-- What the laws of R82, R100, R160 and R162 speak of: the references of the contest records that are not CLOSED, of the
computation and of the rounds to consider, whether a frame is in its owner's hands, and how many frames the transmit and
the receive queue hold. -/
structure Calls where
  live : List Ref
  computing : Option Ref
  considering : List Ref
  busy : Bool
  sent : Nat
  heard : Nat

/-- The references of the records that are not CLOSED. -/
def liveRefs (records : List Contest) : List Ref :=
  (records.filter fun c => decide (c.state ≠ .closed)).map Contest.ref

/-- The calls of a state. -/
def State.calls (s : State) : Calls :=
  { live := liveRefs s.contests.records, computing := s.contests.computing.map fun c => c.opening.ref,
    considering := s.contests.considering.map RoundOpen.ref, busy := s.port.headBusy, sent := s.port.tx.length,
    heard := s.port.rx.length }

/-- Every reference that is contested or waits to be. -/
def Calls.refs (k : Calls) : List Ref := k.live ++ k.computing.toList ++ k.considering

/-- No computation in progress and no round to consider. -/
def Calls.Idle (k : Calls) : Prop := k.computing = none ∧ k.considering = []

/-- Everything that can happen to the calls but for a frame heard and the hand-over of one. -/
inductive Calls.Move : Calls → Calls → Prop
  | contests {k : Calls} (live : List Ref) (computing : Option Ref) (considering : List Ref)
      (hrefs : (live ++ computing.toList ++ considering).Subperm k.refs)
      (hidle : k.Idle → computing = none ∧ considering = []) :
      Move k { k with live := live, computing := computing, considering := considering }
  | sent {k : Calls} (n : Nat) (h : n ≤ max k.sent txCapacity) : Move k { k with sent := n }
  | heard {k : Calls} (n : Nat) (h : n ≤ k.heard) : Move k { k with heard := n }
  | released {k : Calls} (h : k.Idle) : Move k { k with busy := false }

/-- A sequence of moves. -/
abbrev Calls.Moves : Calls → Calls → Prop := Relation.ReflTransGen Calls.Move

/-- No move takes a frame in hand. -/
theorem Calls.Moves.busy_false {k l : Calls} (h : k.Moves l) (hk : k.busy = false) : l.busy = false := by
  induction h with
  | refl => exact hk
  | tail _ hm ih =>
    cases hm with
    | released => rfl
    | _ => exact ih

/-- No move adds a frame to the receive queue. -/
theorem Calls.Moves.heard_le {k l : Calls} (h : k.Moves l) : l.heard ≤ k.heard := by
  induction h with
  | refl => exact le_rfl
  | tail _ hm ih =>
    cases hm with
    | heard n hn => exact hn.trans ih
    | _ => exact ih

/-- A law that every move keeps. -/
theorem Calls.Moves.law {law : Calls → Prop} (hmove : ∀ {k l : Calls}, law k → k.Move l → law l) {k l : Calls}
    (h : k.Moves l) (hk : law k) : law l := by
  induction h with
  | refl => exact hk
  | tail _ hm ih => exact hmove ih hm

/-! ### The laws of the calls -/

/-- The laws of R160 and R162. -/
structure Calls.BusLaw (k : Calls) : Prop where
  sent : k.sent ≤ txCapacity
  heard : k.heard ≤ rxCapacity

/-- The laws of R82 and R100. -/
structure Calls.ContestLaw (k : Calls) : Prop where
  nodup : k.refs.Nodup
  hand : k.busy = false → k.Idle

theorem Calls.BusLaw.move {k l : Calls} (h : k.BusLaw) (hm : k.Move l) : l.BusLaw := by
  cases hm with
  | sent n hn => exact { h with sent := hn.trans (max_le h.sent le_rfl) }
  | heard n hn => exact { h with heard := hn.trans h.heard }
  | _ => exact { h with }

theorem Calls.ContestLaw.move {k l : Calls} (h : k.ContestLaw) (hm : k.Move l) : l.ContestLaw := by
  cases hm with
  | contests live computing considering hrefs hidle =>
    obtain ⟨refs, hperm, hsub⟩ := hrefs
    exact ⟨hperm.nodup (hsub.nodup h.nodup), fun hb => hidle (h.hand hb)⟩
  | sent | heard => exact { h with }
  | released hidle => exact { h with hand := fun _ => hidle }

/-! ### A step on the two views -/

/-- The two views together. -/
structure Desk where
  bench : Bench
  calls : Calls

/-- The views of a state. -/
def State.desk (s : State) : Desk := { bench := s.bench, calls := s.calls }

/-- Moves of both views. -/
structure Desk.Moves (d e : Desk) : Prop where
  bench : d.bench.Moves e.bench
  calls : d.calls.Moves e.calls

/-- What a step can do: moves; a frame heard that joins the receive queue (R160); a frame taken in hand with the rounds it
opens, each of a reference that no record stands for (R100, R160); a start or a stop of the part (R177). -/
inductive Desk.Turn : Desk → Desk → Prop
  | move {d e : Desk} (h : d.Moves e) : Turn d e
  | joined {d : Desk} (n : Nat) (h : n ≤ rxCapacity) : Turn d { d with calls := { d.calls with heard := n } }
  | taken {d : Desk} (rounds : List Ref) (hfree : d.calls.busy = false) (hnodup : rounds.Nodup)
      (hnew : ∀ r ∈ rounds, r ∉ d.calls.live) :
      Turn d { d with calls := { d.calls with considering := d.calls.considering ++ rounds, busy := true } }
  | restart {d : Desk} (own : BitVec 5) : Turn d { State.reset.desk with bench := { State.reset.bench with own := own } }

/-- A sequence of turns. -/
abbrev Desk.Turns : Desk → Desk → Prop := Relation.ReflTransGen Desk.Turn

/-- The laws that hold of a bench. -/
theorem Desk.Turns.bench_law {law : Bench → Prop} (hmove : ∀ {b c : Bench}, law b → b.Move c → law c)
    (hreset : ∀ own, law { State.reset.bench with own := own }) {d e : Desk} (h : d.Turns e)
    (hd : law d.bench) : law e.bench := by
  induction h with
  | refl => exact hd
  | tail _ ht ih =>
    cases ht with
    | move hm => exact hm.bench.law hmove ih
    | joined | taken => exact ih
    | restart own => exact hreset own

theorem Desk.Turns.calls_law {law : Calls → Prop} (hmove : ∀ {k l : Calls}, law k → k.Move l → law l)
    (hjoined : ∀ {k : Calls} {n : Nat}, law k → n ≤ rxCapacity → law { k with heard := n })
    (htaken : ∀ {k : Calls} {rounds : List Ref}, law k → k.busy = false → rounds.Nodup → (∀ r ∈ rounds, r ∉ k.live) →
      law { k with considering := k.considering ++ rounds, busy := true })
    (hreset : law State.reset.calls) {d e : Desk} (h : d.Turns e) (hd : law d.calls) : law e.calls := by
  induction h with
  | refl => exact hd
  | tail _ ht ih =>
    cases ht with
    | move hm => exact hm.calls.law hmove ih
    | joined n hn => exact hjoined ih hn
    | taken rounds hfree hnodup hnew => exact htaken ih hfree hnodup hnew
    | restart => exact hreset

end Sys2Proof.Machine
end

section
/-! SUPPORT. What reports, tasks, slot records, relocations and the dwell do to the bench: moves, or nothing. The calls they
leave as they are (`State.outer`). -/

namespace Sys2Proof.Machine

/-- A conditional operation is made of moves when both its outcomes are. -/
theorem ite_benchMoves {c : Prop} [Decidable c] {b : Bench} {t u : State} (ht : b.Moves t.bench) (hu : b.Moves u.bench) :
    b.Moves (if c then t else u).bench := by
  split
  · exact ht
  · exact hu

/-- A fold of operations made of moves is made of moves. -/
theorem foldl_benchMoves {α : Type} {f : State → α → State} {b : Bench}
    (hf : ∀ s x, b.Moves s.bench → b.Moves (f s x).bench) (xs : List α) {s : State} (h : b.Moves s.bench) :
    b.Moves (xs.foldl f s).bench := by
  induction xs generalizing s with
  | nil => exact h
  | cons x rest ih => exact ih (hf s x h)

/-- A fold of operations that leave the bench alone leaves it alone. -/
theorem foldl_bench {α : Type} {f : State → α → State} (hf : ∀ s x, (f s x).bench = s.bench) (xs : List α) (s : State) :
    (xs.foldl f s).bench = s.bench := by
  induction xs generalizing s with
  | nil => rfl
  | cons x rest ih => exact (ih (f s x)).trans (hf s x)

/-! ### Reports and lines -/

theorem State.writeReport_benchMoves {b : Bench} {s : State} (h : b.Moves s.bench) (body : ReportBody) :
    b.Moves (s.writeReport body).bench := by
  unfold State.writeReport
  split
  · rename_i hroom
    refine h.tail (Bench.Move.logged (b := s.bench) _ (le_max_of_le_right ?_))
    simpa using Nat.succ_le_of_lt hroom
  · exact h

theorem State.reportShort_benchMoves {b : Bench} {s : State} (h : b.Moves s.bench) (id n : Nat) (c : ShortCause)
    (r : Option Receiving) : b.Moves (s.reportShort id n c r).bench := by
  unfold State.reportShort
  split
  · exact State.writeReport_benchMoves h _
  · exact State.writeReport_benchMoves h _

@[simp] theorem State.updateLine_bench (s : State) (l : LineRef) (f : OrderLine → OrderLine) :
    (s.updateLine l f).bench = s.bench := by
  unfold State.updateLine
  split
  · rfl
  · split <;> rfl

@[simp] theorem State.addRelinquish_bench (s : State) (line : LineRef) (q : Nat) :
    (s.addRelinquish line q).bench = s.bench := by
  have h := State.updateLine_bench s line (fun l => { l with ownClaim := l.ownClaim - q })
  unfold State.addRelinquish
  simp only
  split
  · exact h
  · split <;> exact h

/-! ### Pockets -/

/-- Some pocket holds an entry. -/
theorem State.entries_iff {s : State} : s.bench.entries = true ↔ ∃ p, (s.pocket p).hasEntry = true := by
  simp only [State.bench, List.any_eq_true]
  constructor
  · rintro ⟨p, _, hp⟩
    exact ⟨p, hp⟩
  · rintro ⟨p, hp⟩
    exact ⟨p, by fin_cases p <;> simp [bothPockets], hp⟩

theorem State.pocket_setPocket (s : State) (p q : Fin 2) (x : Pocket) :
    (s.setPocket p x).pocket q = if p = q then x else s.pocket q := by
  unfold State.setPocket State.pocket
  simp only [State.setLanes, Fin.getElem_fin, Vector.getElem_set, Fin.ext_iff]

/-- A pocket is replaced: an entry comes only where a pocket holds one already, or a task stands. -/
theorem State.setPocket_benchMoves {b : Bench} {s : State} (h : b.Moves s.bench) (p : Fin 2) {x : Pocket}
    (hx : x.hasEntry = true → s.bench.entries = true ∨ s.bench.tasks ≠ []) : b.Moves (s.setPocket p x).bench := by
  refine h.tail (Bench.Move.entries (b := s.bench) _ fun he => ?_)
  obtain ⟨q, hq⟩ := State.entries_iff.1 he
  rw [State.pocket_setPocket] at hq
  split at hq
  · exact hx hq
  · exact .inl (State.entries_iff.2 ⟨q, hq⟩)

/-- A pocket without an entry comes in the place of any other. -/
theorem State.setFree_benchMoves {b : Bench} {s : State} (h : b.Moves s.bench) (p : Fin 2) :
    b.Moves (s.setPocket p .free).bench :=
  State.setPocket_benchMoves h p fun he => by cases he

/-- An entry changes where a pocket holds one. -/
theorem State.setEntry_bench {s : State} (h : s.bench.entries = true) (p : Fin 2) (e : PocketEntry) :
    (s.setEntry p e).bench = s.bench := by
  have he : (s.setEntry p e).bench.entries = true :=
    State.entries_iff.2 ⟨p, by rw [State.setEntry, State.pocket_setPocket, if_pos rfl]; rfl⟩
  exact congrArg (fun x => { s.bench with entries := x }) (he.trans h.symm)

/-- The entry of a pocket, found through any of the model's views. -/
theorem State.entries_of_entryOf {s : State} {p : Fin 2} {e : PocketEntry} (h : (s.pocket p).entryOf = some e) :
    s.bench.entries = true := by
  refine State.entries_iff.2 ⟨p, ?_⟩
  cases hp : s.pocket p with
  | entry => rfl
  | free | foreign => rw [hp] at h; cases h

theorem State.entries_of_pocket {s : State} {p : Fin 2} {e : PocketEntry} (h : s.pocket p = .entry e) :
    s.bench.entries = true := State.entries_of_entryOf (p := p) (e := e) (by rw [h]; rfl)

theorem State.freeAssigned_benchMoves {b : Bench} {s : State} (h : b.Moves s.bench) (slot : Nat) :
    b.Moves (s.freeAssigned slot).bench := by
  unfold State.freeAssigned
  split
  · exact h
  · exact State.setFree_benchMoves h _

theorem State.becomeForeign_benchMoves {b : Bench} {s : State} (h : b.Moves s.bench) (p : Fin 2) :
    b.Moves (s.becomeForeign p).bench :=
  State.writeReport_benchMoves (State.setPocket_benchMoves h p fun he => by cases he) _

theorem State.freeRestore_benchMoves {b : Bench} {s : State} (h : b.Moves s.bench) (p : Fin 2) :
    b.Moves (s.freeRestore p).bench := by
  unfold State.freeRestore
  split
  · exact h
  · exact ite_benchMoves (State.becomeForeign_benchMoves h p) (State.setFree_benchMoves h p)

/-! ### Tasks (R42, R43, R54) -/

theorem ordinaryCount_eq (queue : List Task) :
    ordinaryCount queue = ((queue.map Task.place).filter fun t => t.1.ordinary).length := by
  rw [List.filter_map, List.length_map]
  rfl

theorem taskSlots_eq (queue : List Task) : taskSlots queue = (queue.map Task.place).map Prod.snd := by
  rw [List.map_map]
  rfl

theorem State.setQueue_bench (s : State) (queue : List Task) :
    (s.setQueue queue).bench = s.bench.withTasks (queue.map Task.place) := by
  have hheld : bidHoldAfter s.values s.planner.bidHold queue = (s.bench.withTasks (queue.map Task.place)).held := by
    unfold bidHoldAfter
    rw [ordinaryCount_eq]
    rfl
  exact congrArg (fun x => { s.bench.withTasks (queue.map Task.place) with held := x }) hheld

theorem State.taskOn_eq_none {s : State} {slot : Nat} : s.taskOn slot = none ↔ slot ∉ s.bench.tasks.map Prod.snd := by
  simp [State.taskOn, State.bench, Task.place]

theorem State.tasks_ne_nil {s : State} {slot : Nat} {t : Task} (h : s.taskOn slot = some t) : s.bench.tasks ≠ [] := by
  have hmem := List.mem_of_find?_eq_some h
  simpa [State.bench] using List.ne_nil_of_mem hmem

/-- An addition that the planner takes, with its cause in SETUP_WAIT. -/
theorem State.addTask_benchMoves {b : Bench} {s : State} (h : b.Moves s.bench) {w : TaskWork} {slot : Nat}
    (hfits : s.taskFits w slot = true) (hcause : s.bench.service ≠ .setupWait ∨ s.bench.entries = true) :
    b.Moves (s.addTask w slot).bench := by
  simp only [State.taskFits, Bool.and_eq_true, Option.isNone_iff_eq_none, State.taskOn_eq_none, decide_eq_true_eq] at hfits
  obtain ⟨⟨hnew, hfew⟩, hroom⟩ := hfits
  refine h.tail ?_
  rw [State.addTask, State.setQueue_bench, List.map_append]
  refine Bench.Move.added w slot hnew (fun hw => ?_) (by simpa [State.bench] using hroom) hcause
  rw [hw, ordinaryCount_eq] at hfew
  exact of_decide_eq_true hfew

theorem State.requestRestore_benchMoves {b : Bench} {s : State} (h : b.Moves s.bench) (p : Fin 2) :
    b.Moves (s.requestRestore p).bench := by
  unfold State.requestRestore
  split
  · exact h
  · rename_i slot hwaits
    split
    · rename_i hfits
      refine State.addTask_benchMoves h hfits (.inr ?_)
      unfold State.restoreWaiting at hwaits
      split at hwaits
      · cases hwaits
      · cases hwaits
      · rename_i hp
        exact State.entries_of_pocket hp
    · exact h

theorem removeFirst_sublist {α : Type} (test : α → Bool) (xs : List α) : (removeFirst test xs).Sublist xs := by
  induction xs with
  | nil => exact .slnil
  | cons x rest ih =>
    unfold removeFirst
    split
    · exact List.sublist_cons_self x rest
    · exact ih.cons_cons x

theorem State.dropTask_benchMoves {b : Bench} {s : State} (h : b.Moves s.bench) (slot : Nat) :
    b.Moves (s.dropTask slot).bench := by
  unfold State.dropTask
  split
  · refine foldl_benchMoves (fun t p ht => State.requestRestore_benchMoves ht p) _ (h.tail ?_)
    rw [State.setQueue_bench]
    exact .dropped ((removeFirst_sublist _ _).map _)
  · exact h

/-- A change of a task that keeps its work and its slot. -/
theorem State.updateTask_bench (s : State) (slot : Nat) {f : Task → Task} (hf : ∀ t, (f t).place = t.place) :
    (s.updateTask slot f).bench = s.bench := by
  have htasks : (s.updateTask slot f).planner.queue.map Task.place = s.planner.queue.map Task.place := by
    unfold State.updateTask
    simp only [State.setPlanner_planner, List.map_map]
    apply List.map_congr_left
    intro t _
    simp only [Function.comp]
    split
    · exact hf t
    · rfl
  exact congrArg (fun ts => { s.bench with tasks := ts }) htasks

/-- The task on a slot goes to a slot of no task, whatever becomes of its state. -/
theorem State.updateTask_benchMoves {b : Bench} {s : State} (h : b.Moves s.bench) (old : Nat) {new : Nat}
    (hnew : s.taskOn new = none) {f : Task → Task} (hf : ∀ t, (f t).place = (t.work, new)) :
    b.Moves (s.updateTask old f).bench := by
  have htasks : (s.updateTask old f).planner.queue.map Task.place = (s.bench.relocated old new).tasks := by
    unfold State.updateTask Bench.relocated State.bench
    simp only [State.setPlanner_planner, List.map_map]
    apply List.map_congr_left
    intro t _
    simp only [Function.comp]
    by_cases ht : t.slot = old
    · simpa [ht, Task.place] using hf t
    · simp [ht, Task.place]
  refine h.tail ?_
  have hmove := Bench.Move.moved (b := s.bench) old new (State.taskOn_eq_none.1 hnew)
  rwa [show s.bench.relocated old new = (s.updateTask old f).bench from
    congrArg (fun ts => { s.bench with tasks := ts }) htasks.symm] at hmove

/-! ### The dwell's due tasks -/

@[simp] theorem State.setDwell_bench (s : State) (d : Option Dwell) : (s.setDwell d).bench = s.bench := rfl

@[simp] theorem State.dropDue_bench (s : State) (slot : Nat) : (s.dropDue slot).bench = s.bench := by
  unfold State.dropDue; split <;> rfl

@[simp] theorem State.testCompletion_bench (s : State) : s.testCompletion.bench = s.bench := by
  unfold State.testCompletion
  split
  · rfl
  · split <;> rfl

@[simp] theorem State.freeReceived_bench (s : State) : s.freeReceived.bench = s.bench := rfl

@[simp] theorem State.updateReceiving_bench (s : State) (id : Nat) (f : Receiving → Receiving) :
    (s.updateReceiving id f).bench = s.bench := rfl

theorem State.removeTask_benchMoves {b : Bench} {s : State} (h : b.Moves s.bench) (slot : Nat) :
    b.Moves (s.removeTask slot).bench := by
  refine State.freeAssigned_benchMoves ?_ slot
  rw [State.dropDue_bench]
  exact State.dropTask_benchMoves h slot

theorem State.failPick_benchMoves {b : Bench} {s : State} (h : b.Moves s.bench) (slot : Nat) (line : LineRef) :
    b.Moves (s.failPick slot line).bench := by
  unfold State.failPick
  rw [State.testCompletion_bench, State.addRelinquish_bench]
  exact State.removeTask_benchMoves h slot

theorem State.handOn_benchMoves {b : Bench} {s : State} (h : b.Moves s.bench) (slot : Nat) (d : Option StockData) :
    b.Moves (s.handOn slot d).bench := by
  unfold State.handOn
  split
  · exact h
  · split
    · exact State.failPick_benchMoves h slot _
    · exact h
    · exact h

/-! ### Slot records (R5, R9 to R11) -/

@[simp] theorem State.writeRecord_bench (s : State) (slot : Nat) (r : SlotRecord) :
    (s.writeRecord slot r).bench = s.bench := by
  unfold State.writeRecord; split <;> rfl

theorem State.readSlot_benchMoves {b : Bench} {s : State} (h : b.Moves s.bench) (slot : Nat) :
    b.Moves (s.readSlot slot).state.bench := by
  have hwrite : ∀ r, b.Moves (s.writeRecord slot r).bench := fun r => by rwa [State.writeRecord_bench]
  unfold State.readSlot
  simp only
  split
  · exact h
  · split
    · exact hwrite _
    · exact State.handOn_benchMoves (State.writeReport_benchMoves (hwrite _) _) slot none

theorem State.request_benchMoves {b : Bench} {s : State} (h : b.Moves s.bench) (slot : Nat) (applies : SlotRecord → Bool)
    (new : SlotRecord → SlotRecord) : b.Moves (s.request slot applies new).state.bench := by
  have hread := State.readSlot_benchMoves h slot
  unfold State.request
  simp only
  split
  · have hwrite : b.Moves ((s.readSlot slot).state.writeRecord slot (new (s.readSlot slot).record)).bench := by
      rwa [State.writeRecord_bench]
    exact ite_benchMoves (State.handOn_benchMoves hwrite slot _) hwrite
  · exact hread

theorem State.readSlots_benchMoves {b : Bench} {s : State} (h : b.Moves s.bench) (slots : List Nat) :
    b.Moves (s.readSlots slots).bench := foldl_benchMoves (fun _ n ht => State.readSlot_benchMoves ht n) slots h

theorem State.readTable_benchMoves {b : Bench} {s : State} (h : b.Moves s.bench) : b.Moves s.readTable.bench :=
  State.readSlots_benchMoves h _

theorem State.cancelPick_benchMoves {b : Bench} {s : State} (h : b.Moves s.bench) (slot : Nat) :
    b.Moves (s.cancelPick slot).bench := by
  unfold State.cancelPick
  rw [State.testCompletion_bench]
  exact State.request_benchMoves (State.removeTask_benchMoves h slot) slot _ _

theorem State.cancelLoad_benchMoves {b : Bench} {s : State} (h : b.Moves s.bench) (slot : Nat) :
    b.Moves (s.cancelLoad slot).bench := by
  unfold State.cancelLoad
  rw [State.testCompletion_bench]
  exact State.request_benchMoves (State.removeTask_benchMoves h slot) slot _ _

theorem State.cancelPicks_benchMoves {b : Bench} {s : State} (h : b.Moves s.bench) (test : LineRef → Bool) :
    b.Moves (s.cancelPicks test).bench :=
  foldl_benchMoves (fun _ (x : Task) ht => State.cancelPick_benchMoves ht x.slot) _ h

theorem State.applyAdjust_benchMoves {b : Bench} {s : State} (h : b.Moves s.bench) (a : AdjustFields) :
    b.Moves (s.applyAdjust a).bench := by
  have hread := State.readSlot_benchMoves h a.slot
  unfold State.applyAdjust
  simp only
  split
  · exact State.writeReport_benchMoves h _
  · split
    · exact State.writeReport_benchMoves hread _
    · refine State.writeReport_benchMoves ?_ _
      rwa [State.writeRecord_bench]

/-! ### Relocation (R148, R149) -/

theorem State.moveTask_benchMoves {b : Bench} {s : State} (h : b.Moves s.bench) (old : Nat) {new : Nat}
    (hnew : s.taskOn new = none) : b.Moves (s.moveTask old new).bench := by
  have hmoved := State.updateTask_benchMoves h old hnew (f := fun t => { t with slot := new }) fun _ => rfl
  unfold State.moveTask
  split
  · exact hmoved
  · split
    · split
      · exact hmoved
      · rw [State.testCompletion_bench, State.dropDue_bench]
        exact State.updateTask_benchMoves h old hnew fun _ => rfl
    · exact hmoved

theorem State.cancelRelocated_benchMoves {b : Bench} {s : State} (h : b.Moves s.bench) (r : Relocation) :
    b.Moves (s.cancelRelocated r).bench := by
  unfold State.cancelRelocated
  rw [State.testCompletion_bench, State.freeReceived_bench]
  refine State.reportShort_benchMoves ?_ _ _ _ _
  exact State.removeTask_benchMoves h r.slot

theorem State.placeTask_benchMoves {b : Bench} {s : State} (h : b.Moves s.bench) (r : Relocation) (d : StockData) :
    b.Moves (s.placeTask r d).bench := by
  unfold State.placeTask
  split
  · exact State.cancelRelocated_benchMoves h r
  · rename_i slot _
    have hq := State.request_benchMoves h slot (inStates [.empty]) fun _ => .reserved r.inboundId d
    simp only
    split
    · rename_i hfree
      exact State.moveTask_benchMoves hq r.slot (Option.isNone_iff_eq_none.1 hfree.2)
    · exact State.cancelRelocated_benchMoves hq r

theorem State.relocateOne_benchMoves {b : Bench} {s : State} (h : b.Moves s.bench) (r : Relocation) :
    b.Moves (s.relocateOne r).bench := by
  have hread := State.readTable_benchMoves h
  unfold State.relocateOne
  split
  · exact h
  · split
    · simp only
      split
      · exact State.cancelRelocated_benchMoves hread r
      · exact State.placeTask_benchMoves hread r _
    · exact h

theorem State.relocateUpTo_benchMoves (fuel : Nat) {b : Bench} {s : State} (h : b.Moves s.bench) :
    b.Moves (s.relocateUpTo fuel).bench := by
  induction fuel generalizing s with
  | zero => exact h
  | succ fuel ih =>
    unfold State.relocateUpTo
    split
    · exact h
    · rename_i r rest _
      exact ih (State.relocateOne_benchMoves (s := s.setAudit { s.audit with relocations := rest }) h r)

theorem State.relocateAll_benchMoves {b : Bench} {s : State} (h : b.Moves s.bench) : b.Moves s.relocateAll.bench :=
  State.relocateUpTo_benchMoves _ h

/-! ### The dwell refreshed (R52, R66, R68) -/

@[simp] theorem State.joinDue_bench (s : State) : s.joinDue.bench = s.bench := by
  unfold State.joinDue
  split
  · rfl
  · exact foldl_bench (fun t (x : Task) => t.updateTask_bench x.slot (f := Task.atFace) fun _ => rfl) _ s

/-- A pocket is assigned to a task of the queue only. -/
theorem State.lightOne_benchMoves {b : Bench} {s : State} (h : b.Moves s.bench) (d : Due) :
    b.Moves (s.lightOne d).1.bench := by
  unfold State.lightOne
  split
  · exact h
  · rename_i t ht
    split
    · exact h
    · exact h
    · split
      · exact h
      · split
        · exact h
        · exact State.setPocket_benchMoves h _ fun _ => .inr (State.tasks_ne_nil ht)

theorem State.lightAll_benchMoves {b : Bench} {s : State} (h : b.Moves s.bench) (due : List Due) :
    b.Moves (s.lightAll due).1.bench :=
  List.foldlRecOn (motive := fun (acc : State × List Due) => b.Moves acc.1.bench) due _ h
    fun _ ht d _ => State.lightOne_benchMoves ht d

theorem State.refreshDwell_benchMoves {b : Bench} {s : State} (h : b.Moves s.bench) : b.Moves s.refreshDwell.bench := by
  have hjoined : b.Moves s.joinDue.bench := by rwa [State.joinDue_bench]
  unfold State.refreshDwell State.lightDue
  split
  · exact hjoined
  · exact ite_benchMoves (State.lightAll_benchMoves hjoined _) hjoined

/-! ### The dwell at work (R66 to R75) -/

theorem State.resolveWrong_benchMoves {b : Bench} {s : State} (h : b.Moves s.bench) (w : WrongEvent) :
    b.Moves (s.resolveWrong w).bench := by
  unfold State.resolveWrong
  split
  · exact State.writeReport_benchMoves (State.request_benchMoves h _ _ _) _
  · exact State.writeReport_benchMoves (State.request_benchMoves h _ _ _) _

theorem State.deferTask_benchMoves {b : Bench} {s : State} (h : b.Moves s.bench) (t : Task) :
    b.Moves (s.deferTask t).bench := by
  have hdeferred : b.Moves (s.updateTask t.slot Task.deferred).bench := by
    rwa [s.updateTask_bench t.slot (f := Task.deferred) fun _ => rfl]
  exact ite_benchMoves (State.writeReport_benchMoves hdeferred _) hdeferred

theorem State.endDwell_benchMoves {b : Bench} {s : State} (h : b.Moves s.bench) : b.Moves s.endDwell.bench := by
  unfold State.endDwell
  split
  · exact h
  · rw [State.setDwell_bench]
    exact foldl_benchMoves (fun _ t ht => State.deferTask_benchMoves ht t) _
      (foldl_benchMoves (fun _ (d : Due) ht => State.freeAssigned_benchMoves ht d.slot) _ h)

@[simp] theorem State.dropMoved_bench (s : State) (due : List Due) : (s.dropMoved due).bench = s.bench := by
  unfold State.dropMoved
  split
  · rfl
  · refine foldl_bench (fun t x => ?_) _ s
    rw [State.dropDue_bench, t.updateTask_bench x.slot (f := Task.waits) fun _ => rfl]

theorem State.closeDwell_benchMoves {b : Bench} {s : State} (h : b.Moves s.bench) : b.Moves s.closeDwell.bench := by
  unfold State.closeDwell
  split
  · exact h
  · refine State.endDwell_benchMoves ?_
    rw [State.dropMoved_bench]
    exact foldl_benchMoves (fun _ w ht => State.relocateAll_benchMoves (State.resolveWrong_benchMoves ht w)) _ h

theorem State.confirmPick_benchMoves {b : Bench} {s : State} (h : b.Moves s.bench) (slot : Nat) (line : LineRef) :
    b.Moves (s.confirmPick slot line).bench := by
  have hq := State.request_benchMoves h slot (inStates [.pickClaimed]) (SlotRecord.keeping .outbound)
  unfold State.confirmPick
  simp only
  split
  · rw [State.dropDue_bench]
    refine State.dropTask_benchMoves ?_ slot
    split
    · exact hq
    · split
      · exact hq
      · rename_i he
        rwa [State.setEntry_bench (State.entries_of_entryOf he)]
  · split
    · exact hq
    · exact ite_benchMoves (State.failPick_benchMoves hq slot line) hq

theorem State.confirmLoad_benchMoves {b : Bench} {s : State} (h : b.Moves s.bench) (slot id : Nat) :
    b.Moves (s.confirmLoad slot id).bench := by
  have hq := State.request_benchMoves h slot (inStates [.reservedIn]) (SlotRecord.keeping .occupied)
  unfold State.confirmLoad
  simp only
  split
  · refine State.writeReport_benchMoves ?_ _
    rw [State.dropDue_bench]
    refine State.dropTask_benchMoves ?_ slot
    rwa [State.updateReceiving_bench]
  · exact State.relocateAll_benchMoves hq

theorem State.confirmRestore_benchMoves {b : Bench} {s : State} (h : b.Moves s.bench) (slot : Nat) (p : Fin 2) :
    b.Moves (s.confirmRestore slot p).bench := by
  have hq := State.request_benchMoves h slot (fun r => decide (r.state ≠ .retired)) fun r =>
    if r.state = .outbound then .keeping .occupied r else .suspect .unknown
  unfold State.confirmRestore
  simp only
  rw [State.dropDue_bench]
  exact State.dropTask_benchMoves (State.freeRestore_benchMoves
    (ite_benchMoves hq (State.writeReport_benchMoves hq _)) p) slot

@[simp] theorem State.addWrong_bench (s : State) (slot : Nat) (x : Bool) : (s.addWrong slot x).bench = s.bench := by
  unfold State.addWrong; split <;> rfl

@[simp] theorem State.dropWrong_bench (s : State) (slot : Nat) : (s.dropWrong slot).bench = s.bench := by
  unfold State.dropWrong; split <;> rfl

theorem State.useChange_benchMoves {b : Bench} {s : State} (h : b.Moves s.bench) (d : Dwell) (slot : Nat) (present : Bool) :
    b.Moves (s.useChange d slot present).bench := by
  have hwrong : b.Moves (s.addWrong slot present).bench := by rwa [State.addWrong_bench]
  unfold State.useChange
  split
  · split
    · exact State.confirmPick_benchMoves h slot _
    · exact State.confirmLoad_benchMoves h slot _
    · exact State.confirmRestore_benchMoves h slot _
    all_goals exact hwrong
  · exact hwrong

theorem State.presenceChange_benchMoves {b : Bench} {s : State} (h : b.Moves s.bench) (place : Nat) (present : Bool) :
    b.Moves (s.presenceChange place present).bench := by
  unfold State.presenceChange
  split
  · exact h
  · split
    · refine State.refreshDwell_benchMoves ?_
      rw [State.testCompletion_bench]
      refine ite_benchMoves ?_ (State.useChange_benchMoves h _ _ _)
      rwa [State.dropWrong_bench]
    · exact h

end Sys2Proof.Machine
end

section
/-! SUPPORT. What frames and contest records do to the two views of a state (R96 to R107, R162, R163). -/

namespace Sys2Proof.Machine

/-! ### Both views -/

/-- The calls as part of what work on handed-over things leaves alone (`State.outer`). -/
def Outer.calls (o : Outer) : Calls :=
  { live := liveRefs o.records, computing := o.computing.map fun c => c.opening.ref,
    considering := o.considering.map RoundOpen.ref, busy := o.port.headBusy, sent := o.port.tx.length,
    heard := o.port.rx.length }

theorem State.calls_eq (s : State) : s.calls = s.outer.calls := rfl

theorem State.calls_of_outer {s t : State} (h : t.outer = s.outer) : t.calls = s.calls := by
  rw [State.calls_eq, h, State.calls_eq]

theorem State.desk_of {s t : State} (hb : t.bench = s.bench) (hc : t.calls = s.calls) : t.desk = s.desk := by
  unfold State.desk
  rw [hb, hc]

theorem Desk.Moves.refl (d : Desk) : d.Moves d := ⟨.refl, .refl⟩

/-- More moves of the calls. -/
theorem Desk.Moves.call {d : Desk} {s t : State} (h : d.Moves s.desk) (hb : t.bench = s.bench)
    (hc : s.calls.Moves t.calls) : d.Moves t.desk where
  bench := by show d.bench.Moves t.bench; rw [hb]; exact h.bench
  calls := h.calls.trans hc

/-- More moves of the bench. -/
theorem Desk.Moves.work {d : Desk} {s t : State} (h : d.Moves s.desk) (hb : s.bench.Moves t.bench)
    (ho : t.outer = s.outer) : d.Moves t.desk where
  bench := h.bench.trans hb
  calls := by show d.calls.Moves t.calls; rw [State.calls_of_outer ho]; exact h.calls

/-- A conditional operation is made of moves when both its outcomes are. -/
theorem ite_moves {c : Prop} [Decidable c] {d : Desk} {t u : State} (ht : d.Moves t.desk) (hu : d.Moves u.desk) :
    d.Moves (if c then t else u).desk := by
  split
  · exact ht
  · exact hu

/-- A fold of operations made of moves is made of moves. -/
theorem foldl_moves {α : Type} {f : State → α → State} {d : Desk} (hf : ∀ s x, d.Moves s.desk → d.Moves (f s x).desk)
    (xs : List α) {s : State} (h : d.Moves s.desk) : d.Moves (xs.foldl f s).desk := by
  induction xs generalizing s with
  | nil => exact h
  | cons x rest ih => exact ih (hf s x h)

section
variable (s : State)
@[simp] theorem State.setDrive_desk (x : Drive) : (s.setDrive x).desk = s.desk := rfl
@[simp] theorem State.setFace_desk (x : FaceUnit) : (s.setFace x).desk = s.desk := rfl
@[simp] theorem State.setLane_desk (l : Fin 8) (x : Lane) : (s.setLane l x).desk = s.desk := rfl
end

@[simp] theorem State.updateLine_desk (s : State) (l : LineRef) (f : OrderLine → OrderLine) :
    (s.updateLine l f).desk = s.desk :=
  State.desk_of (s.updateLine_bench l f) (State.calls_of_outer (s.updateLine_outer l f))

@[simp] theorem State.addRelinquish_desk (s : State) (line : LineRef) (q : Nat) : (s.addRelinquish line q).desk = s.desk :=
  State.desk_of (s.addRelinquish_bench line q) (State.calls_of_outer (s.addRelinquish_outer line q))

theorem State.writeReport_moves {d : Desk} {s : State} (h : d.Moves s.desk) (body : ReportBody) :
    d.Moves (s.writeReport body).desk := h.work (State.writeReport_benchMoves .refl body) (s.writeReport_outer body)

/-! ### Frames that come and go (R162, R163) -/

/-- Two states whose desks differ in the length of the transmit queue alone, which grows only within its capacity. -/
structure State.Sends (s t : State) : Prop where
  bench : t.bench = s.bench
  calls : t.calls = { s.calls with sent := t.calls.sent }
  sent : t.calls.sent ≤ max s.calls.sent txCapacity

theorem State.Sends.of_desk {s t : State} (h : t.desk = s.desk) : s.Sends t where
  bench := congrArg Desk.bench h
  calls := by rw [show t.calls = s.calls from congrArg Desk.calls h]
  sent := by rw [show t.calls = s.calls from congrArg Desk.calls h]; exact le_max_left _ _

theorem State.Sends.refl (s : State) : s.Sends s := .of_desk rfl

theorem State.Sends.trans {s t u : State} (h : s.Sends t) (g : t.Sends u) : s.Sends u where
  bench := g.bench.trans h.bench
  calls := g.calls.trans (by rw [h.calls])
  sent := g.sent.trans (max_le h.sent (le_max_right _ _))

theorem State.Sends.ite {c : Prop} [Decidable c] {s t u : State} (ht : s.Sends t) (hu : s.Sends u) :
    s.Sends (if c then t else u) := by
  split
  · exact ht
  · exact hu

theorem State.Sends.moves {d : Desk} {s t : State} (h : s.Sends t) (hs : d.Moves s.desk) : d.Moves t.desk :=
  hs.call h.bench (.single (h.calls ▸ .sent _ h.sent))

/-- A fold of operations that change the transmit queue alone. -/
theorem foldl_sends {α : Type} {f : State → α → State} (hf : ∀ (s : State) (x : α), s.Sends (f s x)) (xs : List α) (s : State) :
    s.Sends (xs.foldl f s) := by
  induction xs generalizing s with
  | nil => exact .refl s
  | cons x rest ih => exact (hf s x).trans (ih (f s x))

/-- The transmit queue becomes one that is no longer, or has the room. -/
theorem State.setTx_sends (s : State) {tx : List TxFrame} (h : tx.length ≤ max s.port.tx.length txCapacity) :
    s.Sends (s.setPort { s.port with tx := tx }) := ⟨rfl, rfl, h⟩

theorem State.queueFrame_sends {s : State} (h : s.txRoom = true) (f : Frame) : s.Sends (s.queueFrame f) :=
  s.setTx_sends (le_max_of_le_right (by simpa using Nat.succ_le_of_lt (of_decide_eq_true h)))

theorem removeBehind_sublist {α : Type} (test : α → Bool) (ahead : Nat) (xs : List α) :
    (removeBehind test ahead xs).Sublist xs := by
  induction xs generalizing ahead with
  | nil => cases ahead <;> exact .slnil
  | cons x rest ih =>
    cases ahead with
    | zero =>
      unfold removeBehind
      split
      · exact List.sublist_cons_self x rest
      · exact (ih 0).cons_cons x
    | succ ahead =>
      unfold removeBehind
      split
      · exact (ih ahead).cons_cons x
      · exact (ih (ahead + 1)).cons_cons x

theorem State.withdrawNth_sends (s : State) (f : Frame) (ahead : Nat) : s.Sends (s.withdrawNth f ahead) :=
  s.setTx_sends (le_max_of_le_left (removeBehind_sublist _ _ _).length_le)

theorem State.withdrawFrame_sends (s : State) (f : Frame) : s.Sends (s.withdrawFrame f) :=
  s.setTx_sends (le_max_of_le_left (removeFirst_sublist _ _).length_le)

theorem State.withdrawBid_sends (s : State) (c : Contest) : s.Sends (s.withdrawBid c) :=
  .ite (s.withdrawFrame_sends _) (.refl s)

theorem State.withdrawClaim_sends (s : State) (c : Contest) : s.Sends (s.withdrawClaim c) :=
  .ite (s.withdrawFrame_sends _) (.refl s)

theorem State.withdrawOwn_sends (s : State) (c : Contest) : s.Sends (s.withdrawOwn c) :=
  (s.withdrawBid_sends c).trans (State.withdrawClaim_sends _ c)

/-- An entry changes where a pocket holds one. -/
theorem State.setEntry_sends {s : State} (h : s.bench.entries = true) (p : Fin 2) (e : PocketEntry) :
    s.Sends (s.setEntry p e) := .of_desk (State.desk_of (State.setEntry_bench h p e) rfl)

theorem State.queueIntent_sends (s : State) (p : Fin 2) : s.Sends (s.queueIntent p) := by
  unfold State.queueIntent
  split
  · exact .refl s
  · exact .refl s
  · rename_i hp
    split
    · exact .refl s
    · split
      · rename_i hroom
        exact (State.queueFrame_sends hroom.2 _).trans ((State.setEntry_sends (s := s.queueFrame _)
          (State.entries_of_pocket hp) p _).trans (.of_desk rfl))
      · exact .refl s

theorem State.withdrawIntent_sends (s : State) (p : Fin 2) : s.Sends (s.withdrawIntent p) := by
  unfold State.withdrawIntent
  split
  · exact .refl s
  · exact .refl s
  · rename_i hp
    split
    · exact .refl s
    · exact .ite ((s.withdrawNth_sends _ _).trans (State.setEntry_sends (s := s.withdrawNth _ _)
        (State.entries_of_pocket hp) p _)) (.refl s)

theorem State.queueRelinquish_sends (s : State) : s.Sends s.queueRelinquish := by
  unfold State.queueRelinquish
  split
  · exact .refl s
  · split
    · exact .refl s
    · split
      · rename_i hroom
        exact (State.queueFrame_sends hroom _).trans (.of_desk rfl)
      · exact .refl s

theorem State.offerReport_sends (s : State) : s.Sends s.offerReport := by
  unfold State.offerReport
  split
  · rename_i hoffered
    have hroom := hoffered.2.2
    split
    · exact (State.queueFrame_sends hroom _).trans (.of_desk rfl)
    · split
      · exact .refl s
      · exact (State.queueFrame_sends hroom _).trans (.of_desk rfl)
  · exact .refl s

theorem State.claimRecord_sends (s : State) (c : Contest) : s.Sends (s.claimRecord c).1 := by
  unfold State.claimRecord
  split_ifs with hroom
  · exact State.queueFrame_sends hroom _
  · exact .refl s
  · exact .refl s

theorem State.decideRecord_sends (s : State) (c : Contest) : s.Sends (s.decideRecord c).1 := by
  unfold State.decideRecord
  split
  · exact s.claimRecord_sends c
  · split
    · exact .refl s
    · exact s.claimRecord_sends c

/-! ### Walks over the contest records (R97, R100) -/

/-- Two states whose desks differ in the transmit queue and in records that have ended. -/
structure State.Walks (s t : State) : Prop where
  bench : t.bench = s.bench
  calls : t.calls = { s.calls with live := t.calls.live, sent := t.calls.sent }
  live : t.calls.live.Subperm s.calls.live
  sent : t.calls.sent ≤ max s.calls.sent txCapacity

theorem State.Sends.walks {s t : State} (h : s.Sends t) : s.Walks t where
  bench := h.bench
  calls := h.calls.trans (by rw [h.calls])
  live := by rw [h.calls]
  sent := h.sent

theorem State.Walks.trans {s t u : State} (h : s.Walks t) (g : t.Walks u) : s.Walks u where
  bench := g.bench.trans h.bench
  calls := g.calls.trans (by rw [h.calls])
  live := g.live.trans h.live
  sent := g.sent.trans (max_le h.sent (le_max_right _ _))

/-- Records that have ended leave their references. -/
theorem Calls.Moves.ended {k : Calls} {live : List Ref} (hlive : live.Subperm k.live) {n : Nat}
    (hsent : n ≤ max k.sent txCapacity) : k.Moves { k with live := live, sent := n } := by
  have hrefs : (live ++ k.computing.toList ++ k.considering).Subperm k.refs := by
    unfold Calls.refs
    rw [List.append_assoc, List.append_assoc]
    exact hlive.append (.refl _)
  exact .tail (.single (.contests live k.computing k.considering hrefs id)) (.sent n hsent)

theorem State.Walks.moves {d : Desk} {s t : State} (h : s.Walks t) (hs : d.Moves s.desk) : d.Moves t.desk :=
  hs.call h.bench (h.calls ▸ .ended h.live h.sent)

/-- A visit of the contest table that changes the transmit queue alone, keeps the reference of a record and leaves a CLOSED
one CLOSED. -/
def KeepsRef (visit : State → Contest → State × Option Contest) : Prop :=
  ∀ t c, t.Sends (visit t c).1 ∧ ∀ e, (visit t c).2 = some e → e.ref = c.ref ∧ (c.state = .closed → e.state = .closed)

theorem liveRefs_append (xs ys : List Contest) : liveRefs (xs ++ ys) = liveRefs xs ++ liveRefs ys := by
  simp [liveRefs]

/-- A record that is visited stands for no more than it did. -/
theorem KeepsRef.live {visit : State → Contest → State × Option Contest} (hv : KeepsRef visit) (t : State) (c : Contest) :
    (liveRefs (visit t c).2.toList).Sublist (liveRefs [c]) := by
  obtain ⟨_, hkept⟩ := hv t c
  cases he : (visit t c).2 with
  | none => exact List.nil_sublist _
  | some e =>
    obtain ⟨href, hclosed⟩ := hkept e he
    by_cases hc : c.state = .closed
    · simp [liveRefs, hc, hclosed hc]
    · by_cases hce : e.state = .closed
      · simp [liveRefs, hce]
      · simp [liveRefs, hc, hce, href]

/-- The walk itself: the states pass along the records, and each record is visited in one of them. -/
theorem walkFold_spec {visit : State → Contest → State × Option Contest} (hv : KeepsRef visit) (cs : List Contest)
    (acc : State × List Contest) :
    let r := cs.foldl (fun acc c => ((visit acc.1 c).1, acc.2 ++ (visit acc.1 c).2.toList)) acc
    acc.1.Sends r.1 ∧ (liveRefs r.2).Sublist (liveRefs acc.2 ++ liveRefs cs) := by
  induction cs generalizing acc with
  | nil => exact ⟨.refl _, by simp [liveRefs]⟩
  | cons c rest ih =>
    obtain ⟨hsends, hlive⟩ := ih ((visit acc.1 c).1, acc.2 ++ (visit acc.1 c).2.toList)
    refine ⟨(hv acc.1 c).1.trans hsends, hlive.trans ?_⟩
    rw [liveRefs_append, show c :: rest = [c] ++ rest from rfl, liveRefs_append, ← List.append_assoc]
    exact ((hv.live acc.1 c).append_left _).append_right _

theorem State.walkRecords_walks (s : State) {visit : State → Contest → State × Option Contest} (hv : KeepsRef visit) :
    s.Walks (s.walkRecords visit) := by
  obtain ⟨hsends, hlive⟩ := walkFold_spec hv s.contests.records (s, [])
  refine ⟨hsends.bench, ?_, hlive.subperm, ?_⟩
  · exact congrArg (fun k : Calls => { k with live := (s.walkRecords visit).calls.live }) hsends.calls
  · exact hsends.sent

/-- A record that a walk leaves is what a visit left of a record. -/
theorem mem_walkRecords {s : State} {visit : State → Contest → State × Option Contest} {e : Contest}
    (he : e ∈ (s.walkRecords visit).contests.records) : ∃ t, ∃ c ∈ s.contests.records, (visit t c).2 = some e := by
  have hfold : ∀ (cs : List Contest) (acc : State × List Contest),
      e ∈ (cs.foldl (fun acc c => ((visit acc.1 c).1, acc.2 ++ (visit acc.1 c).2.toList)) acc).2 →
      e ∈ acc.2 ∨ ∃ t, ∃ c ∈ cs, (visit t c).2 = some e := by
    intro cs
    induction cs with
    | nil => exact fun acc h => .inl h
    | cons c rest ih =>
      intro acc h
      rcases ih _ h with hacc | ⟨t, x, hx, hvisit⟩
      · rcases List.mem_append.1 hacc with hacc | hvisit
        · exact .inl hacc
        · exact .inr ⟨acc.1, c, List.mem_cons_self .., Option.mem_toList.1 hvisit⟩
      · exact .inr ⟨t, x, List.mem_cons_of_mem _ hx, hvisit⟩
  rcases hfold s.contests.records (s, []) he with hnil | hvisited
  · cases hnil
  · exact hvisited

/-- A visit that acts on some records alone. -/
theorem KeepsRef.ite {visit : State → Contest → State × Option Contest} (hv : KeepsRef visit) (test : Contest → Bool) :
    KeepsRef fun t c => if test c then visit t c else (t, some c) := by
  intro t c
  simp only
  split
  · exact hv t c
  · exact ⟨.refl t, by simp⟩

theorem endRecord_keepsRef : KeepsRef State.endRecord := by
  intro t c
  unfold State.endRecord
  split_ifs with hclosed
  · exact ⟨.refl t, by simp⟩
  · exact ⟨.refl t, by simp⟩
  · exact ⟨t.withdrawOwn_sends c, by simp⟩

theorem State.endRecords_walks (s : State) (test : Contest → Bool) : s.Walks (s.endRecords test) :=
  s.walkRecords_walks (endRecord_keepsRef.ite test)

/-- Once the records of a reference have ended, none that is not CLOSED stands for it (R100). -/
theorem State.endRecords_removes (s : State) (ref : Ref) :
    ref ∉ (s.endRecords fun c => decide (c.ref = ref)).calls.live := by
  intro hmem
  obtain ⟨e, he, rfl⟩ := List.mem_map.1 hmem
  obtain ⟨he, hlive⟩ := List.mem_filter.1 he
  obtain ⟨t, c, _, hvisit⟩ := mem_walkRecords he
  have hopen : e.state ≠ .closed := of_decide_eq_true hlive
  by_cases hc : c.ref = e.ref
  · simp only [hc, decide_true, if_true] at hvisit
    unfold State.endRecord at hvisit
    split_ifs at hvisit with hclosed hsending
    · exact hopen (Option.some.inj hvisit ▸ hclosed)
    · exact hopen (Option.some.inj hvisit ▸ rfl)
  · simp only [hc, decide_false] at hvisit
    exact hc (congrArg Contest.ref (Option.some.inj hvisit))

theorem State.freeRecords_walks (s : State) (test : Contest → Bool) : s.Walks (s.freeRecords test) := by
  have hv : KeepsRef fun t c => (t.withdrawOwn c, none) := fun t c => ⟨t.withdrawOwn_sends c, by simp⟩
  exact s.walkRecords_walks (hv.ite test)

theorem windowEnd_keepsRef : KeepsRef State.windowEnd := by
  intro t c
  obtain ⟨_, href, _⟩ := t.decideRecord_keeps c
  unfold State.windowEnd
  split
  · rename_i hwindow
    obtain ⟨hstate, _⟩ := hwindow
    split
    · exact ⟨t.decideRecord_sends c, by simp [href, hstate]⟩
    · exact ⟨.refl t, by simp [hstate]⟩
  · exact ⟨.refl t, by simp⟩

/-- A record that takes its second chance is not CLOSED. -/
theorem Contest.takesChance_open {c : Contest} (h : c.takesChance = true) : c.state ≠ .closed := by
  intro hc
  simp [Contest.takesChance, hc] at h

theorem secondChance_keepsRef : KeepsRef State.secondChance := by
  intro t c
  obtain ⟨_, href, _⟩ := (t.withdrawBid c).claimRecord_keeps
    { c with bidFrame := standing c.bidFrame, secondChance := true, chancePassed := true }
  unfold State.secondChance
  split_ifs with hdue htakes
  · exact ⟨(t.withdrawBid_sends c).trans (State.claimRecord_sends _ _),
      by simp [href, Contest.takesChance_open htakes]⟩
  · exact ⟨.refl t, by simp⟩
  · exact ⟨.refl t, by simp⟩

theorem outbid_keepsRef : KeepsRef State.outbid := by
  intro t c
  unfold State.outbid
  split
  · rename_i hs
    exact ⟨t.withdrawBid_sends c, by simp [hs]⟩
  · rename_i hs
    exact ⟨t.withdrawBid_sends c, by simp [hs]⟩
  · rename_i hs
    split
    · exact ⟨t.withdrawClaim_sends c, by simp [hs]⟩
    · exact ⟨.refl t, by simp⟩
  · exact ⟨.refl t, by simp⟩
  · exact ⟨.refl t, by simp⟩

theorem trackBid_keepsRef (ref : Ref) (round key : Nat) : KeepsRef (State.trackBid ref round key) := by
  intro t c
  unfold State.trackBid
  split
  · simp only
    split
    · exact outbid_keepsRef t _
    · exact ⟨.refl t, by simp⟩
  · exact ⟨.refl t, by simp⟩

theorem hearOwnBid_keepsRef (ref : Ref) (round : Nat) : KeepsRef (State.hearOwnBid ref round) := by
  intro t c
  obtain ⟨_, href, _⟩ := t.decideRecord_keeps { c with bidFrame := none, ownHeard := true }
  unfold State.hearOwnBid
  split
  · simp only
    split
    case h_2 hs =>
      refine ⟨t.decideRecord_sends _, fun e he => ?_⟩
      obtain rfl := Option.some.inj he
      exact ⟨href, fun hc => by cases hs.symm.trans hc⟩
    all_goals exact ⟨.refl t, by simp⟩
  · exact ⟨.refl t, by simp⟩

theorem State.hearBid_walks (s : State) (f : Frame) : s.Walks (s.hearBid f) := by
  unfold State.hearBid
  simp only
  split
  · exact s.walkRecords_walks (hearOwnBid_keepsRef _ _)
  · exact s.walkRecords_walks (trackBid_keepsRef _ _ _)

theorem State.dropBid_walks (s : State) (f : Frame) : s.Walks (s.dropBid f) := by
  refine s.walkRecords_walks fun t c => ?_
  split_ifs
  · exact ⟨.refl t, by simp⟩
  · exact ⟨t.withdrawClaim_sends c, by simp⟩
  · exact ⟨.refl t, by simp⟩

/-- Records put in another order, or left out. -/
theorem State.setRecords_walks (s : State) {records : List Contest}
    (h : (liveRefs records).Subperm (liveRefs s.contests.records)) :
    s.Walks (s.setContests { s.contests with records := records }) := ⟨rfl, rfl, h, le_max_left _ _⟩

theorem State.secondChances_walks (s : State) : s.Walks s.secondChances := by
  refine (s.walkRecords_walks secondChance_keepsRef).trans (State.setRecords_walks _ ?_)
  have hperm : ∀ (late : Contest → Bool) (cs : List Contest), (cs.filter (fun c => !late c) ++ cs.filter late).Perm cs :=
    fun late cs => List.perm_append_comm.trans (List.filter_append_perm late cs)
  exact (((hperm _ _).filter _).map _).subperm

/-! ### The computation and the rounds to consider (R82, R102, R115) -/

/-- The contests become others that stand for no more, with nothing begun where nothing was. -/
theorem State.setContests_moves {d : Desk} {s : State} (h : d.Moves s.desk) {x : ContestEngine}
    (hrefs : (s.setContests x).calls.refs.Subperm s.calls.refs)
    (hidle : s.calls.Idle → (s.setContests x).calls.Idle) : d.Moves (s.setContests x).desk :=
  h.call rfl (.single (.contests _ _ _ hrefs hidle))

/-- The computation ends without a bid. -/
theorem State.endComputation_moves {d : Desk} {s : State} (h : d.Moves s.desk) :
    d.Moves (s.setContests { s.contests with computing := none }).desk :=
  State.setContests_moves h (((List.nil_sublist _).append_left _).append_right _).subperm fun hidle => ⟨rfl, hidle.2⟩

theorem State.discardComputation_moves {d : Desk} {s : State} (h : d.Moves s.desk) (test : Ref → Bool) :
    d.Moves (s.discardComputation test).desk := by
  unfold State.discardComputation
  split
  · exact h
  · exact ite_moves (State.endComputation_moves h) h

theorem State.contestExit_moves {d : Desk} {s : State} (h : d.Moves s.desk) : d.Moves s.contestExit.desk :=
  State.discardComputation_moves ((s.freeRecords_walks _).moves h) _

/-- The record of a result is not CLOSED (R102). -/
theorem State.recordOf_open (s : State) (o : RoundOpen) (b : BidResult) : (s.recordOf o b).state ≠ .closed := by
  unfold State.recordOf
  simp only
  split_ifs <;> simp

/-- The record that a result makes stands for the round of its computation (R102). -/
theorem State.takeResult_moves {d : Desk} {s : State} (h : d.Moves s.desk) : d.Moves s.takeResult.desk := by
  unfold State.takeResult
  split
  · exact h
  · rename_i c hc
    simp only
    split
    · exact State.endComputation_moves h
    · split
      · rename_i b _ hroom
        refine State.Sends.moves (State.queueFrame_sends ?_ _) ?_
        · exact hroom
        · refine State.setContests_moves (s := s) h ?_ fun hidle => ⟨rfl, hidle.2⟩
          have hopen := State.recordOf_open (s.setContests { s.contests with computing := none }) c.opening b
          have href : ((s.setContests { s.contests with computing := none }).recordOf c.opening b).ref = c.opening.ref := rfl
          generalize State.recordOf _ c.opening b = r at hopen href
          refine (List.Perm.of_eq ?_).subperm
          simp [Calls.refs, State.calls, liveRefs, hc, hopen, href]
      · exact State.endComputation_moves h

/-- What a hand-over that opens rounds leaves: moves, and then the rounds behind those to consider, each of a reference that
no record stands for (R100). -/
def Desk.Opens (d : Desk) (t : State) (rounds : List Ref) : Prop :=
  ∃ e : Desk, d.Moves e ∧ (∀ r ∈ rounds, r ∉ e.calls.live) ∧
    t.desk = { e with calls := { e.calls with considering := e.calls.considering ++ rounds } }

theorem Desk.Moves.opens {d : Desk} {s : State} (h : d.Moves s.desk) : d.Opens s [] := ⟨s.desk, h, by simp, by simp⟩

theorem State.openRound_opens {d : Desk} {s : State} {rounds : List Ref} (h : d.Opens s rounds) (o : RoundOpen) :
    d.Opens (s.openRound o) (rounds ++ [o.ref]) := by
  obtain ⟨e, hmoves, hnew, hdesk⟩ := h
  have hwalks := s.endRecords_walks fun c => decide (c.ref = o.ref)
  have hgone := s.endRecords_removes o.ref
  unfold State.openRound
  generalize s.endRecords (fun c => decide (c.ref = o.ref)) = t at hwalks hgone
  have hbench : e.bench = s.bench := (congrArg Desk.bench hdesk).symm
  have hcalls : s.calls = { e.calls with considering := e.calls.considering ++ rounds } := congrArg Desk.calls hdesk
  have hlive : t.calls.live.Subperm e.calls.live := by have := hwalks.live; rwa [hcalls] at this
  have hsent : t.calls.sent ≤ max e.calls.sent txCapacity := by have := hwalks.sent; rwa [hcalls] at this
  refine ⟨{ e with calls := { e.calls with live := t.calls.live, sent := t.calls.sent } },
    ⟨hmoves.bench, hmoves.calls.trans (Calls.Moves.ended hlive hsent)⟩, ?_, ?_⟩
  · intro r hr
    rcases List.mem_append.1 hr with hr | hr
    · exact fun hmem => hnew r hr (hlive.subset hmem)
    · exact List.mem_singleton.1 hr ▸ hgone
  · have ht := hwalks.calls
    rw [hcalls] at ht
    have hbench' : t.bench = e.bench := hwalks.bench.trans hbench.symm
    have hopened : (t.setContests { t.contests with considering := t.contests.considering ++ [o] }).calls =
        { t.calls with considering := t.calls.considering ++ [o.ref] } := by simp [State.calls, State.setContests]
    unfold State.desk
    rw [hopened, ht]
    simp only [List.append_assoc]
    exact congrArg (fun x => Desk.mk x _) hbench'

theorem State.openNext_opens {d : Desk} {s : State} (h : d.Moves s.desk) (ref : Ref) (round : Option Nat) (stamp : Timer) :
    ∃ rounds : List Ref, rounds.Nodup ∧ d.Opens (s.openNext ref round stamp) rounds := by
  unfold State.openNext
  split
  · exact ⟨[], List.nodup_nil, h.opens⟩
  · exact ⟨[ref], List.nodup_singleton ref, State.openRound_opens h.opens _⟩

/-- Rounds considered: some are dropped, and at most one is computed (R82, R101). -/
theorem State.considerList_calls (s : State) (hc : s.contests.computing = none) (rounds : List RoundOpen) :
    ∃ (computing : Option Ref) (considering : List Ref),
      (s.considerList rounds).calls = { s.calls with computing := computing, considering := considering } ∧
        (computing.toList ++ considering).Sublist (rounds.map RoundOpen.ref) := by
  induction rounds with
  | nil => exact ⟨none, [], by simp [State.considerList, State.calls, State.setContests, hc], List.nil_sublist _⟩
  | cons o rest ih =>
    unfold State.considerList
    split
    · refine ⟨some o.ref, rest.map RoundOpen.ref, ?_, List.Sublist.refl _⟩
      exact congrArg Outer.calls (State.beginComputation_outer (s.setContests { s.contests with considering := rest }) o)
    · obtain ⟨computing, considering, hcalls, hsub⟩ := ih
      exact ⟨computing, considering, hcalls, hsub.cons _⟩

end Sys2Proof.Machine
end

section
/-! SUPPORT. The end of a step, claims, pockets, lanes and the bus port on the two views of a state. -/

namespace Sys2Proof.Machine

/-! ### The end of a step (log 8) -/

theorem State.considerList_benchMoves {b : Bench} {s : State} (h : b.Moves s.bench) (rounds : List RoundOpen) :
    b.Moves (s.considerList rounds).bench := by
  induction rounds with
  | nil => exact h
  | cons o rest ih =>
    refine ite_benchMoves (State.relocateAll_benchMoves ?_) ih
    exact State.readTable_benchMoves (s := s.setContests { s.contests with considering := rest }) h

theorem State.considerRounds_moves {d : Desk} {s : State} (h : d.Moves s.desk) : d.Moves s.considerRounds.desk := by
  unfold State.considerRounds
  split
  · rename_i hnone
    have hc : s.contests.computing = none := Option.isNone_iff_eq_none.1 hnone
    obtain ⟨computing, considering, hcalls, hsub⟩ := s.considerList_calls hc s.contests.considering
    have hidle : s.calls.computing = none := congrArg (Option.map fun x : Computation => x.opening.ref) hc
    refine ⟨h.bench.trans (State.considerList_benchMoves .refl _), h.calls.tail ?_⟩
    show s.calls.Move (s.considerList s.contests.considering).calls
    rw [hcalls]
    refine .contests s.calls.live computing considering ?_ fun hi => ?_
    · rw [Calls.refs, hidle, List.append_assoc, List.append_assoc]
      exact (hsub.append_left _).subperm
    · have hnone : s.contests.considering.map RoundOpen.ref = [] := hi.2
      rw [hnone] at hsub
      have hnil := List.sublist_nil.1 hsub
      obtain ⟨hcomputing, hconsidering⟩ := List.append_eq_nil_iff.1 hnil
      exact ⟨Option.toList_eq_nil_iff.1 hcomputing, hconsidering⟩
  · exact h

theorem State.faced_moves {d : Desk} {s : State} (h : d.Moves s.desk) : d.Moves s.faced.desk := by
  have hrounds := State.considerRounds_moves (h.work (State.relocateAll_benchMoves .refl) s.relocateAll_outer)
  unfold State.faced
  exact (hrounds.work (State.refreshDwell_benchMoves .refl) (State.refreshDwell_outer _)).work
    (by rw [State.testCompletion_bench]) (State.testCompletion_outer _)

/-- The kept part, the work and the lanes of a state give its bench. -/
theorem State.bench_of {s t : State} (hk : t.kept = s.kept) (hw : t.work = s.work) (hl : t.lanes = s.lanes) :
    t.bench = s.bench := by
  have hqueue : t.planner.queue.map Task.place = s.planner.queue.map Task.place := by
    have h := congrArg (fun w : Work => w.tasks.map fun x => (x.1, x.2.1)) hw
    simp only [State.work, List.map_map] at h
    exact h
  have hheld : t.planner.bidHold = s.planner.bidHold := congrArg Work.bidHold hw
  have hlog : t.control.log = s.control.log := congrArg Work.log hw
  have hvalues : t.values = s.values := congrArg Kept.settled hk
  have hreceived : t.control.received = s.control.received := congrArg Kept.received hk
  have hown : t.own = s.own := congrArg Kept.stationNumber hk
  have hservice : t.control.service = s.control.service := congrArg Kept.service hk
  unfold State.bench State.pocket
  rw [hqueue, hheld, hlog, hvalues, hreceived, hservice, hown, hl]

@[simp] theorem State.plan_desk (before s : State) : (State.plan before s).desk = s.desk := by
  obtain ⟨hport, hcontests, hlanes⟩ := State.plan_parts before s
  refine State.desk_of (State.bench_of (State.plan_kept before s) (State.plan_work before s) hlanes) ?_
  unfold State.calls
  rw [hport, hcontests]

@[simp] theorem State.settledAt_desk (s : State) (c : Nat) : (s.settledAt c).desk = s.desk := by
  obtain ⟨hport, _, hcontests, _⟩ := s.settledAt_parts c
  refine State.desk_of ?_ ?_
  · exact State.joinDue_bench _
  · unfold State.calls
    rw [hport, hcontests]

@[simp] theorem State.suspendScan_desk (s : State) : s.suspendScan.desk = s.desk := by
  unfold State.suspendScan; split <;> rfl

@[simp] theorem State.takeLamps_desk (before s : State) : (State.takeLamps before s).desk = s.desk := rfl

@[simp] theorem State.setPendingFlag_desk (s : State) : s.setPendingFlag.desk = s.desk := rfl

@[simp] theorem State.noteNews_desk (before s : State) : (State.noteNews before s).desk = s.desk := by
  unfold State.noteNews; split <;> rfl

theorem State.releaseHead_moves {d : Desk} {s : State} (h : d.Moves s.desk) : d.Moves s.releaseHead.desk := by
  unfold State.releaseHead
  split
  · rename_i hdone
    obtain ⟨_, hcomputing, hconsidering⟩ := hdone
    have hidle : s.calls.Idle := by simp [Calls.Idle, State.calls, hcomputing, hconsidering]
    have hshorter : s.port.rx.tail.length ≤ s.calls.heard := by simp [State.calls]
    exact h.call rfl (.tail (.single (.heard _ hshorter)) (.released (k := { s.calls with heard := _ }) hidle))
  · exact h

theorem State.offerRest_sends (s : State) : s.Sends s.offerRest :=
  .ite (.refl s) (s.queueRelinquish_sends.trans (State.offerReport_sends _))

/-- The end of a step is made of moves. -/
theorem State.settle_moves {d : Desk} {s : State} (h : d.Moves s.desk) (before : State) :
    d.Moves (State.settle before s).desk := by
  refine (State.offerRest_sends _).moves (State.releaseHead_moves ?_)
  rw [State.noteNews_desk, State.takeLamps_desk, State.suspendScan_desk, State.plan_desk]
  exact State.faced_moves h

/-! ### Claims (R108 to R112, R122, R123) -/

@[simp] theorem State.relinquishSome_desk (s : State) (line : LineRef) (q : Nat) :
    (s.relinquishSome line q).desk = s.desk := by
  unfold State.relinquishSome; split <;> simp

@[simp] theorem State.applyClaim_desk (s : State) (line : LineRef) (k : Nat) (own : Bool) :
    (s.applyClaim line k own).state.desk = s.desk := by
  unfold State.applyClaim; split <;> simp

@[simp] theorem State.applyRelinquish_desk (s : State) (line : LineRef) (q : Nat) :
    (s.applyRelinquish line q).state.desk = s.desk := by
  unfold State.applyRelinquish; split <;> simp

@[simp] theorem State.applyAnyClaim_desk (s : State) (c : ClaimFields) (own : Bool) :
    (s.applyAnyClaim c own).state.desk = s.desk := by
  unfold State.applyAnyClaim State.applyOfferClaim
  split
  · simp
  · split <;> rfl

@[simp] theorem State.relinquishGone_desk (s : State) : s.relinquishGone.desk = s.desk := by
  unfold State.relinquishGone
  split
  · rfl
  · split <;> rfl

theorem State.reportFailed_moves {d : Desk} {s : State} (h : d.Moves s.desk) (id n : Nat) :
    d.Moves (s.reportFailed id n).desk :=
  ite_moves h (h.work (State.reportShort_benchMoves .refl _ _ _ _) (s.reportShort_outer _ _ _ _))

@[simp] theorem State.askReceiving_desk (s : State) (id n : Nat) (stamp : Timer) :
    (s.askReceiving id n stamp).desk = s.desk := by
  unfold State.askReceiving
  simp only
  split
  · rfl
  · split <;> rfl

section
variable {d : Desk} (hawake : d.bench.service ≠ .setupWait)
include hawake

/-- Outside SETUP_WAIT every addition that the planner takes is a move. -/
theorem State.addTask_moves {s : State} (h : d.Moves s.desk) {w : TaskWork} {slot : Nat} (hfits : s.taskFits w slot = true) :
    d.Moves (s.addTask w slot).desk :=
  h.work (State.addTask_benchMoves .refl hfits (.inl (Bench.Moves.awake h.bench hawake))) (s.addTask_outer w slot)

theorem State.takePickSlot_moves {s : State} (h : d.Moves s.desk) (line : LineRef) (slot : Nat) :
    d.Moves (s.takePickSlot line slot).1.desk := by
  have hread := h.work (State.readSlot_benchMoves .refl slot) (s.readSlot_outer slot)
  have hrequest : ∀ {t : State}, d.Moves t.desk → ∀ applies new, d.Moves (t.request slot applies new).state.desk :=
    fun ht _ _ => ht.work (State.request_benchMoves .refl _ _ _) (State.request_outer _ _ _ _)
  unfold State.takePickSlot
  simp only
  split
  · exact hread
  · split_ifs with hfit happlied hfits
    · exact State.addTask_moves hawake (hrequest hread _ _) hfits
    · exact hrequest (hrequest hread _ _) _ _
    · exact hrequest hread _ _
    · exact hread

theorem State.takeStoreSlot_moves {s : State} (h : d.Moves s.desk) (id : Nat) (tyre : StockData) (slot : Nat) :
    d.Moves (s.takeStoreSlot id tyre slot).1.desk := by
  have hread := h.work (State.readSlot_benchMoves .refl slot) (s.readSlot_outer slot)
  have hrequest : ∀ {t : State}, d.Moves t.desk → ∀ applies new, d.Moves (t.request slot applies new).state.desk :=
    fun ht _ _ => ht.work (State.request_benchMoves .refl _ _ _) (State.request_outer _ _ _ _)
  unfold State.takeStoreSlot
  simp only
  split_ifs with hfit happlied hfits
  · exact State.addTask_moves hawake (hrequest hread _ _) hfits
  · exact hrequest (hrequest hread _ _) _ _
  · exact hrequest hread _ _
  · exact hread

omit hawake in
theorem State.takeSlots_moves {take : State → Nat → State × Bool}
    (htake : ∀ t n, d.Moves t.desk → d.Moves (take t n).1.desk) {s : State} (h : d.Moves s.desk) (slots : List Nat) :
    d.Moves (State.takeSlots take s slots).1.desk := by
  induction slots generalizing s with
  | nil => exact h
  | cons n rest ih => exact ih (htake s n h)

theorem State.takePick_moves {s : State} (h : d.Moves s.desk) (line : LineRef) (slots : List Nat) :
    d.Moves (s.takePick line slots).desk := by
  unfold State.takePick
  rw [State.relinquishSome_desk]
  exact State.takeSlots_moves (fun _ n ht => State.takePickSlot_moves hawake ht line n) h slots

theorem State.takeStore_moves {s : State} (h : d.Moves s.desk) (id : Nat) (tyre : StockData) (slots : List Nat)
    (stamp : Timer) : d.Moves (s.takeStore id tyre slots stamp).desk := by
  have htaken := State.takeSlots_moves (fun _ n ht => State.takeStoreSlot_moves hawake ht id tyre n) h slots
  refine ite_moves (State.reportFailed_moves (ite_moves htaken ?_) id _) (State.reportFailed_moves h id _)
  rwa [State.askReceiving_desk]

omit hawake in
theorem State.freeClaimed_moves {s : State} (h : d.Moves s.desk) (c : Contest) : d.Moves (s.freeClaimed c).desk :=
  ((s.withdrawBid_sends c).walks.trans (State.setRecords_walks _
    (((removeFirst_sublist _ _).filter _).map _).subperm)).moves h

/-- The own CLAIM adds tasks outside SETUP_WAIT only (R110, R111, R170). -/
theorem State.takeOwnClaim_moves {s : State} (h : d.Moves s.desk) (c : ClaimFields) (applied : Nat) (stamp : Timer) :
    d.Moves (s.takeOwnClaim c applied stamp).desk := by
  unfold State.takeOwnClaim
  split
  · rename_i r _
    have hfreed := State.freeClaimed_moves h r
    refine ite_moves hfreed ?_
    split
    · exact State.takePick_moves hawake hfreed _ _
    · split
      · exact State.reportFailed_moves hfreed _ _
      · exact State.takeStore_moves hawake hfreed _ _ _ stamp
  · split
    · rwa [State.relinquishSome_desk]
    · exact State.reportFailed_moves h _ _

theorem State.hearClaim_opens {s : State} (h : d.Moves s.desk) (f : Frame) (stamp : Timer) :
    ∃ rounds : List Ref, rounds.Nodup ∧ d.Opens (s.hearClaim f stamp) rounds := by
  have happlied : d.Moves (s.applyAnyClaim (claimOf f.payload) (decide (f.key.station = s.own))).state.desk := by
    rwa [State.applyAnyClaim_desk]
  exact State.openNext_opens ((State.endRecords_walks _ _).moves
    (ite_moves (State.takeOwnClaim_moves hawake happlied _ _ stamp) happlied)) _ _ stamp

end

theorem State.hearRelinquish_opens {d : Desk} {s : State} (h : d.Moves s.desk) (f : Frame) (stamp : Timer) :
    ∃ rounds : List Ref, rounds.Nodup ∧ d.Opens (s.hearRelinquish f stamp) rounds := by
  have hgone : d.Moves (if f.key.station = s.own then s.relinquishGone else s).desk :=
    ite_moves (by rwa [State.relinquishGone_desk]) h
  unfold State.hearRelinquish
  simp only
  split
  · exact ⟨[], List.nodup_nil, hgone.opens⟩
  · exact State.openNext_opens (by rwa [State.applyRelinquish_desk]) _ _ stamp

/-! ### Offers and orders (R98, R121) -/

theorem State.freeOffer_moves {d : Desk} {s : State} (h : d.Moves s.desk) (id : Nat) : d.Moves (s.freeOffer id).desk :=
  (s.endRecords_walks _).moves h

theorem State.takeInbound_opens {d : Desk} {s : State} (h : d.Moves s.desk) (f : InboundFields) (stamp : Timer) :
    ∃ rounds : List Ref, rounds.Nodup ∧ d.Opens (s.takeInbound f stamp) rounds := by
  unfold State.takeInbound
  split
  · have hfreed : d.Moves (if (s.contests.offers.any fun o => decide (o.inboundId = f.inboundId)) = true
        then s.freeOffer f.inboundId else s).desk := ite_moves (State.freeOffer_moves h _) h
    simp only
    generalize (if (s.contests.offers.any fun o => decide (o.inboundId = f.inboundId)) = true
        then s.freeOffer f.inboundId else s) = t at hfreed
    split
    · refine ⟨[.store f.inboundId], List.nodup_singleton _, State.openRound_opens (rounds := []) ?_ _⟩
      exact Desk.Moves.opens (s := t.setContests _) hfreed
    · exact ⟨[], List.nodup_nil, hfreed.opens⟩
  · exact ⟨[], List.nodup_nil, h.opens⟩

/-- An order names each of its lines once. -/
theorem OrderFields.refs_nodup (o : OrderFields) : o.refs.Nodup := by
  refine List.nodup_range.map fun m n h => ?_
  simpa using h

theorem State.takeOrder_opens {d : Desk} {s : State} (h : d.Moves s.desk) (o : OrderFields) (stamp : Timer) :
    ∃ rounds : List Ref, rounds.Nodup ∧ d.Opens (s.takeOrder o stamp) rounds := by
  have hopen : ∀ (refs opened : List Ref) {t : State}, d.Opens t opened →
      d.Opens (refs.foldl (fun t r => t.openRound { ref := r, round := 1, openedAt := stamp }) t) (opened ++ refs) := by
    intro refs
    induction refs with
    | nil => exact fun opened t ht => (List.append_nil opened).symm ▸ ht
    | cons r rest ih =>
      intro opened t ht
      have hrest := ih _ (State.openRound_opens ht { ref := r, round := 1, openedAt := stamp })
      rwa [List.append_assoc] at hrest
  unfold State.takeOrder
  split
  · exact ⟨o.refs, o.refs_nodup, hopen o.refs [] (t := s.openOrder o) (Desk.Moves.opens (s := s.openOrder o) h)⟩
  · exact ⟨[], List.nodup_nil, h.opens⟩

/-! ### Pockets (R126 to R141) -/

theorem State.turnRestore_moves {d : Desk} {s : State} (h : d.Moves s.desk) (p : Fin 2) : d.Moves (s.turnRestore p).desk := by
  have hw := (s.withdrawIntent_sends p).moves h
  unfold State.turnRestore
  simp only
  split
  · exact hw
  · exact hw
  · rename_i hp
    exact ((State.setEntry_sends (State.entries_of_pocket hp) p _).moves hw).work (State.requestRestore_benchMoves .refl p)
      (State.requestRestore_outer _ p)

theorem State.restoreEntries_moves {d : Desk} {s : State} (h : d.Moves s.desk) (test : LineRef → Bool) :
    d.Moves (s.restoreEntries test).desk := by
  refine foldl_moves (fun t p ht => ?_) _ h
  split
  · exact ht
  · split
    · exact ht
    · exact ite_moves (State.turnRestore_moves ht p) ht

theorem State.resendRefused_sends (s : State) (lane : Fin 8) : s.Sends (s.resendRefused lane) := by
  refine foldl_sends (fun t p => ?_) _ s
  split
  · exact .refl t
  · rename_i he
    split
    · exact .refl t
    · exact .ite ((State.setEntry_sends (State.entries_of_entryOf he) p _).trans (State.queueIntent_sends _ p)) (.refl t)

theorem State.dropIntents_sends (s : State) : s.Sends s.dropIntents := by
  refine foldl_sends (fun t p => ?_) _ s
  split
  · exact .refl t
  · rename_i he
    exact .ite (State.setEntry_sends (State.entries_of_entryOf he) p _) (.refl t)

theorem mem_insertSorted {α : Type} {before : α → α → Bool} {x y : α} {xs : List α} (h : y ∈ insertSorted before x xs) :
    y = x ∨ y ∈ xs := by
  induction xs with
  | nil => exact .inl (List.mem_singleton.1 h)
  | cons z rest ih =>
    unfold insertSorted at h
    split at h
    · rcases List.mem_cons.1 h with rfl | hr
      · exact .inr (List.mem_cons_self ..)
      · exact (ih hr).imp_right (List.mem_cons_of_mem z)
    · exact List.mem_cons.1 h

theorem mem_sortBy {α : Type} {before : α → α → Bool} {y : α} {xs : List α} (h : y ∈ sortBy before xs) : y ∈ xs := by
  have hfold : ∀ (zs acc : List α), y ∈ zs.foldl (fun acc x => insertSorted (fun a b => !before b a) x acc) acc →
      y ∈ acc ∨ y ∈ zs := by
    intro zs
    induction zs with
    | nil => exact fun acc h => .inl h
    | cons z rest ih =>
      intro acc h
      rcases ih _ h with hacc | hrest
      · exact (mem_insertSorted hacc).elim (fun he => .inr (he ▸ List.mem_cons_self ..)) .inl
      · exact .inr (List.mem_cons_of_mem z hrest)
  exact (hfold xs [] h).resolve_left (List.not_mem_nil)

/-- What is found by line and INTENT status is an entry of its pocket. -/
theorem State.entries_of_entriesWith {s : State} {line : LineRef} {status : IntentStatus} {p : Fin 2} {e : PocketEntry}
    {rest : List (Fin 2 × PocketEntry)} (h : s.entriesWith line status = (p, e) :: rest) : s.bench.entries = true := by
  have hmem : (p, e) ∈ s.entriesWith line status := h ▸ List.mem_cons_self ..
  obtain ⟨q, _, hq⟩ := List.mem_filterMap.1 (mem_sortBy hmem)
  split at hq
  · cases hq
  · rename_i he
    exact State.entries_of_entryOf he

theorem State.intentStarted_sends (s : State) (line : LineRef) : s.Sends (s.intentStarted line) := by
  unfold State.intentStarted
  split
  · exact .refl s
  · rename_i he
    exact State.setEntry_sends (State.entries_of_entriesWith he) _ _

theorem State.setFree_moves {d : Desk} {s : State} (h : d.Moves s.desk) (p : Fin 2) : d.Moves (s.setPocket p .free).desk :=
  h.work (State.setFree_benchMoves .refl p) (s.setPocket_outer p .free)

theorem State.becomeForeign_moves {d : Desk} {s : State} (h : d.Moves s.desk) (p : Fin 2) :
    d.Moves (s.becomeForeign p).desk := h.work (State.becomeForeign_benchMoves .refl p) (s.becomeForeign_outer p)

theorem State.completeGrant_moves {d : Desk} {s : State} (h : d.Moves s.desk) (p : Fin 2) (e : PocketEntry) :
    d.Moves (s.completeGrant p e).desk := by
  refine State.setFree_moves (Desk.Moves.work ?_ (State.request_benchMoves .refl _ _ _) (State.request_outer _ _ _ _)) p
  split
  · exact h
  · rwa [State.updateLine_desk]

@[simp] theorem State.countGrant_desk (s : State) (line : LineRef) : (s.countGrant line).desk = s.desk := by
  unfold State.countGrant
  rw [State.setLane_desk, State.updateLine_desk]

theorem State.hearIntent_moves {d : Desk} {s : State} (h : d.Moves s.desk) (lane : Fin 8) (f : Frame) :
    d.Moves (s.hearIntent lane f).desk := by
  have hown : ∀ (line : LineRef) (granted : Bool) {t : State}, d.Moves t.desk → d.Moves (t.ownIntent line granted).desk := by
    intro line granted t ht
    unfold State.ownIntent
    split
    · exact ht
    · rename_i p _ _ he
      have hset := fun e => (State.setEntry_sends (State.entries_of_entriesWith he) p e).moves ht
      exact ite_moves (ite_moves (hset _) (State.completeGrant_moves ht _ _)) (hset _)
  have hcount : d.Moves (if s.intentGranted (intentLineOf lane f.payload) then s.countGrant (intentLineOf lane f.payload)
      else s).desk := ite_moves (by rwa [State.countGrant_desk]) h
  exact ite_moves (hown _ _ hcount) hcount

theorem State.loadEntry_sends {s : State} (h : s.bench.entries = true) (p : Fin 2) (e : PocketEntry) :
    s.Sends (s.loadEntry p e) := (State.setEntry_sends h p _).trans (State.queueIntent_sends _ p)

/-- An entry goes from one pocket to another. -/
theorem State.exchangeEntry_sends {s : State} (h : s.bench.entries = true) (q p : Fin 2) (e : PocketEntry) :
    s.Sends ((s.setPocket q .free).setEntry p e) := by
  have he : ((s.setPocket q .free).setEntry p e).bench.entries = true :=
    State.entries_iff.2 ⟨p, by rw [State.setEntry, State.pocket_setPocket, if_pos rfl]; rfl⟩
  have hbench : ((s.setPocket q .free).setEntry p e).bench = s.bench :=
    congrArg (fun x => { s.bench with entries := x }) (he.trans h.symm)
  exact .of_desk (State.desk_of hbench rfl)

/-- An entry of a pocket in a given state. -/
theorem State.entryOf_of_entryIn {s : State} {p : Fin 2} {state : EntryState} {e : PocketEntry}
    (h : s.entryIn p state = some e) : (s.pocket p).entryOf = some e := by
  unfold State.entryIn at h
  split at h
  · cases h
  · rename_i he
    split at h
    · exact he.trans h
    · cases h

theorem State.pocketFilled_moves {d : Desk} {s : State} (h : d.Moves s.desk) (p : Fin 2) :
    d.Moves (s.pocketFilled p).desk := by
  unfold State.pocketFilled
  simp only
  split
  · rename_i hp _
    have hentry := State.entries_of_pocket hp
    exact ite_moves ((State.loadEntry_sends hentry p _).moves h) (ite_moves (State.becomeForeign_moves h p) h)
  · rename_i hp _
    have hentry := State.entries_of_pocket hp
    have hset := State.setEntry_sends hentry (otherPocket p)
    refine ite_moves ((State.loadEntry_sends hentry p _).moves h) (ite_moves ?_ h)
    exact ((hset _).trans (State.loadEntry_sends ((congrArg Bench.entries (hset _).bench).trans hentry) p _)).moves h
  · rename_i c hp hc
    have hentry := State.entries_of_entryOf (State.entryOf_of_entryIn hc)
    have hset := State.exchangeEntry_sends hentry (otherPocket p) p { c with state := .loaded }
    exact (hset.trans (State.queueIntent_sends _ p)).moves h
  · exact State.becomeForeign_moves h p
  · exact h

theorem State.pocketEmptied_moves {d : Desk} {s : State} (h : d.Moves s.desk) (p : Fin 2) :
    d.Moves (s.pocketEmptied p).desk := by
  unfold State.pocketEmptied
  split
  · exact h
  · exact State.setFree_moves h p
  · rename_i hp
    split
    · exact State.completeGrant_moves h p _
    · exact State.completeGrant_moves h p _
    · have hw := s.withdrawIntent_sends p
      exact (hw.trans (State.setEntry_sends
        ((congrArg Bench.entries hw.bench).trans (State.entries_of_pocket hp)) p _)).moves h
    all_goals exact h

theorem State.pocketLevel_moves {d : Desk} {s : State} (h : d.Moves s.desk) (p : Fin 2) (present : Bool) :
    d.Moves (s.pocketLevel p present).desk := by
  have hsense : d.Moves (s.setSense p present).desk := h
  unfold State.pocketLevel State.pocketAdopted
  split
  · split
    · exact State.setFree_moves hsense p
    · exact hsense
    · exact State.becomeForeign_moves hsense p
    · exact hsense
    · exact hsense
  · exact ite_moves h (ite_moves (State.pocketFilled_moves hsense p) (State.pocketEmptied_moves hsense p))

theorem State.jamPocket_sends (s : State) (p : Fin 2) : s.Sends (s.jamPocket p) := by
  unfold State.jamPocket
  split
  · split
    · exact .refl s
    · rename_i he
      exact State.setEntry_sends (State.entries_of_entryOf he) p _
  · exact .refl s

/-! ### Clears and blindness (R128 to R132) -/

theorem State.cancelPicks_moves {d : Desk} {s : State} (h : d.Moves s.desk) (test : LineRef → Bool) :
    d.Moves (s.cancelPicks test).desk := h.work (State.cancelPicks_benchMoves .refl test) (s.cancelPicks_outer test)

@[simp] theorem State.freeBay_desk (s : State) (lane : Fin 8) (bay : Fin 4) : (s.freeBay lane bay).desk = s.desk := by
  unfold State.freeBay; split <;> rfl

theorem State.clearBay_moves {d : Desk} {s : State} (h : d.Moves s.desk) (lane : Fin 8) (bay : Fin 4) (resend : Bool) :
    d.Moves (s.clearBay lane bay resend).desk := by
  have hfreed : d.Moves (s.freeBay lane bay).desk := by rwa [State.freeBay_desk]
  have hup : d.Moves ((s.freeBay lane bay).giveUpBay lane bay).desk :=
    State.restoreEntries_moves (State.cancelPicks_moves ((State.endRecords_walks _ _).moves hfreed) _) _
  exact ite_moves ((State.resendRefused_sends _ lane).moves hup) hup

theorem State.hearBayClear_moves {d : Desk} {s : State} (h : d.Moves s.desk) (lane : Fin 8) (bay : Fin 4) (order : Nat) :
    d.Moves (s.hearBayClear lane bay order).desk := by
  unfold State.hearBayClear
  split
  · exact h
  · exact State.clearBay_moves h lane bay true

theorem State.idleLane_moves {d : Desk} {s : State} (h : d.Moves s.desk) (lane : Fin 8) : d.Moves (s.idleLane lane).desk := by
  unfold State.idleLane
  rw [State.setLane_desk]
  exact foldl_moves (fun _ bay ht => State.clearBay_moves ht lane bay false) _ h

theorem State.blindLane_moves {d : Desk} {s : State} (h : d.Moves s.desk) (lane : Fin 8) : d.Moves (s.blindLane lane).desk := by
  have hgiven : d.Moves (((s.lane lane).lineRefs lane).foldl State.giveBackLine s).desk := by
    refine foldl_moves (fun t l ht => ite_moves ht ?_) _ h
    rwa [State.addRelinquish_desk]
  have hdiscarded := State.discardComputation_moves
    ((State.freeRecords_walks _ fun c => c.ref.inLane lane).moves hgiven) (Ref.inLane lane)
  unfold State.blindLane
  split
  · simp only [State.setLane_desk]
    exact State.restoreEntries_moves (State.cancelPicks_moves hdiscarded _) _
  · exact h

@[simp] theorem State.emptyOffers_desk (s : State) : s.emptyOffers.desk = s.desk := rfl

theorem State.loseView_moves {d : Desk} {s : State} (h : d.Moves s.desk) : d.Moves s.loseView.desk := by
  have hblind : d.Moves s.blindAll.desk := foldl_moves (fun _ lane ht => State.blindLane_moves ht lane) _ h
  unfold State.loseView
  rwa [State.emptyOffers_desk]

/-! ### The bus port (R157 to R168) -/

@[simp] theorem State.changeContender_desk (s : State) (f : TxFrame → TxFrame) : (s.changeContender f).desk = s.desk := by
  unfold State.changeContender
  split
  · rfl
  · split
    · rfl
    · refine State.desk_of rfl ?_
      exact congrArg (fun n => { s.calls with sent := n }) List.length_set

theorem State.removeContender_sends (s : State) : s.Sends s.removeContender := by
  unfold State.removeContender
  split
  · exact .refl s
  · exact s.setTx_sends (le_max_of_le_left (List.eraseIdx_sublist _ _).length_le)

theorem State.tellStarted_walks (s : State) (f : Frame) : s.Walks (s.tellStarted f) := by
  have hw : s.Walks (s.walkRecords fun u c => (u, some (c.onBus s.own f))) :=
    s.walkRecords_walks fun t c => ⟨.refl t, by rintro e ⟨⟩; exact ⟨rfl, id⟩⟩
  unfold State.tellStarted
  simp only
  split
  · exact hw.trans (State.intentStarted_sends _ _).walks
  · exact hw

theorem State.contend_moves {d : Desk} {s : State} (h : d.Moves s.desk) (rival : Option Key) :
    d.Moves (s.contend rival).desk := by
  unfold State.contend
  split
  · exact h
  · refine ite_moves h (ite_moves h ((State.tellStarted_walks _ _).moves ?_))
    rwa [State.changeContender_desk]

theorem State.failContender_moves {d : Desk} {s : State} (h : d.Moves s.desk) : d.Moves s.failContender.desk := by
  unfold State.failContender
  split
  · exact h
  · refine ite_moves ((s.removeContender_sends.walks.trans (State.dropBid_walks _ _)).moves h) ?_
    rwa [State.changeContender_desk]

theorem State.enterOff_moves {d : Desk} {s : State} (h : d.Moves s.desk) : d.Moves s.enterOff.desk := by
  have hfewer := fun t : State => State.Sends.trans
    (t.setTx_sends (tx := t.port.tx.filter fun x => !givenUpAtOff x.frame) (le_max_of_le_left (List.length_filter_le _ _)))
    (u := t.setPort { t.port with tx := t.port.tx.filter fun x => !givenUpAtOff x.frame, gaps := 0 }) (.of_desk rfl)
  exact State.loseView_moves (((hfewer _).trans (State.dropIntents_sends _)).moves (State.contestExit_moves h))

theorem State.setCounters_moves {d : Desk} {s : State} (h : d.Moves s.desk) (tx rx : Nat) :
    d.Moves (s.setCounters tx rx).desk := by
  have hcounted : d.Moves (s.setPort (s.port.withCounters tx rx)).desk := h
  refine ite_moves hcounted ?_
  split
  · exact hcounted
  · exact State.contestExit_moves hcounted
  · exact State.enterOff_moves hcounted

theorem State.joinOverflow_moves {d : Desk} {s : State} (h : d.Moves s.desk) : d.Moves s.joinOverflow.desk := by
  refine State.loseView_moves ?_
  exact h

theorem State.receiveError_moves {d : Desk} {s : State} (h : d.Moves s.desk) : d.Moves s.receiveError.desk := by
  have hcounted := State.setCounters_moves h s.port.txErrors (raiseTo maxByteCount 1 s.port.rxErrors)
  have hjoined := ite_moves (c := s.listenOnly = true) (State.joinOverflow_moves hcounted) hcounted
  exact ite_moves (State.loseView_moves (State.contestExit_moves hjoined)) hjoined

@[simp] theorem State.stick_desk (s : State) (kind : BusError) : (s.setPort (s.port.stick kind)).desk = s.desk := by
  cases kind <;> rfl

theorem State.busError_moves {d : Desk} {s : State} (h : d.Moves s.desk) (kind : BusError) (role : BusRole) :
    d.Moves (s.busError kind role).desk := by
  have hstuck : d.Moves (s.setPort (s.port.stick kind)).desk := by rwa [State.stick_desk]
  unfold State.busError
  split
  · exact State.setCounters_moves (State.failContender_moves hstuck) _ _
  · exact State.receiveError_moves hstuck

theorem State.markSeen_moves {d : Desk} {s : State} (h : d.Moves s.desk) (role : BusRole) : d.Moves (s.markSeen role).desk := by
  unfold State.markSeen
  split
  · exact State.setCounters_moves (State.failContender_moves h) _ _
  · exact h

theorem State.held_moves {d : Desk} {s : State} (h : d.Moves s.desk) (role : BusRole) : d.Moves (s.held role).desk := by
  unfold State.held
  split
  · exact State.failContender_moves h
  · exact h

@[simp] theorem State.recover_desk (s : State) (bits : Nat) : (s.recover bits).desk = s.desk := by
  unfold State.recover
  simp only
  split <;> rfl

theorem State.countSuccess_moves {d : Desk} {s : State} (h : d.Moves s.desk) (f : Frame) : d.Moves (s.countSuccess f).desk := by
  refine ite_moves (State.setCounters_moves ?_ _ _) (State.setCounters_moves h _ _)
  exact (s.setTx_sends (le_max_of_le_left (removeFirst_sublist _ _).length_le)).moves h

end Sys2Proof.Machine
end

section
/-! SUPPORT. Frames heard, Station Control, the drive, the face, audits, starts and stops on the two views of a state. -/

namespace Sys2Proof.Machine

/-! ### Frames heard and places freed (R160 to R162) -/

/-- A frame joins the receive queue of a state reached by moves, where it found room (R160). -/
theorem State.enqueue_turns {s t : State} (h : s.desk.Moves t.desk) {f : Frame} (hroom : s.wouldOverflow f = false) :
    s.desk.Turns (t.enqueue f).desk := by
  have hown : t.own = s.own := h.bench.own_eq
  have hheard : t.port.rx.length ≤ s.port.rx.length := h.calls.heard_le
  unfold State.enqueue
  split
  · rename_i hjoins
    have hfree : s.port.rx.length < rxCapacity := by
      simpa [State.wouldOverflow, ← hown, hjoins] using hroom
    refine .tail (.single (.move h)) (Desk.Turn.joined (d := t.desk) _ ?_)
    show (t.port.rx ++ [({ frame := f, stamp := t.timer } : Heard)]).length ≤ rxCapacity
    rw [List.length_append, List.length_singleton]
    omega
  · exact .single (.move h)

theorem State.hear_turns (s : State) (f : Frame) : s.desk.Turns (s.hear f).desk := by
  have hs := Desk.Moves.refl s.desk
  unfold State.hear
  split
  · exact .single (.move (State.busError_moves hs _ _))
  · split
    · exact .single (.move (ite_moves (State.joinOverflow_moves hs) (State.held_moves hs _)))
    · rename_i hfree
      exact State.enqueue_turns (State.countSuccess_moves hs f) (Bool.eq_false_iff.2 hfree)

/-- Records whose frames change stand for what they stood for. -/
theorem liveRefs_map {g : Contest → Contest} (href : ∀ c, (g c).ref = c.ref) (hstate : ∀ c, (g c).state = c.state)
    (records : List Contest) : liveRefs (records.map g) = liveRefs records := by
  simp [liveRefs, List.filter_map, Function.comp_def, href, hstate]

theorem State.offerPlace_moves {d : Desk} {s : State} (h : d.Moves s.desk) : d.Moves s.offerPlace.desk := by
  unfold State.offerPlace
  split
  · rename_i hroom
    split
    · rename_i c _
      refine ((State.queueFrame_sends hroom _).walks.trans (State.setRecords_walks _ ?_)).moves h
      rw [liveRefs_map (fun x => by split <;> rfl) (fun x => by split <;> rfl)]
    · split
      · exact (State.queueIntent_sends s _).moves h
      · exact ite_moves (s.queueRelinquish_sends.moves h) (s.offerReport_sends.moves h)
  · exact h

/-! ### The drive (R22 to R40) -/

@[simp] theorem State.turnHoming_desk (s : State) : s.turnHoming.desk = s.desk := rfl

@[simp] theorem State.startHoming_desk (s : State) : s.startHoming.desk = s.desk := by
  unfold State.startHoming
  split
  · simp only; split <;> rfl
  · rfl

@[simp] theorem State.holdIfTurning_desk (s : State) : s.holdIfTurning.desk = s.desk := by
  unfold State.holdIfTurning
  split
  · split
    case h_2 => split <;> rfl
    all_goals rfl
  · rfl

@[simp] theorem State.resumeMove_desk (s : State) : s.resumeMove.desk = s.desk := by
  unfold State.resumeMove; split_ifs <;> rfl

@[simp] theorem State.tryResume_desk (s : State) : s.tryResume.desk = s.desk := by
  unfold State.tryResume
  split
  · split <;> simp
  · rfl

@[simp] theorem State.driveCount_desk (s : State) (dir : Direction) : (s.driveCount dir).1.desk = s.desk := by
  unfold State.driveCount
  split
  case h_3 => split <;> rfl
  case h_7 => split <;> rfl
  all_goals rfl

@[simp] theorem State.edgeKnown_desk (s : State) (flag : Bool) : (s.edgeKnown flag).1.desk = s.desk := by
  unfold State.edgeKnown
  simp only
  split_ifs <;> rfl

@[simp] theorem State.edgeHoming_desk (s : State) (flag : Bool) : (s.edgeHoming flag).1.desk = s.desk := by
  unfold State.edgeHoming
  simp only
  split_ifs <;> rfl

@[simp] theorem State.driveEdge_desk (s : State) (flag : Bool) : (s.driveEdge flag).1.desk = s.desk := by
  unfold State.driveEdge; split_ifs <;> simp

@[simp] theorem State.holdReading_desk (s : State) (l : SupplyLevel) (n : Nat) : (s.holdReading l n).desk = s.desk := rfl

@[simp] theorem State.warnLevel_desk (s : State) (b : Bool) : (s.warnLevel b).desk = s.desk := by
  unfold State.warnLevel
  simp only
  split_ifs <;> rfl

@[simp] theorem State.cutLevel_desk (s : State) (b : Bool) : (s.cutLevel b).desk = s.desk := by
  unfold State.cutLevel
  simp only
  split_ifs <;> simp

@[simp] theorem State.supplyLevel_desk (s : State) (l : SupplyLevel) (n : Nat) : (s.supplyLevel l n).desk = s.desk := by
  unfold State.supplyLevel State.liveLevel
  split
  · split <;> simp
  · simp

@[simp] theorem State.stopLevel_desk (s : State) (b : Bool) : (s.stopLevel b).desk = s.desk := by
  unfold State.stopLevel
  simp only
  split <;> simp

@[simp] theorem State.curtainLevel_desk (s : State) (b : Bool) : (s.curtainLevel b).desk = s.desk := by
  unfold State.curtainLevel
  simp only
  split_ifs <;> simp

/-! ### The service state and motion (R38, R39, R58, R170, R172) -/

/-- The service state becomes another than SETUP_WAIT. -/
theorem Desk.Moves.served {d : Desk} {s t : State} (h : d.Moves s.desk) {x : ServiceState} (hx : x ≠ .setupWait)
    (hb : t.bench = { s.bench with service := x }) (hc : t.calls = s.calls) : d.Moves t.desk where
  bench := by show d.bench.Moves t.bench; rw [hb]; exact h.bench.tail (.served x hx)
  calls := by show d.calls.Moves t.calls; rw [hc]; exact h.calls

theorem State.endJoining_moves {d : Desk} {s : State} (h : d.Moves s.desk) : d.Moves s.endJoining.desk := by
  unfold State.endJoining
  rw [State.startHoming_desk]
  exact h.served (x := .starting) (by simp) rfl rfl

theorem State.outOfService_moves {d : Desk} {s : State} (h : d.Moves s.desk) : d.Moves s.outOfService.desk := by
  unfold State.outOfService
  split
  case h_4 => exact h.served (x := .outOfService) (by simp) rfl rfl
  case h_5 =>
    refine State.contestExit_moves ?_
    exact h.served (x := .outOfService) (by simp) rfl rfl
  all_goals exact h

theorem State.enterFault_moves {d : Desk} {s : State} (h : d.Moves s.desk) (kind : FaultKind) :
    d.Moves (s.enterFault kind).desk := by
  refine ite_moves h (State.outOfService_moves ?_)
  refine Desk.Moves.work ?_ (State.endDwell_benchMoves .refl) (State.endDwell_outer _)
  exact h

theorem State.orLost_moves {d : Desk} {r : State × Bool} (h : d.Moves r.1.desk) : d.Moves (State.orLost r).desk :=
  ite_moves (State.enterFault_moves h _) h

theorem State.homed_moves {d : Desk} {s : State} (h : d.Moves s.desk) : d.Moves s.homed.desk := by
  unfold State.homed
  simp only
  split
  case h_4 => exact h.served (x := .inService) (by simp) rfl rfl
  case h_5 => exact h.served (x := .inService) (by simp) rfl rfl
  all_goals exact h

theorem State.settled_moves {d : Desk} {s : State} (h : d.Moves s.desk) : d.Moves s.settled.desk := by
  refine ite_moves ?_ (State.enterFault_moves h _)
  rwa [State.settledAt_desk]

theorem State.homingRested_moves {d : Desk} {s : State} (h : d.Moves s.desk) : d.Moves s.homingRested.desk :=
  ite_moves (State.homed_moves h) (State.enterFault_moves h _)

theorem State.graceRunOut_moves {d : Desk} {s : State} (h : d.Moves s.desk) : d.Moves s.graceRunOut.desk := by
  refine foldl_moves (fun t l ht => by rwa [State.addRelinquish_desk]) _ (State.cancelPicks_moves ?_ _)
  exact h

/-! ### Station Control (R171, R173 to R175) -/

theorem State.setHalt_moves {d : Desk} {s : State} (h : d.Moves s.desk) : d.Moves s.setHalt.desk := by
  refine ite_moves h ((foldl_sends State.withdrawIntent_sends _ _).moves ?_)
  rw [State.holdIfTurning_desk]
  exact h

theorem State.clearHalt_moves {d : Desk} {s : State} (h : d.Moves s.desk) : d.Moves s.clearHalt.desk := by
  refine ite_moves ((foldl_sends State.queueIntent_sends _ _).moves ?_) h
  rw [State.tryResume_desk]
  exact h

/-- A record at most leaves the log. -/
theorem State.reportGone_moves {d : Desk} {s : State} (h : d.Moves s.desk) : d.Moves s.reportGone.desk := by
  refine ⟨h.bench.tail (Bench.Move.logged (b := s.bench) _ (le_max_of_le_left ?_)), h.calls⟩
  show (if s.control.reportOut = some .logRecord then s.control.log.tail else s.control.log).length ≤ s.control.log.length
  split
  · exact (List.length_tail ..).trans_le (Nat.sub_le _ _)
  · exact le_rfl

/-- A group keeps the stop mark or sets it to 4 or more (10.3). -/
theorem SetupValues.withGroup_stopMark (v : SetupValues) (group : Nat) (p : List Byte) :
    (v.withGroup group p).stopMark = v.stopMark ∨ 0 < (v.withGroup group p).stopMark := by
  unfold SetupValues.withGroup
  split
  case h_3 => exact .inr (lt_of_lt_of_le (by decide) (le_max_left 4 _))
  all_goals exact .inl rfl

theorem State.takeSetup_moves {d : Desk} {s : State} (h : d.Moves s.desk) (f : Frame) : d.Moves (s.takeSetup f).desk := by
  refine ⟨?_, h.calls⟩
  rcases s.control.received.withGroup_stopMark f.key.field.toNat f.payload with hsame | hset
  · have hb : (s.takeSetup f).bench = s.bench := congrArg (fun n => { s.bench with receivedMark := n }) hsame
    show d.bench.Moves (s.takeSetup f).bench
    rw [hb]
    exact h.bench
  · exact h.bench.tail (.received _ hset)

/-- The settled marks: the stop mark received, and a resume mark below it (R54). -/
theorem SetupValues.settle_marks (v : SetupValues) :
    v.settle.stopMark = v.stopMark ∧ (0 < v.stopMark → v.settle.resumeMark < v.stopMark) := by
  have hfitted : v.fitted.stopMark = v.stopMark ∧ v.fitted.resumeMark = v.resumeMark := by
    unfold SetupValues.fitted
    split <;> exact ⟨rfl, rfl⟩
  obtain ⟨hstop, hresume⟩ := hfitted
  refine ⟨hstop, fun hpos => ?_⟩
  show (if v.fitted.stopMark ≤ v.fitted.resumeMark then v.fitted.stopMark - 1 else v.fitted.resumeMark) < v.stopMark
  rw [hstop, hresume]
  split <;> omega

theorem State.settleSetup_moves {d : Desk} {s : State} (h : d.Moves s.desk) (hwait : s.inSetupWait = true) :
    d.Moves s.settleSetup.desk := by
  obtain ⟨hstop, hresume⟩ := s.control.received.settle_marks
  refine ⟨?_, h.calls⟩
  have hb : s.settleSetup.bench = { s.bench with
      stopMark := s.bench.receivedMark, resumeMark := s.control.received.settle.resumeMark, service := .joining } :=
    congrArg (fun n => { s.bench with
      stopMark := n, resumeMark := s.control.received.settle.resumeMark, service := .joining }) hstop
  show d.bench.Moves s.settleSetup.bench
  rw [hb]
  exact h.bench.tail (.settled _ (of_decide_eq_true hwait) hresume)

@[simp] theorem State.takePark_desk (s : State) (carrier : Nat) : (s.takePark carrier).desk = s.desk := by
  unfold State.takePark; split <;> rfl

@[simp] theorem State.takeAudit_desk (s : State) (first last : Nat) : (s.takeAudit first last).desk = s.desk := by
  unfold State.takeAudit; split <;> rfl

/-! ### The face (R61 to R79) -/

theorem State.presenceChange_moves {d : Desk} {s : State} (h : d.Moves s.desk) (place : Nat) (present : Bool) :
    d.Moves (s.presenceChange place present).desk :=
  h.work (State.presenceChange_benchMoves .refl place present) (s.presenceChange_outer place present)

@[simp] theorem State.settleCycle_desk (s : State) (pin : BitVec 16) : (s.settleCycle pin).desk = s.desk := by
  unfold State.settleCycle
  split
  · rfl
  · simp only; split <;> rfl

theorem State.scanFace_moves {d : Desk} {s : State} (h : d.Moves s.desk) (returns : BitVec 12) (pin : BitVec 16) :
    d.Moves (s.scanFace returns pin).desk := by
  have hcycle : d.Moves
      ((s.setFace { s.face with image := s.sampled returns, lastScan := some s.timer }).settleCycle pin).desk := by
    rwa [State.settleCycle_desk, State.setFace_desk]
  unfold State.scanFace
  exact ite_moves (foldl_moves (fun _ c ht => State.presenceChange_moves ht c.1 c.2) _ hcycle) hcycle

theorem State.closeDwell_moves {d : Desk} {s : State} (h : d.Moves s.desk) : d.Moves s.closeDwell.desk :=
  h.work (State.closeDwell_benchMoves .refl) s.closeDwell_outer

theorem State.doneLevel_moves {d : Desk} {s : State} (h : d.Moves s.desk) (active : Bool) :
    d.Moves (s.doneLevel active).desk := by
  have hdone : ∀ {t : State}, d.Moves t.desk → d.Moves t.doneDwell.desk := by
    intro t ht
    unfold State.doneDwell
    split
    · exact ht
    · exact ite_moves (State.closeDwell_moves ht) ht
  have hpressed : d.Moves s.donePressed.desk := ite_moves h (ite_moves (hdone (ite_moves h h)) (ite_moves h h))
  exact ite_moves hpressed h

theorem State.arrivalLevel_moves {d : Desk} {s : State} (h : d.Moves s.desk) (active : Bool) :
    d.Moves (s.arrivalLevel active).desk := by
  have hdelivered : ∀ {t : State}, d.Moves t.desk → d.Moves t.delivered.desk := by
    intro t ht
    unfold State.delivered
    split
    · exact ht
    · exact State.writeReport_moves ht _
  refine ite_moves (hdelivered ?_) ?_
  · exact h
  · exact h

theorem State.giveUpArrivals_moves {d : Desk} {s : State} (h : d.Moves s.desk) (r : Receiving) :
    d.Moves (s.giveUpArrivals r).desk := by
  have hcancelled : ∀ tasks : List Task, d.Moves (tasks.foldl (fun u x => u.cancelLoad x.slot) s).desk := by
    refine fun tasks => foldl_moves (fun t x ht => ?_) tasks h
    exact ht.work (State.cancelLoad_benchMoves .refl x.slot) (t.cancelLoad_outer x.slot)
  have hfreed : ∀ t : State, t.freeReceived.desk = t.desk := fun _ => rfl
  unfold State.giveUpArrivals
  simp only
  rw [hfreed]
  refine ite_moves ?_ (Desk.Moves.work ?_ (State.reportShort_benchMoves .refl _ _ _ _) (State.reportShort_outer _ _ _ _ _))
  · exact hcancelled _
  · exact hcancelled _

theorem State.debounced_moves {d : Desk} {s : State} (h : d.Moves s.desk) (i : FaceInput) (high : Bool)
    {change : State → Bool → State} (hc : ∀ t b, d.Moves t.desk → d.Moves (change t b).desk) :
    d.Moves (s.debounced i high change).desk := ite_moves (hc (s.setDebounce i _) _ h) h

@[simp] theorem State.tick_desk (s : State) : s.tick.desk = s.desk := by
  unfold State.tick
  simp only
  split
  · rfl
  · split <;> rfl

/-! ### Audits (R142 to R154) -/

theorem Comparison.slot_moves {d : Desk} {c : Comparison} (h : d.Moves c.state.desk) (slot : Nat) (present : Bool) :
    d.Moves (c.slot slot present).state.desk := by
  have hread := h.work (State.readSlot_benchMoves .refl slot) (c.state.readSlot_outer slot)
  unfold Comparison.slot
  simp only
  split
  · exact hread
  · rename_i f _
    have hrequest := hread.work
      (State.request_benchMoves .refl slot (fun x => decide (x = (c.state.readSlot slot).record)) fun _ => f.new)
      (State.request_outer _ _ _ _)
    split
    · exact hrequest
    · exact State.writeReport_moves hrequest _

theorem Comparison.slots_moves {d : Desk} {c : Comparison} (h : d.Moves c.state.desk) (slot : Nat) (image : List Bool) :
    d.Moves (c.slots slot image).state.desk := by
  induction image generalizing c slot with
  | nil => exact h
  | cons present rest ih => exact ih (Comparison.slot_moves h slot present) (slot + 1)

theorem State.weigh_moves {d : Desk} {s : State} (h : d.Moves s.desk) (scan : Scan) (unknown : Bool) :
    d.Moves (s.weigh scan unknown).1.desk := by
  have hmark : ∀ m, d.Moves (s.setMark scan.carrier m).desk := fun _ => h
  unfold State.weigh
  simp only
  split_ifs
  · exact hmark _
  · exact State.writeReport_moves (hmark _) _
  · exact State.writeReport_moves (hmark _) _
  · exact hmark _

theorem State.sweepOff_moves {d : Desk} {s : State} (h : d.Moves s.desk) (carrier found : Nat) :
    d.Moves (s.sweepOff carrier found).desk := by
  unfold State.sweepOff
  simp only
  split
  · refine State.writeReport_moves ?_ _
    exact h
  · exact h

theorem State.answerFace_moves {d : Desk} {s : State} (h : d.Moves s.desk) (scan : Scan) :
    d.Moves (s.answerFace scan).desk := by
  unfold State.answerFace
  split
  · exact h
  · rename_i w _
    refine ite_moves ?_ h
    have hlit := Desk.Moves.work (s := s.setDwell (some { w with phase := .working, scan := scan.image })) h
      (State.refreshDwell_benchMoves .refl) (State.refreshDwell_outer _)
    refine Desk.Moves.work (foldl_moves (fun _ c ht => State.presenceChange_moves ht c.1 c.2) _ hlit) ?_
      (State.testCompletion_outer _)
    rw [State.testCompletion_bench]

@[simp] theorem State.countStop_desk (s : State) (swept hadDue : Bool) : (s.countStop swept hadDue).desk = s.desk := rfl

theorem State.auditScan_moves {d : Desk} {s : State} (h : d.Moves s.desk) (scan : Scan) :
    d.Moves (s.auditScan scan).desk := by
  have hcompared := Comparison.slots_moves (c := { state := s, found := 0, unknown := false }) h
    (scan.carrier * s.values.slotsPerCarrier) scan.image
  have hweighed := fun unknown => State.weigh_moves
    (hcompared.work (State.relocateAll_benchMoves .refl) (State.relocateAll_outer _)) scan unknown
  refine State.answerFace_moves ?_ scan
  rw [State.countStop_desk]
  exact ite_moves (State.sweepOff_moves (hweighed _) _ _) (hweighed _)

theorem State.workScan_moves {d : Desk} {s : State} (h : d.Moves s.desk) : d.Moves s.workScan.desk := by
  unfold State.workScan
  split
  · exact h
  · rename_i scan rest _
    exact State.auditScan_moves (s := s.setAudit { s.audit with scans := rest }) h scan

/-! ### Starts and stops (R17 to R19, R177) -/

theorem State.coldStart_turn (s : State) (stn : BitVec 5) (rate : BitVec 2) :
    s.desk.Turn (s.coldStart stn rate).desk := .restart _

theorem State.stopped_turn (s : State) (power : Power) : s.desk.Turn (s.stopped power).desk := .restart _

theorem State.markerLost_turn (s : State) : s.desk.Turn s.markerLost.desk := .restart _

theorem State.normalize_moves {d : Desk} {s : State} (h : d.Moves s.desk) : d.Moves s.normalize.desk := by
  refine foldl_moves (fun t n ht => ite_moves ht ?_) _ (h.work (State.readSlots_benchMoves .refl _) (s.readSlots_outer _))
  refine ht.work ?_ (t.writeRecord_outer n _)
  rw [State.writeRecord_bench]

theorem State.warmStart_turns (s : State) (stn : BitVec 5) (rate : BitVec 2) (flips : List (Fin 512)) :
    s.desk.Turns (s.warmStart stn rate flips).desk := by
  unfold State.warmStart
  split
  · exact .single (s.coldStart_turn stn rate)
  · have hstart : s.desk.Turn (State.start .warm stn rate (s.store.flipped flips) s.pending).desk := .restart _
    exact .tail (.single hstart) (.move (State.normalize_moves (.refl _)))

end Sys2Proof.Machine
end

section
/-! SUPPORT. Every step on the two views of a state, the bidding hold by itself (R54), and the proof of the statement about
the queues. -/

namespace Sys2Proof.Machine

/-! ### Every step -/

theorem Desk.Moves.turns {d e : Desk} (h : d.Moves e) : d.Turns e := .single (.move h)

/-- A command of a running part: its own effect, then the moves of the end of the step. -/
theorem State.during_turns {s t : State} {effect : State → State} (ht : (s.during effect).goOn = .next t)
    (he : s.desk.Turns (effect s).desk) : s.desk.Turns t.desk := by
  obtain rfl := Host.Outcome.next.inj ht
  unfold State.during
  split
  · exact he.tail (.move (State.settle_moves (.refl _) s))
  · exact .refl

/-- A frame is taken in hand with the rounds that its owner has opened (R100, R160). -/
theorem Desk.Opens.turns {d : Desk} {t : State} {rounds : List Ref} (h : d.Opens t rounds) (hnodup : rounds.Nodup)
    (hfree : d.calls.busy = false) : d.Turns (t.setPort { t.port with headBusy := true }).desk := by
  obtain ⟨e, hmoves, hnew, hdesk⟩ := h
  have htaken : (t.setPort { t.port with headBusy := true }).desk =
      { t.desk with calls := { t.desk.calls with busy := true } } := rfl
  rw [htaken, hdesk]
  exact hmoves.turns.tail (.taken rounds (hmoves.calls.busy_false hfree) hnodup hnew)

/-- A frame is handed over only where none is in hand (R160). -/
theorem State.headFor_free {s : State} {kind : FrameKind → Bool} {x : Heard} (h : s.headFor kind = some x) :
    s.port.headBusy = false := by
  unfold State.headFor at h
  split at h
  · cases h
  · rename_i hfree
    exact Bool.eq_false_iff.2 hfree

/-- The hand-over of a frame whose owner may open rounds. -/
theorem State.handOver_turns (s : State) (kind : FrameKind → Bool) (taken : Bool) {owner : Heard → State → State}
    (ho : taken = true → ∀ x, ∃ rounds : List Ref, rounds.Nodup ∧ s.desk.Opens (owner x s) rounds) :
    s.desk.Turns (s.handOver kind taken owner).desk := by
  unfold State.handOver
  split
  · exact .refl
  · rename_i x hx
    have hfree := State.headFor_free hx
    cases taken with
    | true =>
      obtain ⟨rounds, hnodup, hopens⟩ := ho rfl x
      exact hopens.turns hnodup hfree
    | false => exact (Desk.Moves.refl s.desk).opens.turns List.nodup_nil hfree

/-- A command that hands over a frame whose owner opens no round. -/
theorem State.handed_turns {s t : State} {kind : FrameKind → Bool} {taken : State → Bool} {owner : Heard → State → State}
    (ht : (s.during fun u => u.handOver kind (taken u) owner).goOn = .next t)
    (ho : taken s = true → ∀ x, s.desk.Moves (owner x s).desk) : s.desk.Turns t.desk :=
  State.during_turns ht (s.handOver_turns kind (taken s) fun h x => ⟨[], List.nodup_nil, (ho h x).opens⟩)

/-- A command that hands over a frame whose owner may open rounds. -/
theorem State.opened_turns {s t : State} {kind : FrameKind → Bool} {taken : State → Bool} {owner : Heard → State → State}
    (ht : (s.during fun u => u.handOver kind (taken u) owner).goOn = .next t)
    (ho : taken s = true → ∀ x, ∃ rounds : List Ref, rounds.Nodup ∧ s.desk.Opens (owner x s) rounds) :
    s.desk.Turns t.desk := State.during_turns ht (s.handOver_turns kind (taken s) ho)

/-- A command whose own effect is made of moves. -/
theorem State.moved_turns {s t : State} {effect : State → State} (ht : (s.during effect).goOn = .next t)
    (he : s.desk.Moves (effect s).desk) : s.desk.Turns t.desk := State.during_turns ht he.turns

/-- Every command is made of turns. -/
theorem exec_turns {s t : State} (i : Instr) (ht : exec i s = .next t) : s.desk.Turns t.desk := by
  have h := Desk.Moves.refl s.desk
  cases i with
  | warmStart stn rate flips =>
    obtain rfl := Host.Outcome.next.inj ht
    exact (s.warmStart_turns stn rate flips).tail (.move (State.settle_moves (.refl _) _))
  | coldStart stn rate =>
    obtain rfl := Host.Outcome.next.inj ht
    exact .tail (.single (s.coldStart_turn stn rate)) (.move (State.settle_moves (.refl _) _))
  | standby =>
    obtain rfl := Host.Outcome.next.inj ht
    split
    · exact .refl
    · exact .single (s.stopped_turn _)
  | resetAssert =>
    obtain rfl := Host.Outcome.next.inj ht
    split
    · exact .single (s.stopped_turn _)
    · exact .refl
  | markerLost =>
    obtain rfl := Host.Outcome.next.inj ht
    exact .single s.markerLost_turn
  | frameHeard frame =>
    refine State.during_turns ht ?_
    split
    · exact s.hear_turns frame
    · exact .refl
  | idleBusContend rival => exact State.moved_turns ht (ite_moves (State.contend_moves h rival) h)
  | busError kind role => exact State.moved_turns ht (ite_moves (State.busError_moves h kind role) h)
  | errorMarkSeen role => exact State.moved_turns ht (ite_moves (State.markSeen_moves h role) h)
  | frameHeld role => exact State.moved_turns ht (ite_moves (State.held_moves h role) h)
  | offRecovery bits => exact State.moved_turns ht (ite_moves (by rwa [State.recover_desk]) h)
  | txPlaceFreed => exact State.moved_turns ht (State.offerPlace_moves h)
  | halt => exact State.handed_turns ht fun _ _ => State.setHalt_moves h
  | resume => exact State.handed_turns ht fun _ _ => State.clearHalt_moves h
  | calendar => exact State.handed_turns ht fun _ _ => h
  | setup => exact State.handed_turns ht fun _ x => State.takeSetup_moves h x.frame
  | setupEnd => exact State.handed_turns ht fun hwait _ => State.settleSetup_moves h hwait
  | joinTimeout => exact State.moved_turns ht (ite_moves (State.endJoining_moves h) h)
  | reportHeard => exact State.handed_turns (taken := fun _ => true) ht fun _ _ => State.reportGone_moves h
  | adjust =>
    exact State.handed_turns ht fun _ _ => h.work (State.applyAdjust_benchMoves .refl _) (s.applyAdjust_outer _)
  | park => exact State.handed_turns ht fun _ _ => by rwa [State.takePark_desk]
  | audit => exact State.handed_turns ht fun _ _ => by rwa [State.takeAudit_desk]
  | order => exact State.opened_turns ht fun _ _ => State.takeOrder_opens h _ _
  | inbound => exact State.opened_turns ht fun _ _ => State.takeInbound_opens h _ _
  | bid => exact State.handed_turns ht fun _ x => (s.hearBid_walks x.frame).moves h
  | claim =>
    refine State.opened_turns ht fun htaken x => State.hearClaim_opens (d := s.desk) ?_ h x.frame x.stamp
    have hawake : s.control.service ≠ .setupWait := by simpa [State.inSetupWait] using htaken
    exact hawake
  | computationResult => exact State.moved_turns ht (State.takeResult_moves h)
  | windowEnd => exact State.moved_turns ht ((s.walkRecords_walks windowEnd_keepsRef).moves h)
  | secondChance => exact State.moved_turns ht (s.secondChances_walks.moves h)
  | relinquish => exact State.opened_turns ht fun _ _ => State.hearRelinquish_opens h _ _
  | intent => exact State.handed_turns ht fun _ _ => State.hearIntent_moves h _ _
  | bayClear => exact State.handed_turns ht fun _ _ => State.hearBayClear_moves h _ _ _
  | laneIdle => exact State.handed_turns ht fun _ _ => State.idleLane_moves h _
  | faultGraceTimeout => exact State.moved_turns ht (ite_moves (State.graceRunOut_moves h) h)
  | encoderCount dir =>
    exact State.moved_turns ht (State.orLost_moves (r := s.driveCount dir) (by rwa [State.driveCount_desk]))
  | indexEdge flag =>
    exact State.moved_turns ht (State.orLost_moves (r := s.driveEdge flag) (by rwa [State.driveEdge_desk]))
  | stallTimeout => exact State.moved_turns ht (ite_moves (State.enterFault_moves h _) h)
  | settleRestTimeout => exact State.moved_turns ht (ite_moves (State.settled_moves h) h)
  | homingRestTimeout => exact State.moved_turns ht (ite_moves (State.homingRested_moves h) h)
  | holdRestTimeout => exact State.moved_turns ht (by rwa [State.tryResume_desk])
  | curtainClearTimeout =>
    exact State.moved_turns ht (ite_moves (by rwa [State.tryResume_desk, State.setDrive_desk]) h)
  | supplyClearTimeout =>
    exact State.moved_turns ht (ite_moves (by rwa [State.tryResume_desk, State.setDrive_desk]) h)
  | supplyLevelChange level sense => exact State.moved_turns ht (by rwa [State.supplyLevel_desk])
  | doneHoldTimeout => exact State.moved_turns ht (ite_moves (by rwa [State.startHoming_desk]) h)
  | scanCycle returns pin flips =>
    refine State.moved_turns ht (ite_moves (State.scanFace_moves ?_ returns pin) ?_)
    · exact h
    · exact h
  | doneEdge => exact State.moved_turns ht (State.debounced_moves h _ _ fun u b hu => State.doneLevel_moves hu b)
  | dwellTimeout => exact State.moved_turns ht (ite_moves (State.closeDwell_moves h) h)
  | stopLevelChange high =>
    exact State.moved_turns ht (State.debounced_moves h _ _ fun u b hu => by rwa [State.stopLevel_desk])
  | curtainChange high =>
    exact State.moved_turns ht (State.debounced_moves h _ _ fun u b hu => by rwa [State.curtainLevel_desk])
  | arrival high =>
    exact State.moved_turns ht (State.debounced_moves h _ _ fun u b hu => State.arrivalLevel_moves hu b)
  | inboundDeadline =>
    exact State.moved_turns ht (foldl_moves (fun _ r hu => State.giveUpArrivals_moves hu r) _ h)
  | pocketSenseChange p high =>
    exact State.moved_turns ht (State.debounced_moves h _ _ fun u b hu => State.pocketLevel_moves hu p b)
  | jamTimeout => exact State.moved_turns ht ((foldl_sends State.jamPocket_sends _ s).moves h)
  | auditScan => exact State.moved_turns ht (State.workScan_moves h)
  | doneRelease => exact State.moved_turns ht (State.debounced_moves h _ _ fun u b hu => State.doneLevel_moves hu b)

/-- Every step is made of turns: a command at the front of the queue, an own step that is due, or a millisecond. -/
theorem step_turns {s t : State} (ht : step s = .next t) : s.desk.Turns t.desk := by
  unfold step at ht
  split at ht
  · unfold State.idle at ht
    split at ht
    · split at ht
      · exact exec_turns _ ht
      · obtain rfl := Host.Outcome.next.inj ht
        rw [State.tick_desk]
    · obtain rfl := Host.Outcome.next.inj ht
      exact .refl
  · rename_i c rest _
    exact exec_turns (s := s.setPending rest) c ht

/-! ### The laws of a state as laws of its views -/

theorem State.queueOk_iff {s : State} : s.queueOk = true ↔ s.bench.QueueLaw := by
  simp only [State.queueOk, ordinaryCount_eq, taskSlots_eq, Bool.and_eq_true, decide_eq_true_eq, and_assoc]
  constructor
  · rintro ⟨hroom, hordinary, hnodup⟩
    exact ⟨by simpa [State.bench] using hroom, hordinary, hnodup⟩
  · rintro ⟨hroom, hordinary, hnodup⟩
    exact ⟨by simpa [State.bench] using hroom, hordinary, hnodup⟩

theorem State.boundsOk_iff {s : State} : s.boundsOk = true ↔ s.calls.BusLaw ∧ s.bench.LogLaw := by
  simp only [State.boundsOk, Bool.and_eq_true, decide_eq_true_eq]
  exact ⟨fun ⟨⟨hsent, hheard⟩, hlogged⟩ => ⟨⟨hsent, hheard⟩, hlogged⟩,
    fun ⟨⟨hsent, hheard⟩, hlogged⟩ => ⟨⟨hsent, hheard⟩, hlogged⟩⟩

theorem State.openRefs_eq (s : State) : s.openRefs = s.calls.refs := by
  unfold State.openRefs Calls.refs
  congr 2
  simp only [State.calls]
  cases s.contests.computing <;> rfl

theorem State.contestsOk_iff {s : State} : s.contestsOk = true ↔ s.calls.ContestLaw := by
  have hidle : s.calls.Idle ↔ s.contests.computing = none ∧ s.contests.considering = [] := by
    simp [Calls.Idle, State.calls]
  simp only [State.contestsOk, State.openRefs_eq, Bool.and_eq_true, Bool.or_eq_true, decide_eq_true_eq, ← hidle]
  constructor
  · rintro ⟨hnodup, hhand⟩
    exact ⟨hnodup, fun hfree => hhand.resolve_left (by rw [show s.port.headBusy = false from hfree]; simp)⟩
  · rintro ⟨hnodup, hhand⟩
    refine ⟨hnodup, ?_⟩
    cases hbusy : s.port.headBusy with
    | true => exact .inl rfl
    | false => exact .inr (hhand hbusy)

theorem State.bidHoldOk_iff {s : State} : s.bidHoldOk = true ↔
    (s.bench.held = false → s.bench.ordinary < s.bench.stopMark) ∧
      (s.bench.held = true → s.bench.resumeMark < s.bench.ordinary) ∧
      (s.bench.service = .setupWait → s.bench.tasks = [] ∧ s.bench.entries = false) := by
  have hordinary : s.bench.ordinary = ordinaryCount s.planner.queue := (ordinaryCount_eq _).symm
  have hheld : s.bench.held = s.planner.bidHold := rfl
  have htasks : s.bench.tasks = [] ↔ s.planner.queue = [] := List.map_eq_nil_iff
  have hentries : s.bench.entries = false ↔ (bothPockets.all fun p => !(s.pocket p).hasEntry) = true := by
    simp [State.bench, List.any_eq_false]
  rw [hordinary, hheld, htasks, hentries]
  unfold State.bidHoldOk State.inSetupWait
  cases s.planner.bidHold <;> simp [State.bench, imp_iff_not_or]

/-- With the setup values in their ranges the whole law of the hold stands. -/
theorem State.holdLaw {s : State} (hsetup : s.setupOk = true) (hhold : s.bidHoldOk = true) : s.bench.HoldLaw := by
  obtain ⟨hclear, hset, hwaits⟩ := State.bidHoldOk_iff.1 hhold
  simp only [State.setupOk, SetupValues.inRange, SetupValues.fits, between, Bool.and_eq_true, decide_eq_true_eq] at hsetup
  refine ⟨?_, ?_, hclear, hset, hwaits⟩
  · show 0 < s.control.received.stopMark
    omega
  · show s.control.settled.resumeMark < s.control.settled.stopMark
    omega

theorem State.reset_queueLaw : State.reset.bench.QueueLaw where
  room := by decide
  ordinary := by decide
  nodup := by decide

theorem State.reset_holdLaw : State.reset.bench.HoldLaw where
  received := by decide
  marks := by decide
  clear _ := by decide
  set := by decide
  waits _ := ⟨rfl, rfl⟩

/-- Rounds of references that no record stands for may wait where nothing is computed or waits (R100). -/
theorem Calls.ContestLaw.taken {k : Calls} {rounds : List Ref} (h : k.ContestLaw) (hfree : k.busy = false)
    (hnodup : rounds.Nodup) (hnew : ∀ r ∈ rounds, r ∉ k.live) :
    Calls.ContestLaw { k with considering := k.considering ++ rounds, busy := true } := by
  obtain ⟨hcomputing, hconsidering⟩ := h.hand hfree
  have hlive := h.nodup
  simp only [Calls.refs, hcomputing, hconsidering, Option.toList_none, List.append_nil] at hlive
  refine ⟨?_, by simp⟩
  simp only [Calls.refs, hcomputing, hconsidering, Option.toList_none, List.append_nil, List.nil_append]
  exact hlive.append hnodup fun r hr hmem => hnew r hmem hr

/-! ### The bidding hold by itself (R54) -/

/-- The hold that a number of ordinary tasks gives. -/
def State.holdAt (s : State) (n : Nat) : Bool :=
  if s.values.stopMark ≤ n then true else if n ≤ s.values.resumeMark then false else s.planner.bidHold

/-- To judge a hold again changes nothing. -/
theorem State.setQueue_judged (s : State) (queue : List Task) :
    (s.setQueue queue).holdAt (ordinaryCount (s.setQueue queue).planner.queue) = (s.setQueue queue).planner.bidHold := by
  show (if s.values.stopMark ≤ ordinaryCount queue then true
    else if ordinaryCount queue ≤ s.values.resumeMark then false else s.holdAt (ordinaryCount queue)) =
      s.holdAt (ordinaryCount queue)
  unfold State.holdAt
  split_ifs <;> rfl

theorem State.addTask_bidHold (s : State) (w : TaskWork) (slot : Nat) :
    (s.addTask w slot).planner.bidHold =
      s.holdAt (if w.ordinary then ordinaryCount s.planner.queue + 1 else ordinaryCount s.planner.queue) := by
  refine congrArg s.holdAt ?_
  unfold ordinaryCount
  cases hw : w.ordinary <;> simp [hw]

/-- A RESTORE asked for again counts for nothing, so that the hold stays as it has been judged (R42, R43). -/
theorem State.requestRestore_bidHold {s : State} (h : s.holdAt (ordinaryCount s.planner.queue) = s.planner.bidHold)
    (p : Fin 2) : (s.requestRestore p).planner.bidHold = s.planner.bidHold ∧
      (s.requestRestore p).holdAt (ordinaryCount (s.requestRestore p).planner.queue) = s.planner.bidHold := by
  unfold State.requestRestore
  split
  · exact ⟨rfl, h⟩
  · rename_i slot _
    split
    · have hheld : (s.addTask (.restore p) slot).planner.bidHold = s.planner.bidHold :=
        (s.addTask_bidHold (.restore p) slot).trans h
      have hcount : ordinaryCount (s.addTask (.restore p) slot).planner.queue = ordinaryCount s.planner.queue := by
        simp [State.addTask, State.setQueue, ordinaryCount, TaskWork.ordinary]
      refine ⟨hheld, ?_⟩
      rw [hcount]
      unfold State.holdAt at h ⊢
      rw [hheld]
      exact h
    · exact ⟨rfl, h⟩

theorem State.requestRestores_bidHold {s : State} (h : s.holdAt (ordinaryCount s.planner.queue) = s.planner.bidHold)
    (pockets : List (Fin 2)) : (pockets.foldl State.requestRestore s).planner.bidHold = s.planner.bidHold := by
  induction pockets generalizing s with
  | nil => rfl
  | cons p rest ih =>
    obtain ⟨hsame, hjudged⟩ := State.requestRestore_bidHold h p
    exact (ih (hjudged.trans hsame.symm)).trans hsame

/-- The first task that a test finds leaves the queue. -/
theorem ordinaryCount_removeFirst {test : Task → Bool} {queue : List Task} {x : Task} (h : queue.find? test = some x) :
    ordinaryCount (removeFirst test queue) =
      if x.work.ordinary then ordinaryCount queue - 1 else ordinaryCount queue := by
  induction queue with
  | nil => cases h
  | cons y rest ih =>
    unfold removeFirst
    cases hy : test y with
    | true =>
      obtain rfl : y = x := by simpa [hy] using h
      cases hw : y.work.ordinary <;> simp [ordinaryCount, hw]
    | false =>
      rw [List.find?_cons_of_neg (by simp [hy])] at h
      have hmem : x.work.ordinary = true → 0 < ordinaryCount rest := fun hw =>
        List.length_pos_of_mem (List.mem_filter.2 ⟨List.mem_of_find?_eq_some h, hw⟩)
      have hrest := ih h
      unfold ordinaryCount at hrest hmem ⊢
      simp only [Bool.false_eq_true, if_false, List.filter_cons]
      cases hw : x.work.ordinary with
      | true =>
        have hpos := hmem hw
        rw [if_pos hw] at hrest
        split
        · simp only [List.length_cons, hrest, if_true]
          omega
        · exact hrest
      | false =>
        rw [if_neg (by simp [hw])] at hrest
        split
        · simp [hrest]
        · exact hrest

theorem State.dropTask_bidHold {s : State} {slot : Nat} {x : Task} (h : s.taskOn slot = some x) :
    (s.dropTask slot).planner.bidHold =
      s.holdAt (if x.work.ordinary then ordinaryCount s.planner.queue - 1 else ordinaryCount s.planner.queue) := by
  have hcount := ordinaryCount_removeFirst h
  unfold State.dropTask
  rw [if_pos (by rw [h]; rfl), State.requestRestores_bidHold]
  · exact congrArg s.holdAt hcount
  · exact s.setQueue_judged _

/-- While the hold is in force no round is bid in, so that none is computed (R101). -/
theorem State.considerList_held {s : State} (h : s.planner.bidHold = true) (rounds : List RoundOpen) :
    s.considerList rounds = s.setContests { s.contests with considering := [] } := by
  induction rounds with
  | nil => rfl
  | cons o rest ih =>
    have hmay : s.mayBid o.ref = false := by simp [State.mayBid, h]
    rw [State.considerList, hmay]
    exact ih

theorem State.considerRounds_held {s : State} (h : s.planner.bidHold = true) (hc : s.contests.computing = none) :
    s.considerRounds = s.setContests { s.contests with considering := [] } := by
  rw [State.considerRounds, hc]
  exact State.considerList_held h _

/-- Settles O7: each law is a law of the bench or of the calls of a state, which every turn keeps, and a step is made of
turns (`step_turns`); what R54 says of the hold by itself are the equations of the last section. -/
theorem queuesKeepTheirLaws : Obligations.QueuesKeepTheirLaws := by
  refine ⟨fun s t hs ht => ?_, fun s t hs ht => ?_, fun s t hs ht => ?_, fun s t hsetup hs ht => ?_, fun s => ?_⟩
  · rw [State.queueOk_iff] at hs ⊢
    exact (step_turns ht).bench_law Bench.QueueLaw.move (fun _ => { State.reset_queueLaw with }) hs
  · rw [State.boundsOk_iff] at hs ⊢
    obtain ⟨hbus, hlog⟩ := hs
    exact ⟨(step_turns ht).calls_law Calls.BusLaw.move (fun h hn => { h with heard := hn }) (fun h _ _ _ => { h with })
      ⟨by decide, by decide⟩ hbus, (step_turns ht).bench_law Bench.LogLaw.move (fun _ => Nat.zero_le _) hlog⟩
  · rw [State.contestsOk_iff] at hs ⊢
    exact (step_turns ht).calls_law Calls.ContestLaw.move (fun h _ => { h with }) Calls.ContestLaw.taken
      ⟨by decide, fun _ => ⟨rfl, rfl⟩⟩ hs
  · obtain ⟨_, _, hclear, hset, hwaits⟩ :=
      (step_turns ht).bench_law Bench.HoldLaw.move (fun _ => { State.reset_holdLaw with })
        (State.holdLaw hsetup hs)
    exact State.bidHoldOk_iff.2 ⟨hclear, hset, hwaits⟩
  · exact ⟨s.addTask_bidHold, fun x slot hx => State.dropTask_bidHold hx, State.considerRounds_held⟩

end Sys2Proof.Machine
end

section
/-! SUPPORT. The step of a part for which no command waits: its three cases, and what a millisecond changes (log 1, R67,
R73); and the proof of the statement about it. -/

namespace Sys2Proof.Machine

/-- With no command waiting the part idles. -/
theorem step_of_no_command {s : State} (h : s.pending = []) : step s = s.idle := by
  unfold step
  rw [h]

theorem State.idle_stopped {s : State} (h : s.isRunning = false) : s.idle = .next s := by
  simp [State.idle, h]

theorem State.idle_due {s : State} {i : Instr} (h : s.isRunning = true) (hdue : s.firstDue = some i) :
    s.idle = exec i s := by
  simp [State.idle, h, hdue]

theorem State.idle_passes {s : State} (h : s.isRunning = true) (hdue : s.firstDue = none) : s.idle = .next s.tick := by
  simp [State.idle, h, hdue]

/-- A millisecond changes the station timer, the elapsed time of an open dwell outside HALT, and the on and off times of the
lamp lines (R67, R73). -/
theorem State.tick_eq (s : State) : s.tick = { s with
    timer := s.timer + 1,
    face := { s.face with
      dwell := s.face.dwell.map fun d => if s.control.halt then d else { d with elapsed := d.elapsed + 1 },
      blink := Vector.ofFn fun i : Fin 12 => (s.slotLamp i.val).blinkNext s.face.blink[i] } } := by
  have hdwell : (s.blinkOn.setTimer (s.timer + 1)).face.dwell = s.face.dwell := rfl
  have hhalt : (s.blinkOn.setTimer (s.timer + 1)).control.halt = s.control.halt := rfl
  unfold State.tick
  simp only [hdwell, hhalt]
  cases hd : s.face.dwell with
  | none => simp [State.blinkOn, State.setTimer, State.setFace, hd]
  | some d => cases hh : s.control.halt <;> simp [State.blinkOn, State.setTimer, State.setFace, State.setDwell, hd]

/-- A FLASH line is on for the first 500 of every 1000 ms, a FAST line for the first 125 of every 250 ms (R67). -/
theorem Lamp.lineOn_iterate {n : Nat} (hn : 0 < n) (b : Nat) :
    Lamp.lineOn .flash (Nat.iterate (Lamp.blinkNext .flash) n b) = decide ((b + n) % 1000 < 500) ∧
      Lamp.lineOn .fast (Nat.iterate (Lamp.blinkNext .fast) n b) = decide ((b + n) % 250 < 125) := by
  obtain ⟨m, rfl⟩ := Nat.exists_eq_succ_of_ne_zero hn.ne'
  obtain ⟨hflash, hfast⟩ := Lamp.blinkNext_iterate m b
  rw [Nat.succ_eq_add_one, hflash, hfast]
  exact ⟨rfl, rfl⟩

/-- Settles O2: the idle step by its three cases, and the lamp lines by so many milliseconds of their own. -/
theorem stepWithoutACommand : Obligations.StepWithoutACommand := by
  intro s hpending
  rw [step_of_no_command hpending]
  refine ⟨State.idle_stopped, fun i => State.idle_due, fun hrun hdue => ?_, fun i => rfl,
    fun b n => ⟨rfl, rfl, fun hn => Lamp.lineOn_iterate hn b⟩⟩
  rw [State.idle_passes hrun hdue, State.tick_eq]

end Sys2Proof.Machine
end

section
/-! SUPPORT. What the work on tasks, pockets, lines, records and the dwell keeps, proved once for every relation between a
state and a later one that is closed under the few changes this work is made of; and two such relations: the book stays
(`State.SameBook`), and the open dwell keeps its course (`State.KeepsCourse`). -/

namespace Sys2Proof.Machine

/-! ### Relations that the work keeps -/

/-- A relation that no change of tasks, lines, pockets, reports, receiving records and due tasks leaves, nor the end of a
dwell in phase WORKING without a pending wrong event. -/
structure WorkClosed (R : State → State → Prop) : Prop where
  refl (s : State) : R s s
  trans {s t u : State} : R s t → R t u → R s u
  planner (s : State) (x : Planner) : R s (s.setPlanner x)
  contests (s : State) (x : ContestEngine) : R s (s.setContests x)
  lanes (s : State) (x : LaneTracker) : R s (s.setLanes x)
  control (s : State) (x : StationControl) : R s (s.setControl x)
  receiving (s : State) (x : List Receiving) : R s (s.setFace { s.face with receiving := x })
  due {s : State} {d : Dwell} (x : List Due) (h : s.face.dwell = some d) : R s (s.setDwell (some { d with due := x }))
  ended {s : State} {d : Dwell} (h : s.face.dwell = some d) (hp : d.phase = .working) (hw : d.wrong = []) :
    R s (s.setDwell none)

/-- The tasks of some slots made AT_FACE (R52). -/
def Task.atFaceOn (slots : List Nat) (t : Task) : Task := if t.slot ∈ slots then t.atFace else t

@[simp] theorem Task.atFaceOn_slot (slots : List Nat) (t : Task) : (t.atFaceOn slots).slot = t.slot := by
  unfold Task.atFaceOn; split <;> rfl

@[simp] theorem Task.atFaceOn_work (slots : List Nat) (t : Task) : (t.atFaceOn slots).work = t.work := by
  unfold Task.atFaceOn; split <;> rfl

/-- Tasks made AT_FACE one after the other. -/
theorem State.foldl_atFace (xs : List Task) (s : State) :
    xs.foldl (fun u x => u.updateTask x.slot Task.atFace) s =
      s.setPlanner { s.planner with queue := s.planner.queue.map (Task.atFaceOn (xs.map Task.slot)) } := by
  induction xs generalizing s with
  | nil =>
    have hnone : (fun t : Task => t.atFaceOn []) = id := funext fun t => by simp [Task.atFaceOn]
    simp [hnone, State.setPlanner]
  | cons x rest ih =>
    have hstep : ∀ t : Task, (if t.slot = x.slot then t.atFace else t).atFaceOn (rest.map Task.slot) =
        t.atFaceOn ((x :: rest).map Task.slot) := by
      intro t
      unfold Task.atFaceOn
      by_cases hx : t.slot = x.slot
      · by_cases hm : t.slot ∈ rest.map Task.slot <;> simp_all [Task.atFace]
      · simp [hx]
    rw [List.foldl_cons, ih]
    simp only [State.updateTask, State.setPlanner_planner, State.setPlanner_setPlanner, List.map_map, Function.comp_def,
      hstep]

/-- The ready tasks of the carrier that join an open dwell: AT_FACE, and at the end of the due tasks (R52). -/
theorem State.joinDue_open {s : State} {d : Dwell} (h : s.face.dwell = some d) :
    s.joinDue = (s.setPlanner { s.planner with
        queue := s.planner.queue.map (Task.atFaceOn ((s.joining d.carrier d.due).map Task.slot)) }).setDwell
      (some { d with due := d.due ++ (s.joining d.carrier d.due).map fun x => { slot := x.slot, lit := false } }) := by
  unfold State.joinDue
  rw [h]
  simp only [State.foldl_atFace]

/-- Asking for a due task changes the pockets alone, and of the due task whether it is lit. -/
theorem State.lightOne_parts (s : State) (d : Due) :
    (s.lightOne d).1 = s.setLanes (s.lightOne d).1.lanes ∧ (s.lightOne d).2.slot = d.slot := by
  unfold State.lightOne
  split
  · exact ⟨rfl, rfl⟩
  · split
    · exact ⟨rfl, rfl⟩
    · exact ⟨rfl, rfl⟩
    · split
      · exact ⟨rfl, rfl⟩
      · split <;> exact ⟨rfl, rfl⟩

/-- One due task more is asked for after the others. -/
theorem State.lightAll_append (s : State) (xs : List Due) (x : Due) :
    s.lightAll (xs ++ [x]) =
      (((s.lightAll xs).1.lightOne x).1, (s.lightAll xs).2 ++ [((s.lightAll xs).1.lightOne x).2]) := by
  simp [State.lightAll, List.foldl_append]

theorem State.lightAll_lanes (s : State) (due : List Due) : (s.lightAll due).1 = s.setLanes (s.lightAll due).1.lanes := by
  induction due using List.reverseRecOn with
  | nil => rfl
  | append_singleton xs x ih => rw [State.lightAll_append, (State.lightOne_parts _ x).1, ih]; rfl

/-- In phase WORKING the due tasks are asked for in turn (R66, R68). -/
theorem State.lightDue_working {s : State} {d : Dwell} (h : s.face.dwell = some d) (hp : d.phase = .working) :
    s.lightDue = (s.setLanes (s.lightAll d.due).1.lanes).setDwell (some { d with due := (s.lightAll d.due).2 }) := by
  unfold State.lightDue
  rw [h]
  simp only [if_pos hp]
  exact congrArg (fun u : State => u.setDwell (some { d with due := (s.lightAll d.due).2 })) (s.lightAll_lanes d.due)

namespace WorkClosed

variable {R : State → State → Prop} (hR : WorkClosed R)
include hR

theorem foldl {α : Type} {f : State → α → State} (hf : ∀ s x, R s (f s x)) (xs : List α) (s : State) :
    R s (xs.foldl f s) := by
  induction xs generalizing s with
  | nil => exact hR.refl s
  | cons x rest ih => exact hR.trans (hf s x) (ih _)

theorem writeReport (s : State) (b : ReportBody) : R s (s.writeReport b) := by
  unfold State.writeReport
  split
  · exact hR.control s _
  · exact hR.control s _

theorem reportShort (s : State) (id n : Nat) (c : ShortCause) (r : Option Receiving) : R s (s.reportShort id n c r) := by
  unfold State.reportShort
  split <;> exact hR.writeReport s _

theorem updateLine (s : State) (l : LineRef) (f : OrderLine → OrderLine) : R s (s.updateLine l f) := by
  unfold State.updateLine
  split
  · exact hR.refl s
  · split
    · exact hR.refl s
    · exact hR.lanes s _

theorem addRelinquish (s : State) (l : LineRef) (q : Nat) : R s (s.addRelinquish l q) := by
  refine hR.trans (hR.updateLine s l fun x => { x with ownClaim := x.ownClaim - q }) ?_
  unfold State.addRelinquish
  simp only
  split
  · exact hR.contests _ _
  · split
    · exact hR.contests _ _
    · exact hR.control _ _

theorem requestRestore (s : State) (p : Fin 2) : R s (s.requestRestore p) := by
  unfold State.requestRestore
  split
  · exact hR.refl s
  · split
    · exact hR.planner s _
    · exact hR.refl s

theorem dropTask (s : State) (slot : Nat) : R s (s.dropTask slot) := by
  unfold State.dropTask
  split
  · exact hR.trans (hR.planner s _) (hR.foldl hR.requestRestore _ _)
  · exact hR.refl s

theorem dropDue (s : State) (slot : Nat) : R s (s.dropDue slot) := by
  unfold State.dropDue
  split
  · exact hR.refl s
  · rename_i hd
    exact hR.due _ hd

theorem testCompletion (s : State) : R s s.testCompletion := by
  unfold State.testCompletion
  split
  · exact hR.refl s
  · rename_i hd
    split
    · rename_i hdone
      exact hR.ended hd hdone.1 hdone.2.2
    · exact hR.refl s

theorem freeAssigned (s : State) (slot : Nat) : R s (s.freeAssigned slot) := by
  unfold State.freeAssigned
  split
  · exact hR.refl s
  · exact hR.lanes s _

theorem removeTask (s : State) (slot : Nat) : R s (s.removeTask slot) :=
  hR.trans (hR.trans (hR.dropTask s slot) (hR.dropDue _ slot)) (hR.freeAssigned _ slot)

theorem failPick (s : State) (slot : Nat) (line : LineRef) : R s (s.failPick slot line) :=
  hR.trans (hR.trans (hR.removeTask s slot) (hR.addRelinquish _ line 1)) (hR.testCompletion _)

theorem moveTask (s : State) (old new : Nat) : R s (s.moveTask old new) := by
  have hupdate : ∀ f, R s (s.updateTask old f) := fun _ => hR.planner s _
  unfold State.moveTask
  split
  · exact hupdate _
  · rename_i d hd
    split
    · split
      · exact hR.trans (hupdate _) (hR.due (d := d) _ hd)
      · exact hR.trans (hR.trans (hupdate _) (hR.dropDue _ old)) (hR.testCompletion _)
    · exact hupdate _

theorem cancelRelocated (s : State) (r : Relocation) : R s (s.cancelRelocated r) :=
  hR.trans (hR.trans (hR.trans (hR.trans (hR.removeTask s r.slot) (hR.receiving _ _)) (hR.reportShort _ _ _ _ _))
    (hR.receiving _ _)) (hR.testCompletion _)

theorem refreshDwell (s : State) : R s s.refreshDwell := by
  have hjoin : R s s.joinDue := by
    cases hd : s.face.dwell with
    | none => simp only [State.joinDue, hd]; exact hR.refl s
    | some d => rw [State.joinDue_open hd]; exact hR.trans (hR.planner s _) (hR.due (d := d) _ hd)
  have hlight : ∀ t : State, R t t.lightDue := by
    intro t
    cases hd : t.face.dwell with
    | none => simp only [State.lightDue, hd]; exact hR.refl t
    | some d =>
      by_cases hp : d.phase = .working
      · rw [State.lightDue_working hd hp]; exact hR.trans (hR.lanes t _) (hR.due (d := d) _ hd)
      · simp only [State.lightDue, hd, if_neg hp]; exact hR.refl t
  exact hR.trans hjoin (hlight _)

end WorkClosed

/-- A relation that no write of a record and no LOAD task handed over leaves either. -/
structure StockClosed (R : State → State → Prop) : Prop extends WorkClosed R where
  store (s : State) (x : StockStore) : R s (s.setStore x)
  relocations (s : State) (x : List Relocation) : R s (s.setAudit { s.audit with relocations := x })

namespace StockClosed

variable {R : State → State → Prop} (hR : StockClosed R)
include hR

theorem handOn (s : State) (slot : Nat) (d : Option StockData) : R s (s.handOn slot d) := by
  unfold State.handOn
  split
  · exact hR.refl s
  · split
    · exact hR.failPick s slot _
    · exact hR.relocations s _
    · exact hR.refl s

theorem writeRecord (s : State) (slot : Nat) (r : SlotRecord) : R s (s.writeRecord slot r) := by
  unfold State.writeRecord
  split
  · exact hR.store s _
  · exact hR.refl s

theorem readSlot (s : State) (slot : Nat) : R s (s.readSlot slot).state := by
  unfold State.readSlot
  simp only
  split_ifs
  · exact hR.refl s
  · exact hR.trans (hR.writeRecord s slot _) (hR.store _ _)
  · exact hR.trans (hR.trans (hR.writeRecord s slot _) (hR.writeReport _ _)) (hR.handOn _ slot none)

theorem request (s : State) (slot : Nat) (a : SlotRecord → Bool) (n : SlotRecord → SlotRecord) :
    R s (s.request slot a n).state := by
  have hwritten := hR.trans (hR.readSlot s slot) (hR.writeRecord _ slot (n (s.readSlot slot).record))
  unfold State.request
  simp only
  split
  · split
    · exact hR.trans hwritten (hR.handOn _ slot _)
    · exact hwritten
  · exact hR.readSlot s slot

theorem readTable (s : State) : R s s.readTable := hR.foldl hR.readSlot _ s

theorem placeTask (s : State) (r : Relocation) (d : StockData) : R s (s.placeTask r d) := by
  unfold State.placeTask
  split
  · exact hR.cancelRelocated s r
  · simp only
    split
    · exact hR.trans (hR.request s _ _ _) (hR.moveTask _ _ _)
    · exact hR.trans (hR.request s _ _ _) (hR.cancelRelocated _ r)

theorem relocateOne (s : State) (r : Relocation) : R s (s.relocateOne r) := by
  unfold State.relocateOne
  split
  · exact hR.refl s
  · split
    · refine hR.trans (hR.readTable s) ?_
      simp only
      split
      · exact hR.cancelRelocated _ r
      · exact hR.placeTask _ r _
    · exact hR.refl s

theorem relocateAll (s : State) : R s s.relocateAll := by
  have hup : ∀ (fuel : Nat) (t : State), R t (t.relocateUpTo fuel) := by
    intro fuel
    induction fuel with
    | zero => exact hR.refl
    | succ fuel ih =>
      intro t
      unfold State.relocateUpTo
      split
      · exact hR.refl t
      · exact hR.trans (hR.trans (hR.relocations t _) (hR.relocateOne _ _)) (ih _)
  exact hup 1024 s

theorem considerRounds (s : State) : R s s.considerRounds := by
  have hlist : ∀ rounds, R s (s.considerList rounds) := by
    intro rounds
    induction rounds with
    | nil => exact hR.contests s _
    | cons o rest ih =>
      unfold State.considerList
      split
      · exact hR.trans (hR.trans (hR.trans (hR.contests s _) (hR.readTable _)) (hR.contests _ _)) (hR.relocateAll _)
      · exact ih
  unfold State.considerRounds
  split
  · exact hlist _
  · exact hR.refl s

theorem faced (s : State) : R s s.faced :=
  hR.trans (hR.trans (hR.trans (hR.relocateAll s) (hR.considerRounds _)) (hR.refreshDwell _)) (hR.testCompletion _)

end StockClosed

/-! ### The book stays -/

/-- The retained store and the LOAD tasks handed over are the same. -/
structure State.SameBook (s t : State) : Prop where
  store : t.store = s.store
  relocations : t.audit.relocations = s.audit.relocations

/-- Work on tasks alone leaves the book. -/
theorem State.sameBook_closed : WorkClosed State.SameBook where
  refl _ := ⟨rfl, rfl⟩
  trans h g := ⟨g.store.trans h.store, g.relocations.trans h.relocations⟩
  planner _ _ := ⟨rfl, rfl⟩
  contests _ _ := ⟨rfl, rfl⟩
  lanes _ _ := ⟨rfl, rfl⟩
  control _ _ := ⟨rfl, rfl⟩
  receiving _ _ := ⟨rfl, rfl⟩
  due _ _ := ⟨rfl, rfl⟩
  ended _ _ _ := ⟨rfl, rfl⟩

/-! ### The open dwell keeps its course -/

/-- A dwell with the carrier, the phase, the wrong events, the elapsed time and the settle scan of another. -/
def Dwell.continues (d e : Dwell) : Prop := e = { d with due := e.due }

/-- The presence image stays; a dwell found open afterwards is the one open before, but for its due tasks; and one that
still scans stays open. -/
structure State.KeepsCourse (s t : State) : Prop where
  image : t.face.image = s.face.image
  dwell {e : Dwell} : t.face.dwell = some e → ∃ d, s.face.dwell = some d ∧ d.continues e
  scanning {d : Dwell} : s.face.dwell = some d → d.phase = .scanning → ∃ e, t.face.dwell = some e ∧ d.continues e

theorem Dwell.continues.trans {d e f : Dwell} (h : d.continues e) (g : e.continues f) : d.continues f := by
  unfold Dwell.continues at *
  rw [g, h]

/-- What leaves the image and the dwell alone keeps the course. -/
theorem State.KeepsCourse.of_same {s t : State} (hi : t.face.image = s.face.image) (hd : t.face.dwell = s.face.dwell) :
    s.KeepsCourse t :=
  ⟨hi, fun {e} he => ⟨e, hd ▸ he, rfl⟩, fun {d} h _ => ⟨d, hd.trans h, rfl⟩⟩

theorem State.keepsCourse_closed : StockClosed State.KeepsCourse where
  refl _ := .of_same rfl rfl
  trans {s t u} h g := by
    refine ⟨g.image.trans h.image, fun he => ?_, fun hd hp => ?_⟩
    · obtain ⟨e, he, hf⟩ := g.dwell he
      obtain ⟨d, hd, hde⟩ := h.dwell he
      exact ⟨d, hd, hde.trans hf⟩
    · obtain ⟨e, he, hde⟩ := h.scanning hd hp
      obtain ⟨f, hf, hef⟩ := g.scanning he (by rw [hde]; exact hp)
      exact ⟨f, hf, hde.trans hef⟩
  planner _ _ := .of_same rfl rfl
  contests _ _ := .of_same rfl rfl
  lanes _ _ := .of_same rfl rfl
  control _ _ := .of_same rfl rfl
  receiving _ _ := .of_same rfl rfl
  due x h := by
    refine ⟨rfl, fun he => ⟨_, h, ?_⟩, fun hd _ => ⟨_, rfl, ?_⟩⟩
    · cases he
      rfl
    · obtain rfl := Option.some.inj (h.symm.trans hd)
      rfl
  ended h hp _ := by
    refine ⟨rfl, fun he => absurd he (by simp [State.setDwell]), fun hd hs => ?_⟩
    obtain rfl := Option.some.inj (h.symm.trans hd)
    exact absurd (hp.symm.trans hs) (by simp)
  store _ _ := .of_same rfl rfl
  relocations _ _ := .of_same rfl rfl

end Sys2Proof.Machine
end

section
/-! SUPPORT. The parts of a settle scan's work (R142): the comparison (R143, R144) and the relocations (R148, R149) on records
that read intact, the weight check (R150, R151), and what the tally of a scan may change. -/

namespace Sys2Proof.Machine

/-! ### Records that read intact -/

/-- Every record reads intact, and the table is in its canonical form (R9, log 32). -/
structure State.Sound (s : State) : Prop where
  intact : s.intact
  table : s.tableOk = true

theorem State.Sound.of_store {s t : State} (h : s.Sound) (ht : t.store = s.store) : t.Sound :=
  ⟨by unfold State.intact; rw [ht]; exact h.intact, by unfold State.tableOk; rw [ht]; exact h.table⟩

/-- A read of an intact record gives it and changes nothing (R9). -/
theorem State.readSlot_intact {s : State} (h : s.intact) (slot : Nat) :
    s.readSlot slot = { record := s.recordAt slot, state := s, converted := false } := by
  simp [State.readSlot, h slot, State.recordAt]

/-- A request on an intact record: one write where it applies, and the slot passed on where it becomes SUSPECT (R5, R6). -/
theorem State.request_intact {s : State} (h : s.intact) (slot : Nat) (applies : SlotRecord → Bool)
    (new : SlotRecord → SlotRecord) :
    (s.request slot applies new).state =
      if applies (s.recordAt slot) then
        (if (new (s.recordAt slot)).state = .suspect ∧ (s.recordAt slot).state.passedOn then
          (s.writeRecord slot (new (s.recordAt slot))).handOn slot (s.recordAt slot).stock
        else s.writeRecord slot (new (s.recordAt slot)))
      else s := by
  unfold State.request
  rw [State.readSlot_intact h]
  simp only
  split <;> rfl

/-- A write leaves the other records. -/
theorem State.recordAt_writeRecord_other {s : State} {slot n : Nat} (r : SlotRecord) (h : n ≠ slot) :
    (s.writeRecord slot r).recordAt n = s.recordAt n := by
  unfold State.writeRecord State.recordAt
  split
  · exact congrArg Cell.record (Memory.get_set_other _ _ _ _ h)
  · rfl

theorem State.Sound.writeRecord {s : State} (h : s.Sound) (slot : Nat) (r : SlotRecord) : (s.writeRecord slot r).Sound := by
  refine ⟨fun n => ?_, s.writeRecord_wf slot r h.table⟩
  unfold State.writeRecord
  split
  · by_cases hn : n = slot
    · subst hn
      exact congrArg Cell.flipped (Memory.get_set_self _ 0 _ _ h.table)
    · exact (congrArg Cell.flipped (Memory.get_set_other _ _ _ _ hn)).trans (h.intact n)
  · exact h.intact n

/-- A slot passed on leaves the store, and hands over at most one LOAD task (R6). -/
theorem State.handOn_book (s : State) (slot : Nat) (d : Option StockData) :
    (s.handOn slot d).store = s.store ∧
      (s.handOn slot d).audit.relocations.length ≤ s.audit.relocations.length + 1 := by
  unfold State.handOn
  split
  · exact ⟨rfl, Nat.le_succ _⟩
  · split
    · obtain ⟨hstore, hrelocations⟩ := State.sameBook_closed.failPick s slot (by assumption)
      exact ⟨hstore, by rw [hrelocations]; exact Nat.le_succ _⟩
    · exact ⟨rfl, by simp⟩
    · exact ⟨rfl, Nat.le_succ _⟩

/-- A record is that of the store alone. -/
theorem State.recordAt_of_store {s t : State} (h : t.store = s.store) (n : Nat) : t.recordAt n = s.recordAt n := by
  unfold State.recordAt
  rw [h]

/-- A request where every record reads intact: no other record changes, and at most one LOAD task is handed over. -/
theorem State.Sound.request {s : State} (h : s.Sound) (slot : Nat) (applies : SlotRecord → Bool)
    (new : SlotRecord → SlotRecord) :
    (s.request slot applies new).state.Sound ∧
      (∀ n, n ≠ slot → (s.request slot applies new).state.recordAt n = s.recordAt n) ∧
      (s.request slot applies new).state.audit.relocations.length ≤ s.audit.relocations.length + 1 := by
  have hwrite := h.writeRecord slot (new (s.recordAt slot))
  have haudit : (s.writeRecord slot (new (s.recordAt slot))).audit = s.audit := by
    unfold State.writeRecord; split <;> rfl
  obtain ⟨hstore, hhanded⟩ := State.handOn_book (s.writeRecord slot (new (s.recordAt slot))) slot (s.recordAt slot).stock
  rw [State.request_intact h.intact]
  split
  · split
    · exact ⟨hwrite.of_store hstore,
        fun n hn => (State.recordAt_of_store hstore n).trans (State.recordAt_writeRecord_other _ hn),
        by rwa [haudit] at hhanded⟩
    · exact ⟨hwrite, fun n hn => State.recordAt_writeRecord_other _ hn, by rw [haudit]; exact Nat.le_succ _⟩
  · exact ⟨h, fun _ _ => rfl, Nat.le_succ _⟩

/-! ### The comparison (R143, R144) -/

/-- What every read, request and report keeps, the comparison of a list of slots keeps. -/
theorem Comparison.slots_keeps {P : State → Prop} (hread : ∀ s n, P s → P (s.readSlot n).state)
    (hrequest : ∀ s n a f, P s → P (s.request n a f).state) (hreport : ∀ s b, P s → P (s.writeReport b))
    {c : Comparison} (h : P c.state) (slot : Nat) (image : List Bool) : P (c.slots slot image).state := by
  have hslot : ∀ {c : Comparison} (slot : Nat) (present : Bool), P c.state → P (c.slot slot present).state := by
    intro c slot present hc
    have hr := hread _ slot hc
    unfold Comparison.slot
    simp only
    split
    · exact hr
    · split
      · exact hrequest _ _ _ _ hr
      · exact hreport _ _ (hrequest _ _ _ _ hr)
  induction image generalizing c slot with
  | nil => exact h
  | cons present rest ih => exact ih (hslot slot present h) (slot + 1)

/-- What the comparison of some slots, each with its value, does to records that read intact. -/
structure Comparison.Compares (c e : Comparison) (slots : List (Nat × Bool)) : Prop where
  sound : e.state.Sound
  others {n : Nat} : n ∉ slots.map Prod.fst → e.state.recordAt n = c.state.recordAt n
  handed : e.state.audit.relocations.length ≤ c.state.audit.relocations.length + slots.length
  found : e.found = c.found +
    (slots.filter fun x => ((findingOf (c.state.recordAt x.1) x.2).bind Finding.kind).isSome).length
  unknown : e.unknown = (c.unknown || (slots.map fun x => c.state.recordAt x.1).any SlotRecord.unweighedBefore)

/-- The comparison of one slot, on a record that reads intact. -/
theorem Comparison.slot_compares {c : Comparison} (h : c.state.Sound) (slot : Nat) (present : Bool) :
    c.Compares (c.slot slot present) [(slot, present)] := by
  have hread := State.readSlot_intact h.intact slot
  cases hf : findingOf (c.state.recordAt slot) present with
  | none =>
    have hslot : c.slot slot present =
        { c with unknown := c.unknown || (c.state.recordAt slot).unweighedBefore } := by
      simp [Comparison.slot, hread, hf]
    rw [hslot]
    exact ⟨h, fun _ => rfl, Nat.le_succ _, by simp [hf], by simp⟩
  | some f =>
    obtain ⟨hsound, hothers, hhanded⟩ :=
      h.request slot (fun x => decide (x = c.state.recordAt slot)) fun _ => f.new
    cases hk : f.kind with
    | none =>
      simp only [Comparison.slot, hread, hf, hk]
      exact ⟨hsound, fun hn => hothers _ (by simpa using hn), hhanded, by simp [hf, hk], by simp⟩
    | some k =>
      simp only [Comparison.slot, hread, hf, hk]
      obtain ⟨hstore, hrelocations⟩ := State.sameBook_closed.writeReport
        (c.state.request slot (fun x => decide (x = c.state.recordAt slot)) fun _ => f.new).state (.discrepancy k
          (.slot slot) (c.state.recordAt slot).book (c.state.request slot (fun x => decide (x = c.state.recordAt slot))
            fun _ => f.new).applied none none)
      exact ⟨hsound.of_store hstore,
        fun hn => (State.recordAt_of_store hstore _).trans (hothers _ (by simpa using hn)),
        by rw [hrelocations]; exact hhanded, by simp [hf, hk], by simp⟩

/-- One slot is compared, and then others. -/
theorem Comparison.Compares.cons {c e f : Comparison} {x : Nat × Bool} {slots : List (Nat × Bool)}
    (h : c.Compares e [x]) (g : e.Compares f slots) (hx : x.1 ∉ slots.map Prod.fst) : c.Compares f (x :: slots) := by
  have hsame : ∀ y ∈ slots, e.state.recordAt y.1 = c.state.recordAt y.1 := fun y hy =>
    h.others fun hmem => hx (List.mem_singleton.1 hmem ▸ List.mem_map_of_mem hy)
  have hfound := List.filter_congr fun y hy =>
    congrArg (fun r => ((findingOf r y.2).bind Finding.kind).isSome) (hsame y hy)
  refine ⟨g.sound, fun hn => ?_, ?_, ?_, ?_⟩
  · rw [List.map_cons, List.mem_cons, not_or] at hn
    exact (g.others hn.2).trans (h.others (by simpa using hn.1))
  · have := g.handed
    have := h.handed
    simp only [List.length_cons, List.length_nil] at *
    omega
  · rw [g.found, h.found, hfound, Nat.add_assoc, ← List.length_append, ← List.filter_append]
    rfl
  · rw [g.unknown, h.unknown, List.map_congr_left hsame]
    simp [Bool.or_assoc]

/-- The comparison of the slots of a carrier, where every record reads intact. -/
theorem Comparison.slots_compares {c : Comparison} (h : c.state.Sound) (slot : Nat) (image : List Bool) :
    c.Compares (c.slots slot image) ((List.range' slot image.length).zip image) := by
  induction image generalizing c slot with
  | nil => exact ⟨h, fun _ => rfl, Nat.le_refl _, rfl, by simp [Comparison.slots]⟩
  | cons present rest ih =>
    have hone := Comparison.slot_compares h slot present
    refine hone.cons (ih hone.sound (slot + 1)) ?_
    intro hmem
    obtain ⟨y, hy, hslot⟩ := List.mem_map.1 hmem
    have hrange := List.mem_range'.1 (List.of_mem_zip hy).1
    omega

/-- Where no slot has a finding, the comparison leaves the state as it is. -/
theorem Comparison.slots_agree {c : Comparison} (h : c.state.intact) (slot : Nat) (image : List Bool)
    (hnone : ∀ x ∈ (List.range' slot image.length).zip image, findingOf (c.state.recordAt x.1) x.2 = none) :
    (c.slots slot image).state = c.state := by
  induction image generalizing c slot with
  | nil => rfl
  | cons present rest ih =>
    have hslot : (c.slot slot present).state = c.state := by
      simp [Comparison.slot, State.readSlot_intact h, hnone (slot, present) (List.mem_cons_self ..)]
    refine (ih (slot := slot + 1) (c := c.slot slot present) (by rwa [hslot]) fun x hx => ?_).trans hslot
    rw [hslot]
    exact hnone x (List.mem_cons_of_mem _ hx)

/-! ### The relocations (R148, R149) -/

/-- A LOAD task relocated where every record reads intact: nothing else is handed over. -/
theorem State.Sound.relocateOne {s : State} (h : s.Sound) (r : Relocation) :
    (s.relocateOne r).Sound ∧ (s.relocateOne r).audit.relocations = s.audit.relocations := by
  have hwork : ∀ {t u : State}, t.Sound → t.SameBook u → u.Sound ∧ u.audit.relocations = t.audit.relocations :=
    fun ht hu => ⟨ht.of_store hu.store, hu.relocations⟩
  have hplace : ∀ d, (s.placeTask r d).Sound ∧ (s.placeTask r d).audit.relocations = s.audit.relocations := by
    intro d
    unfold State.placeTask
    split
    · exact hwork h (State.sameBook_closed.cancelRelocated s r)
    · rename_i slot _
      obtain ⟨hsound, hhanded⟩ :
          (s.request slot (inStates [.empty]) fun _ => .reserved r.inboundId d).state.Sound ∧
            (s.request slot (inStates [.empty]) fun _ => .reserved r.inboundId d).state.audit.relocations =
              s.audit.relocations := by
        refine ⟨(h.request slot _ _).1, ?_⟩
        rw [State.request_intact h.intact]
        split
        · rw [if_neg (by simp [SlotRecord.reserved])]
          unfold State.writeRecord
          split <;> rfl
        · rfl
      simp only
      split
      · obtain ⟨hs, hr⟩ := hwork hsound (State.sameBook_closed.moveTask _ r.slot slot)
        exact ⟨hs, hr.trans hhanded⟩
      · obtain ⟨hs, hr⟩ := hwork hsound (State.sameBook_closed.cancelRelocated _ r)
        exact ⟨hs, hr.trans hhanded⟩
  unfold State.relocateOne
  split
  · exact ⟨h, rfl⟩
  · split
    · rw [State.readTable_intact h.intact]
      simp only
      split
      · exact hwork h (State.sameBook_closed.cancelRelocated s r)
      · exact hplace _
    · exact ⟨h, rfl⟩

/-- Where every record reads intact, every LOAD task handed over is relocated. -/
theorem State.Sound.relocateAll {s : State} (h : s.Sound) (hroom : s.audit.relocations.length ≤ 1024) :
    s.relocateAll.audit.relocations = [] := by
  have hup : ∀ (fuel : Nat) (t : State), t.Sound → t.audit.relocations.length ≤ fuel →
      (t.relocateUpTo fuel).audit.relocations = [] := by
    intro fuel
    induction fuel with
    | zero => exact fun t _ hlen => List.length_eq_zero_iff.1 (Nat.le_zero.1 hlen)
    | succ fuel ih =>
      intro t ht hlen
      unfold State.relocateUpTo
      split
      · assumption
      · rename_i r rest hr
        obtain ⟨hsound, hsame⟩ := State.Sound.relocateOne
          (s := t.setAudit { t.audit with relocations := rest }) (ht.of_store rfl) r
        rw [hr] at hlen
        exact ih _ hsound (by rw [hsame]; exact Nat.le_of_succ_le_succ hlen)
  exact hup 1024 s h hroom

/-! ### The weight check (R150, R151) -/

/-- Whether a slot of the scan's carrier was unknown before the comparison, or is after the relocations (R151). -/
def State.unweighed (s : State) (scan : Scan) (unknown : Bool) : Bool :=
  unknown || (s.values.slotsOf scan.carrier).any fun n => (s.recordAt n).unweighedAfter

/-- Whether the reading lies further from the expected weight than the tolerance (R151). -/
def State.offWeight (s : State) (scan : Scan) : Bool :=
  decide (scan.reading + s.values.weightTolerance < s.expectedWeight scan.carrier) ||
    decide (s.expectedWeight scan.carrier + s.values.weightTolerance < scan.reading)

theorem State.offWeight_iff {s : State} {scan : Scan} : s.offWeight scan = true ↔
    s.values.weightTolerance < weightGap scan.reading (s.expectedWeight scan.carrier) := by
  simp only [State.offWeight, weightGap, Bool.or_eq_true, decide_eq_true_eq]
  omega

/-- The mark the weight check sets (R151). -/
def State.weightMark (s : State) (scan : Scan) (unknown : Bool) : WeightMark :=
  if s.unweighed scan unknown || decide (scan.reading = 65535) then .notChecked
  else if s.offWeight scan then .mismatch else .ok

/-- The discrepancy records the weight check makes (R151). -/
def State.weightRecords (s : State) (scan : Scan) (unknown : Bool) : Nat :=
  if s.unweighed scan unknown || !(s.offWeight scan || decide (scan.reading = 65535)) then 0 else 1

/-- What such a record says (R151). -/
def State.weightReport (s : State) (scan : Scan) : ReportBody :=
  .discrepancy .weight (.carrier scan.carrier) .absent false
    (if scan.reading = 65535 then none else some scan.reading) (some (s.expectedWeight scan.carrier))

/-- The weight check: its mark, and its record where it makes one. -/
theorem State.weigh_eq (s : State) (scan : Scan) (unknown : Bool) :
    s.weigh scan unknown =
      (if s.weightRecords scan unknown = 1 then
        (s.setMark scan.carrier (s.weightMark scan unknown)).writeReport (s.weightReport scan)
      else s.setMark scan.carrier (s.weightMark scan unknown), s.weightRecords scan unknown) := by
  have hunweighed : (unknown || (s.values.slotsOf scan.carrier).any fun n => (s.recordAt n).unweighedAfter) =
      s.unweighed scan unknown := rfl
  unfold State.weigh State.weightRecords State.weightMark State.weightReport
  simp only [hunweighed, ← State.offWeight_iff, noReading]
  cases s.unweighed scan unknown <;> by_cases hr : scan.reading = 65535 <;> cases s.offWeight scan <;> simp [hr]

/-! ### The report log (R175) -/

/-- A record that a log with room left has: it was written, and has not been dropped. -/
theorem State.mem_writeReport {s : State} {b : ReportBody} (h : (s.writeReport b).control.log.length < 16) :
    { body := b, week := s.control.week, timer := s.timer : Report } ∈ (s.writeReport b).control.log := by
  unfold State.writeReport at h ⊢
  split
  · simp
  · rename_i hfull
    rw [if_neg hfull] at h
    exact absurd h hfull

theorem State.writeReport_audit (s : State) (b : ReportBody) : (s.writeReport b).audit = s.audit := by
  unfold State.writeReport; split <;> rfl

/-! ### The tally (R49, R153, R154) -/

/-- A state that differs from another in the sweep, its counters, the marks, the report log with its lost count and the
task-stop run alone, and whose log has only grown. -/
structure State.Tallies (s t : State) : Prop where
  same : t = { s with
    audit := { s.audit with
      sweep := t.audit.sweep, scanned := t.audit.scanned, found := t.audit.found, marks := t.audit.marks },
    control := { s.control with log := t.control.log, lost := t.control.lost },
    planner := { s.planner with stopRun := t.planner.stopRun } }
  log : s.control.log <+: t.control.log

theorem State.Tallies.trans {s t u : State} (h : s.Tallies t) (g : t.Tallies u) : s.Tallies u := by
  refine ⟨?_, h.log.trans g.log⟩
  have hg := g.same
  rw [h.same] at hg
  exact hg

section
variable {s t : State} (h : s.Tallies t)
include h
theorem State.Tallies.store : t.store = s.store := by rw [h.same]
theorem State.Tallies.face : t.face = s.face := by rw [h.same]
theorem State.Tallies.lanes : t.lanes = s.lanes := by rw [h.same]
theorem State.Tallies.contests : t.contests = s.contests := by rw [h.same]
theorem State.Tallies.queue : t.planner.queue = s.planner.queue := by rw [h.same]
theorem State.Tallies.relocations : t.audit.relocations = s.audit.relocations := by rw [h.same]
end

theorem State.writeReport_tallies (s : State) (b : ReportBody) : s.Tallies (s.writeReport b) := by
  unfold State.writeReport
  split
  · exact ⟨rfl, List.prefix_append _ _⟩
  · exact ⟨rfl, List.prefix_rfl⟩

theorem State.Tallies.kept {s t : State} (h : s.Tallies t) : t.kept = { s.kept with
    sweep := t.audit.sweep, scanned := t.audit.scanned, found := t.audit.found, marks := t.audit.marks,
    stopRun := t.planner.stopRun } := by
  rw [h.same]
  rfl

theorem State.weigh_tallies (s : State) (scan : Scan) (unknown : Bool) : s.Tallies (s.weigh scan unknown).1 := by
  have hmark : ∀ m, s.Tallies (s.setMark scan.carrier m) := fun _ => ⟨rfl, List.prefix_rfl⟩
  rw [State.weigh_eq]
  simp only
  split
  · exact (hmark _).trans (State.writeReport_tallies _ _)
  · exact hmark _

theorem State.sweepOff_tallies (s : State) (carrier found : Nat) : s.Tallies (s.sweepOff carrier found) := by
  have haudit : ∀ sweep scanned total, s.Tallies
      (s.setAudit { s.audit with sweep := sweep, scanned := scanned, found := total }) :=
    fun _ _ _ => ⟨rfl, List.prefix_rfl⟩
  unfold State.sweepOff
  simp only
  split
  · exact (haudit _ _ _).trans (State.writeReport_tallies _ _)
  · exact haudit _ _ _

/-- What the weight check does to the audit's own counts: it sets a mark. -/
theorem State.weigh_audit (s : State) (scan : Scan) (unknown : Bool) :
    (s.weigh scan unknown).1.audit =
      { s.audit with marks := s.audit.marks.setIfInBounds scan.carrier (s.weightMark scan unknown) } := by
  rw [State.weigh_eq]
  simp only
  split
  · rw [State.writeReport_audit]; rfl
  · rfl

end Sys2Proof.Machine
end

section
/-! SUPPORT. The tally of a settle scan, which is all its work but for the answer to the face: what it does to the mark of the
carrier (R151), the sweep and its counters (R153, R154), the task-stop run (R49) and the report log. -/

namespace Sys2Proof.Machine

/-! ### The sweep (R153, R154) -/

/-- What a carrier swept off does to the audit: the sweep set loses it, and the counters count it or start again. -/
theorem State.sweepOff_audit (s : State) (carrier found : Nat) :
    let sweep := s.audit.sweep.filter fun c => decide (c ≠ carrier)
    (s.sweepOff carrier found).audit = { s.audit with
      sweep := sweep, scanned := if sweep = [] then 0 else min 255 (s.audit.scanned + 1),
      found := if sweep = [] then 0 else min 255 (s.audit.found + found) } := by
  intro sweep
  unfold State.sweepOff
  simp only
  by_cases he : sweep = []
  · rw [if_pos he, State.writeReport_audit, if_pos he, if_pos he, he]
    rfl
  · rw [if_neg he, if_neg he, if_neg he]
    rfl

/-- When the sweep set becomes empty both counters go out in an AUDIT_DONE (R154). -/
theorem State.sweepOff_done {s : State} {carrier found : Nat}
    (he : (s.audit.sweep.filter fun c => decide (c ≠ carrier)) = [])
    (hroom : (s.sweepOff carrier found).control.log.length < 16) :
    { body := .auditDone (min 255 (s.audit.scanned + 1)) (min 255 (s.audit.found + found)), week := s.control.week,
      timer := s.timer : Report } ∈ (s.sweepOff carrier found).control.log := by
  unfold State.sweepOff at hroom ⊢
  simp only [if_pos he] at hroom ⊢
  exact State.mem_writeReport hroom

/-! ### The tally -/

/-- The comparison of a settle scan (R142, step 1). -/
def State.compared (s : State) (scan : Scan) : Comparison :=
  Comparison.slots { state := s, found := 0, unknown := false } (scan.carrier * s.values.slotsPerCarrier) scan.image

/-- A settle scan compared, and the LOAD tasks that this hands over relocated (R142, steps 1 and 2). -/
def State.relocatedFor (s : State) (scan : Scan) : State := (s.compared scan).state.relocateAll

/-- The weight mark of a settle scan. -/
def State.markFor (s : State) (scan : Scan) : WeightMark :=
  (s.relocatedFor scan).weightMark scan (s.compared scan).unknown

/-- The discrepancy records a settle scan makes. -/
def State.recordsFor (s : State) (scan : Scan) : Nat :=
  (s.compared scan).found + (s.relocatedFor scan).weightRecords scan (s.compared scan).unknown

/-- A settle scan compared, relocated and weighed (R142, steps 1 to 3). -/
def State.weighedFor (s : State) (scan : Scan) : State :=
  ((s.relocatedFor scan).weigh scan (s.compared scan).unknown).1

/-- A settle scan worked but for the answer to the face: weighed, swept and counted (R49, R151, R153, R154). -/
def State.tallied (s : State) (scan : Scan) : State :=
  if scan.carrier ∈ s.audit.sweep then
    ((s.weighedFor scan).sweepOff scan.carrier (s.recordsFor scan)).countStop true scan.hadDue
  else (s.weighedFor scan).countStop false scan.hadDue

/-- The comparison and the relocations keep the kept part. -/
theorem State.relocatedFor_kept (s : State) (scan : Scan) : (s.relocatedFor scan).kept = s.kept := by
  unfold State.relocatedFor
  rw [State.relocateAll_kept]
  exact Comparison.slots_keeps (P := fun t => t.kept = s.kept) (fun t n h => (t.readSlot_kept n).trans h)
    (fun t n a f h => (t.request_kept n a f).trans h) (fun t b h => (t.writeReport_kept b).trans h) rfl _ _

theorem State.relocatedFor_outer (s : State) (scan : Scan) : (s.relocatedFor scan).outer = s.outer := by
  unfold State.relocatedFor
  rw [State.relocateAll_outer]
  exact Comparison.slots_keeps (P := fun t => t.outer = s.outer) (fun t n h => (t.readSlot_outer n).trans h)
    (fun t n a f h => (t.request_outer n a f).trans h) (fun t b h => (t.writeReport_outer b).trans h) rfl _ _

theorem State.relocatedFor_course (s : State) (scan : Scan) : s.KeepsCourse (s.relocatedFor scan) := by
  have hR := State.keepsCourse_closed
  refine hR.trans ?_ (hR.relocateAll _)
  exact Comparison.slots_keeps (P := s.KeepsCourse) (fun t n h => hR.trans h (hR.readSlot t n))
    (fun t n a f h => hR.trans h (hR.request t n a f)) (fun t b h => hR.trans h (hR.writeReport t b)) (hR.refl s) _ _

theorem State.weighedFor_kept (s : State) (scan : Scan) :
    (s.weighedFor scan).kept = { s.kept with marks := (s.weighedFor scan).audit.marks } := by
  have hmark : ∀ (t : State) c m, (t.setMark c m).kept = { t.kept with marks := (t.setMark c m).audit.marks } :=
    fun _ _ _ => rfl
  have hweigh : (s.weighedFor scan).kept =
      { (s.relocatedFor scan).kept with marks := (s.weighedFor scan).audit.marks } := by
    unfold State.weighedFor
    rw [State.weigh_eq]
    simp only
    split
    · rw [State.writeReport_kept, State.writeReport_audit, hmark]
    · exact hmark _ _ _
  rw [hweigh, State.relocatedFor_kept]

/-- The audit of a settle scan is its tally, and then the answer to the face (R142). -/
theorem State.auditScan_eq (s : State) (scan : Scan) : s.auditScan scan = (s.tallied scan).answerFace scan := by
  have hsweep : (s.weighedFor scan).audit.sweep = s.audit.sweep := congrArg Kept.sweep (s.weighedFor_kept scan)
  have hrecords : (s.compared scan).found + ((s.relocatedFor scan).weigh scan (s.compared scan).unknown).2 =
      s.recordsFor scan := by
    rw [State.weigh_eq]; rfl
  have htally : s.auditScan scan =
      ((if (s.weighedFor scan).audit.sweep.contains scan.carrier then
          (s.weighedFor scan).sweepOff scan.carrier
            ((s.compared scan).found + ((s.relocatedFor scan).weigh scan (s.compared scan).unknown).2)
        else s.weighedFor scan).countStop ((s.weighedFor scan).audit.sweep.contains scan.carrier)
          scan.hadDue).answerFace scan := rfl
  rw [htally, hsweep, hrecords]
  unfold State.tallied
  by_cases h : scan.carrier ∈ s.audit.sweep <;> simp [h]

theorem State.weighedFor_tallies (s : State) (scan : Scan) : (s.weighedFor scan).Tallies (s.tallied scan) := by
  have hcount : ∀ (t : State) swept, t.Tallies (t.countStop swept scan.hadDue) := fun _ _ => ⟨rfl, List.prefix_rfl⟩
  unfold State.tallied
  split
  · exact (State.sweepOff_tallies _ _ _).trans (hcount _ _)
  · exact hcount _ _

theorem State.tallied_tallies (s : State) (scan : Scan) : (s.relocatedFor scan).Tallies (s.tallied scan) :=
  ((s.relocatedFor scan).weigh_tallies scan _).trans (s.weighedFor_tallies scan)

/-- The scan marks its carrier (R151). -/
theorem State.tallied_marks (s : State) (scan : Scan) :
    (s.tallied scan).audit.marks = s.audit.marks.setIfInBounds scan.carrier (s.markFor scan) := by
  have hmarks : (s.relocatedFor scan).audit.marks = s.audit.marks := congrArg Kept.marks (s.relocatedFor_kept scan)
  have hweigh : (s.weighedFor scan).audit.marks = s.audit.marks.setIfInBounds scan.carrier (s.markFor scan) := by
    rw [← hmarks]
    exact congrArg AuditUnit.marks ((s.relocatedFor scan).weigh_audit scan _)
  unfold State.tallied
  split
  · exact (congrArg AuditUnit.marks (State.sweepOff_audit _ _ _)).trans hweigh
  · exact hweigh

/-- The sweep and the task-stop run after a carrier of the sweep set (R49, R153, R154). -/
theorem State.tallied_sweep {s : State} {scan : Scan} (h : scan.carrier ∈ s.audit.sweep) :
    let sweep := s.audit.sweep.filter fun c => decide (c ≠ scan.carrier)
    (s.tallied scan).audit.sweep = sweep ∧ (s.tallied scan).planner.stopRun = 0 ∧
      (s.tallied scan).audit.scanned = (if sweep = [] then 0 else min 255 (s.audit.scanned + 1)) ∧
      (s.tallied scan).audit.found = (if sweep = [] then 0 else min 255 (s.audit.found + s.recordsFor scan)) := by
  have hkept := s.weighedFor_kept scan
  have hsweep : (s.weighedFor scan).audit.sweep = s.audit.sweep := congrArg Kept.sweep hkept
  have hscanned : (s.weighedFor scan).audit.scanned = s.audit.scanned := congrArg Kept.scanned hkept
  have hfound : (s.weighedFor scan).audit.found = s.audit.found := congrArg Kept.found hkept
  have hoff := State.sweepOff_audit (s.weighedFor scan) scan.carrier (s.recordsFor scan)
  simp only [hsweep, hscanned, hfound] at hoff
  rw [State.tallied, if_pos h]
  exact ⟨congrArg AuditUnit.sweep hoff, rfl, congrArg AuditUnit.scanned hoff, congrArg AuditUnit.found hoff⟩

/-- The sweep and the task-stop run after any other carrier (R49, R153). -/
theorem State.tallied_no_sweep {s : State} {scan : Scan} (h : scan.carrier ∉ s.audit.sweep) :
    (s.tallied scan).audit.sweep = s.audit.sweep ∧ (s.tallied scan).audit.scanned = s.audit.scanned ∧
      (s.tallied scan).audit.found = s.audit.found ∧ (s.tallied scan).planner.stopRun =
        (if scan.hadDue then min 15 (s.planner.stopRun + 1) else s.planner.stopRun) := by
  have hkept := s.weighedFor_kept scan
  have hrun : (s.weighedFor scan).planner.stopRun = s.planner.stopRun := congrArg Kept.stopRun hkept
  rw [State.tallied, if_neg h, ← hrun]
  exact ⟨congrArg Kept.sweep hkept, congrArg Kept.scanned hkept, congrArg Kept.found hkept, rfl⟩

/-- The record of the weight check is in a log with room left (R151). -/
theorem State.tallied_weightReport {s : State} {scan : Scan}
    (h : (s.relocatedFor scan).weightRecords scan (s.compared scan).unknown = 1)
    (hroom : (s.tallied scan).control.log.length < 16) :
    { body := (s.relocatedFor scan).weightReport scan, week := s.control.week, timer := s.timer : Report } ∈
      (s.tallied scan).control.log := by
  have hgrows := (s.weighedFor_tallies scan).log
  have hshort := hgrows.length_le.trans_lt hroom
  have hkept := s.relocatedFor_kept scan
  have hweek : (s.relocatedFor scan).control.week = s.control.week := congrArg Kept.week hkept
  have htimer : (s.relocatedFor scan).timer = s.timer := congrArg Kept.timer hkept
  refine hgrows.subset ?_
  rw [State.weighedFor, State.weigh_eq] at hshort ⊢
  simp only [if_pos h] at hshort ⊢
  rw [← hweek, ← htimer]
  exact State.mem_writeReport hshort

/-- The AUDIT_DONE is in a log with room left (R154). -/
theorem State.tallied_done {s : State} {scan : Scan} (h : scan.carrier ∈ s.audit.sweep)
    (he : (s.audit.sweep.filter fun c => decide (c ≠ scan.carrier)) = [])
    (hroom : (s.tallied scan).control.log.length < 16) :
    { body := .auditDone (min 255 (s.audit.scanned + 1)) (min 255 (s.audit.found + s.recordsFor scan)),
      week := s.control.week, timer := s.timer : Report } ∈ (s.tallied scan).control.log := by
  have hkept := s.weighedFor_kept scan
  have hsweep : (s.weighedFor scan).audit.sweep = s.audit.sweep := congrArg Kept.sweep hkept
  have hscanned : (s.weighedFor scan).audit.scanned = s.audit.scanned := congrArg Kept.scanned hkept
  have hfound : (s.weighedFor scan).audit.found = s.audit.found := congrArg Kept.found hkept
  have hweek : (s.weighedFor scan).control.week = s.control.week := congrArg Kept.week hkept
  have htimer : (s.weighedFor scan).timer = s.timer := congrArg Kept.timer hkept
  rw [State.tallied, if_pos h] at hroom ⊢
  rw [← hscanned, ← hfound, ← hweek, ← htimer]
  exact State.sweepOff_done (by rw [hsweep]; exact he) hroom

end Sys2Proof.Machine
end

section
/-! SUPPORT. The due tasks of a dwell in phase WORKING: in what turn they are asked for and which pocket a due PICK gets
(R66, R68, R134), and that asking once more changes nothing. -/

namespace Sys2Proof.Machine

/-! ### The pocket rule (R134) -/

theorem Pocket.isFree_iff {p : Pocket} : p.isFree = true ↔ p = .free := by cases p <;> simp [Pocket.isFree]

theorem State.openBay_isSome {s : State} {l : LineRef} : (s.openBay l).isSome = true ↔
    (s.lane l.lane).synced = true ∧ ∃ b, (s.lane l.lane).bays[l.bay] = some b ∧ b.order = l.order := by
  unfold State.openBay
  cases (s.lane l.lane).synced with
  | false => simp
  | true =>
    cases (s.lane l.lane).bays[l.bay] with
    | none => simp
    | some b => by_cases hb : b.order = l.order <;> simp [hb]

theorem State.isAnchor_iff {s : State} {l : LineRef} :
    s.isAnchor l = true ↔ (s.lane l.lane).ageList.head? = some l.bay ∧ (s.openBay l).isSome = true := by
  unfold State.isAnchor
  cases (s.lane l.lane).ageList <;> simp

/-- The pocket rule: an OPEN bay, with both pockets free, or for the anchor of its lane one of them (R134). -/
theorem State.pocketRule_iff {s : State} {l : LineRef} : s.pocketRule l = true ↔
    (s.lane l.lane).synced = true ∧ (∃ b, (s.lane l.lane).bays[l.bay] = some b ∧ b.order = l.order) ∧
      ((s.pocket 0 = .free ∧ s.pocket 1 = .free) ∨
        ((s.pocket 0 = .free ∨ s.pocket 1 = .free) ∧ (s.lane l.lane).ageList.head? = some l.bay)) := by
  rw [← and_assoc, ← State.openBay_isSome, State.pocketRule, Bool.and_eq_true]
  refine and_congr_right fun hopen => ?_
  by_cases ha : s.isAnchor l = true
  · have hhead := (State.isAnchor_iff.1 ha).1
    simp only [ha, if_true, Bool.or_eq_true, Pocket.isFree_iff, hhead, and_true]
    tauto
  · have hhead : (s.lane l.lane).ageList.head? ≠ some l.bay := fun h => ha (State.isAnchor_iff.2 ⟨h, hopen⟩)
    simp [ha, Pocket.isFree_iff, hhead]

/-- Whether a slot has an ASSIGNED pocket. -/
theorem State.assignedPocket_isSome {s : State} {n : Nat} : (s.assignedPocket n).isSome = true ↔
    ∃ p e, s.pocket p = .entry e ∧ e.state = .assigned ∧ e.slot = n := by
  unfold State.assignedPocket
  rw [List.find?_isSome]
  constructor
  · rintro ⟨p, _, hp⟩
    cases he : s.pocket p with
    | entry e => exact ⟨p, e, he, by simpa [he] using hp⟩
    | free | foreign => simp [he] at hp
  · rintro ⟨p, e, he, hstate, hslot⟩
    exact ⟨p, by fin_cases p <;> simp [bothPockets], by simp [he, hstate, hslot]⟩

theorem State.pocketFor_eq_none {s : State} {l : LineRef} : s.pocketFor l = none ↔ s.pocketRule l = false := by
  unfold State.pocketFor
  cases s.pocketRule l with
  | false => simp
  | true => by_cases h : (s.pocket 0).isFree = true <;> simp [h]

section
variable {s : State} {p : Fin 2} {slot : Nat} {l : LineRef}

theorem State.pocket_assignPocket (q : Fin 2) : (s.assignPocket p slot l).pocket q =
    if p = q then .entry { state := .assigned, slot := slot, line := some l, intent := .none, grantedAt := none, number := 0 }
    else s.pocket q := s.pocket_setPocket p q _

theorem State.assignPocket_assigned : ((s.assignPocket p slot l).assignedPocket slot).isSome = true :=
  State.assignedPocket_isSome.2 ⟨p, _, by rw [State.pocket_assignPocket, if_pos rfl], rfl, rfl⟩

/-- A free pocket assigned gives the pocket rule to no line more. -/
theorem State.assignPocket_rule {k : LineRef} (h : (s.assignPocket p slot l).pocketRule k = true) :
    s.pocketRule k = true := by
  have hfree : ∀ q, (s.assignPocket p slot l).pocket q = .free → s.pocket q = .free := by
    intro q hq
    rw [State.pocket_assignPocket] at hq
    split at hq
    · cases hq
    · exact hq
  obtain ⟨hsynced, hbay, hpockets⟩ := State.pocketRule_iff.1 h
  refine State.pocketRule_iff.2 ⟨hsynced, hbay, ?_⟩
  exact hpockets.imp (And.imp (hfree 0) (hfree 1)) (And.imp_left (Or.imp (hfree 0) (hfree 1)))

variable (hp : s.pocket p = .free)
include hp

/-- A free pocket assigned takes none from another slot. -/
theorem State.assignPocket_others {n : Nat} (hn : n ≠ slot) :
    ((s.assignPocket p slot l).assignedPocket n).isSome = (s.assignedPocket n).isSome := by
  rw [Bool.eq_iff_iff, State.assignedPocket_isSome, State.assignedPocket_isSome]
  refine exists_congr fun q => exists_congr fun e => ?_
  rw [State.pocket_assignPocket]
  by_cases hq : p = q
  · subst hq
    rw [if_pos rfl, hp]
    constructor
    · rintro ⟨he, _, hslot⟩
      cases he
      exact absurd hslot.symm hn
    · rintro ⟨he, _⟩
      cases he
  · rw [if_neg hq]

end

/-! ### Asking for one due task (R66) -/

section
variable {s : State} {d : Due} {t : Task}

theorem State.lightOne_no_task (h : s.taskOn d.slot = none) : s.lightOne d = (s, d) := by
  simp only [State.lightOne, h]

/-- A due LOAD or RESTORE is lit always. -/
theorem State.lightOne_shelf (h : s.taskOn d.slot = some t) (hw : ∀ l, t.work ≠ .pick l) :
    s.lightOne d = (s, { d with lit := true }) := by
  simp only [State.lightOne, h]
  cases hk : t.work with
  | pick l => exact absurd hk (hw l)
  | load | restore => rfl

variable {l : LineRef} (h : s.taskOn d.slot = some t) (hw : t.work = .pick l)
include h hw

theorem State.lightOne_assigned (ha : (s.assignedPocket d.slot).isSome = true) :
    s.lightOne d = (s, { d with lit := true }) := by
  simp only [State.lightOne, h, hw, if_pos ha]

theorem State.lightOne_refused (ha : (s.assignedPocket d.slot).isSome = false) (hr : s.pocketRule l = false) :
    s.lightOne d = (s, { d with lit := false }) := by
  simp only [State.lightOne, h, hw, ha, State.pocketFor_eq_none.2 hr]
  rfl

theorem State.lightOne_given {p : Fin 2} (ha : (s.assignedPocket d.slot).isSome = false) (hp : s.pocketFor l = some p) :
    s.lightOne d = (s.assignPocket p d.slot l, { d with lit := true }) := by
  simp only [State.lightOne, h, hw, ha, hp]
  rfl

end

/-- What asking for a due task can do: nothing to the state, or a free pocket assigned to a PICK without one. -/
theorem State.lightOne_cases (s : State) (d : Due) : (s.lightOne d).1 = s ∨
    ∃ t l p, s.taskOn d.slot = some t ∧ t.work = .pick l ∧ (s.assignedPocket d.slot).isSome = false ∧
      s.pocketFor l = some p ∧ s.lightOne d = (s.assignPocket p d.slot l, { d with lit := true }) := by
  cases ht : s.taskOn d.slot with
  | none => exact .inl (by rw [State.lightOne_no_task ht])
  | some t =>
    cases hw : t.work with
    | load | restore => exact .inl (by rw [State.lightOne_shelf ht (by simp [hw])])
    | pick l =>
      cases ha : (s.assignedPocket d.slot).isSome with
      | true => exact .inl (by rw [State.lightOne_assigned ht hw ha])
      | false =>
        cases hp : s.pocketFor l with
        | none => exact .inl (by rw [State.lightOne_refused ht hw ha (State.pocketFor_eq_none.1 hp)])
        | some p => exact .inr ⟨t, l, p, rfl, hw, rfl, hp, State.lightOne_given ht hw ha hp⟩

/-- A due task asked for twice in a row is answered as it was. -/
theorem State.lightOne_twice (s : State) (d : Due) : (s.lightOne d).1.lightOne (s.lightOne d).2 = s.lightOne d := by
  cases ht : s.taskOn d.slot with
  | none => rw [State.lightOne_no_task ht, State.lightOne_no_task ht]
  | some t =>
    cases hw : t.work with
    | load | restore =>
      have hshelf : ∀ l, t.work ≠ .pick l := by simp [hw]
      rw [State.lightOne_shelf ht hshelf, State.lightOne_shelf (d := { d with lit := true }) ht hshelf]
    | pick l =>
      cases ha : (s.assignedPocket d.slot).isSome with
      | true => rw [State.lightOne_assigned ht hw ha, State.lightOne_assigned (d := { d with lit := true }) ht hw ha]
      | false =>
        cases hp : s.pocketFor l with
        | none =>
          have hr := State.pocketFor_eq_none.1 hp
          rw [State.lightOne_refused ht hw ha hr, State.lightOne_refused (d := { d with lit := false }) ht hw ha hr]
        | some p =>
          rw [State.lightOne_given ht hw ha hp]
          exact State.lightOne_assigned (s := s.assignPocket p d.slot l) (d := { d with lit := true }) ht hw
            State.assignPocket_assigned

/-- A due task that asking leaves as it is stays so when another is asked for. -/
theorem State.lightOne_stays {s : State} {d : Due} (h : s.lightOne d = (s, d)) (x : Due) :
    (s.lightOne x).1.lightOne d = ((s.lightOne x).1, d) := by
  rcases s.lightOne_cases x with hsame | ⟨k, m, p, hk, hm, hx, hp, hlight⟩
  · rw [hsame, h]
  have hfree : s.pocket p = .free := Pocket.isFree_iff.1 (s.pocketFor_free m p hp)
  rw [hlight]
  cases ht : s.taskOn d.slot with
  | none => exact State.lightOne_no_task (s := s.assignPocket p x.slot m) ht
  | some t =>
    cases hw : t.work with
    | load | restore =>
      have hshelf : ∀ l, t.work ≠ .pick l := by simp [hw]
      rw [State.lightOne_shelf ht hshelf, Prod.mk.injEq] at h
      rw [State.lightOne_shelf (s := s.assignPocket p x.slot m) ht hshelf, h.2]
    | pick l =>
      have hslot : s.pocketRule l = false ∨ (s.assignedPocket d.slot).isSome = true → d.slot ≠ x.slot := by
        rintro hno he
        rw [he, hx] at hno
        obtain rfl : t = k := Option.some.inj (ht.symm.trans (by rw [he]; exact hk))
        obtain rfl : l = m := TaskWork.pick.inj (hw.symm.trans hm)
        rw [State.pocketFor_eq_none.2 (hno.resolve_right (by simp))] at hp
        cases hp
      cases ha : (s.assignedPocket d.slot).isSome with
      | true =>
        rw [State.lightOne_assigned ht hw ha, Prod.mk.injEq] at h
        rw [State.lightOne_assigned (s := s.assignPocket p x.slot m) ht hw
          ((State.assignPocket_others hfree (hslot (.inr ha))).trans ha), h.2]
      | false =>
        cases hq : s.pocketFor l with
        | none =>
          have hr := State.pocketFor_eq_none.1 hq
          rw [State.lightOne_refused ht hw ha hr, Prod.mk.injEq] at h
          rw [State.lightOne_refused (s := s.assignPocket p x.slot m) ht hw
            ((State.assignPocket_others hfree (hslot (.inl hr))).trans ha)
            (Bool.eq_false_iff.2 fun hv => Bool.eq_false_iff.1 hr (State.assignPocket_rule hv)), h.2]
        | some q =>
          rw [State.lightOne_given ht hw ha hq, Prod.mk.injEq] at h
          have hassigned := State.assignPocket_assigned (s := s) (p := q) (slot := d.slot) (l := l)
          rw [h.1, ha] at hassigned
          cases hassigned

/-! ### Asking for the due tasks in turn (R66, R68) -/

theorem State.lightAll_slots (s : State) (due : List Due) : (s.lightAll due).2.map Due.slot = due.map Due.slot := by
  induction due using List.reverseRecOn with
  | nil => rfl
  | append_singleton xs x ih => simp [State.lightAll_append, ih, (State.lightOne_parts _ x).2]

/-- Asking for the due tasks leaves each answered. -/
theorem State.lightAll_answered (s : State) (due : List Due) :
    ∀ d ∈ (s.lightAll due).2, (s.lightAll due).1.lightOne d = ((s.lightAll due).1, d) := by
  induction due using List.reverseRecOn with
  | nil => simp [State.lightAll]
  | append_singleton xs x ih =>
    rw [State.lightAll_append]
    intro d hd
    rcases List.mem_append.1 hd with hd | hd
    · exact State.lightOne_stays (ih d hd) x
    · obtain rfl := List.mem_singleton.1 hd
      exact State.lightOne_twice _ x

/-- Asking for due tasks that are all answered changes nothing. -/
theorem State.lightAll_of_answered {s : State} {due : List Due} (h : ∀ d ∈ due, s.lightOne d = (s, d)) :
    s.lightAll due = (s, due) := by
  induction due using List.reverseRecOn with
  | nil => rfl
  | append_singleton xs x ih =>
    have hxs := ih fun d hd => h d (List.mem_append_left _ hd)
    rw [State.lightAll_append, hxs]
    simp [h x (by simp)]

/-- Asking once for a slot with the tasks of a state: the pocket that its PICK gets, if the pocket rule gives it one (R66,
R134). -/
def State.asked (s u : State) (n : Nat) : State :=
  match (s.taskOn n).map Task.work with
  | some (.pick l) =>
    if (u.assignedPocket n).isNone && u.pocketRule l then
      u.setPocket (if u.pocket 0 = .free then 0 else 1) (.entry {
        state := .assigned, slot := n, line := some l, intent := .none, grantedAt := none, number := 0 })
    else u
  | _ => u

/-- Asking for a due task is asking for its slot. -/
theorem State.lightOne_asked {s u : State} {d : Due}
    (h : (u.taskOn d.slot).map Task.work = (s.taskOn d.slot).map Task.work) : (u.lightOne d).1 = s.asked u d.slot := by
  unfold State.asked
  rw [← h]
  cases ht : u.taskOn d.slot with
  | none => rw [State.lightOne_no_task ht]; rfl
  | some t =>
    cases hw : t.work with
    | load | restore => rw [State.lightOne_shelf ht (by simp [hw])]; simp [hw]
    | pick l =>
      cases ha : (u.assignedPocket d.slot).isSome with
      | true => rw [State.lightOne_assigned ht hw ha]; simp [hw, Option.isNone_iff_eq_none, Option.isSome_iff_ne_none.1 ha]
      | false =>
        have hnone : (u.assignedPocket d.slot).isNone = true := by simpa using ha
        cases hr : u.pocketRule l with
        | false => rw [State.lightOne_refused ht hw ha hr]; simp [hw, hr]
        | true =>
          rw [State.lightOne_given (p := if u.pocket 0 = .free then 0 else 1) ht hw ha
            (by simp only [State.pocketFor, hr, if_true, ← Pocket.isFree_iff]; split <;> rfl)]
          simp only [Option.map_some, hw, hnone, hr]
          rfl

/-- What is asked for depends on the lanes and pockets alone. -/
theorem State.asked_lanes {s u v : State} (h : u.lanes = v.lanes) (n : Nat) : (s.asked u n).lanes = (s.asked v n).lanes := by
  have hpocket : ∀ p, u.pocket p = v.pocket p := fun p => by unfold State.pocket; rw [h]
  have hassigned : u.assignedPocket n = v.assignedPocket n := by unfold State.assignedPocket; simp only [hpocket]
  have hrule : ∀ l, u.pocketRule l = v.pocketRule l := by
    intro l
    have hlane : u.lane l.lane = v.lane l.lane := by unfold State.lane; rw [h]
    rw [Bool.eq_iff_iff, State.pocketRule_iff, State.pocketRule_iff, hlane, hpocket, hpocket]
  unfold State.asked
  split
  · rw [hassigned, hrule, hpocket]
    split
    · unfold State.setPocket
      simp only [State.setLanes_lanes, h]
    · exact h
  · exact h

/-- The due tasks are asked for in turn, with the tasks of any state that names the same work for their slots. -/
theorem State.lightAll_asked {s u v : State} (h : ∀ n, (u.taskOn n).map Task.work = (s.taskOn n).map Task.work)
    (hl : u.lanes = v.lanes) (due : List Due) :
    (u.lightAll due).1.lanes = ((due.map Due.slot).foldl s.asked v).lanes := by
  induction due using List.reverseRecOn with
  | nil => exact hl
  | append_singleton xs x ih =>
    have htasks : ((u.lightAll xs).1.taskOn x.slot).map Task.work = (s.taskOn x.slot).map Task.work := by
      rw [State.lightAll_lanes]
      exact h x.slot
    rw [State.lightAll_append, State.lightOne_asked htasks, List.map_append, List.foldl_append]
    exact State.asked_lanes ih x.slot

end Sys2Proof.Machine
end

section
/-! SUPPORT. The dwell refreshed (R52, R66, R68): what it becomes, and that refreshing it once more changes nothing. -/

namespace Sys2Proof.Machine

/-! ### Tasks that join (R52) -/

/-- The task of a slot, after the states of tasks have changed. -/
theorem State.taskOn_map {s u : State} {f : Task → Task} (hq : u.planner.queue = s.planner.queue.map f)
    (hf : ∀ t, (f t).slot = t.slot) (n : Nat) : u.taskOn n = (s.taskOn n).map f := by
  unfold State.taskOn
  rw [hq, List.find?_map]
  simp only [Function.comp_def, hf]

/-- A change of task states makes no task ready that was not (R45). -/
theorem State.ready_map {s u : State} {f : Task → Task} (hq : u.planner.queue = s.planner.queue.map f)
    (hf : ∀ t, (f t).work = t.work ∧ (f t).slot = t.slot) (hl : u.lanes.lanes = s.lanes.lanes)
    (hr : u.face.receiving = s.face.receiving) (t : Task) : u.ready (f t) = s.ready t := by
  have hlane : ∀ l, u.lane l = s.lane l := fun l => by unfold State.lane; rw [hl]
  have hloads : ∀ id, u.readyLoads id = (s.readyLoads id).map f := by
    intro id
    have htasks : u.loadTasks id = (s.loadTasks id).map f := by
      unfold State.loadTasks
      rw [hq, List.filter_map]
      simp only [Function.comp_def, (hf _).1]
    unfold State.readyLoads State.receivingOf
    rw [hr, htasks]
    split
    · rfl
    · rw [List.map_take]
  unfold State.ready
  rw [(hf t).1, (hf t).2]
  split
  · rw [hlane]
  · rw [hloads, List.any_map]
    simp only [Function.comp_def, (hf _).2]
  · rfl

/-- Where no ready task is missing from the due tasks, none joins. -/
theorem State.joinDue_complete {s : State} {d : Dwell} (hd : s.face.dwell = some d) (h : s.joining d.carrier d.due = []) :
    s.joinDue = s := by
  have hnone : (fun t : Task => t.atFaceOn []) = id := funext fun t => by simp [Task.atFaceOn]
  rw [State.joinDue_open hd, h]
  simp only [List.map_nil, List.append_nil, hnone, List.map_id]
  unfold State.setDwell State.setPlanner State.setFace
  rw [← hd]

/-! ### The dwell refreshed (R52, R66, R68) -/

theorem State.lightOne_setDwell (s : State) (x : Option Dwell) (d : Due) :
    (s.setDwell x).lightOne d = ((s.lightOne d).1.setDwell x, (s.lightOne d).2) := by
  have htask : (s.setDwell x).taskOn d.slot = s.taskOn d.slot := rfl
  have hassigned : (s.setDwell x).assignedPocket d.slot = s.assignedPocket d.slot := rfl
  have hpocket : ∀ l, (s.setDwell x).pocketFor l = s.pocketFor l := fun _ => rfl
  unfold State.lightOne
  rw [htask]
  split
  · rfl
  · split
    · rfl
    · rfl
    · rw [hassigned, hpocket]
      split
      · rfl
      · split <;> rfl

/-- What a refreshed dwell in phase WORKING is: the due tasks are those it had and the ready tasks that join, AT_FACE, and
each has been asked for in turn. -/
structure State.Refreshes (s r : State) (d e : Dwell) : Prop where
  dwell : r.face.dwell = some e
  course : d.continues e
  due : e.due.map Due.slot = d.due.map Due.slot ++ (s.joining d.carrier d.due).map Task.slot
  answered : ∀ x ∈ e.due, r.lightOne x = (r, x)
  queue : r.planner.queue = s.planner.queue.map (Task.atFaceOn ((s.joining d.carrier d.due).map Task.slot))
  /-- In turn, with the tasks of any state that names the same work for their slots. -/
  lanes {v : State} : v.lanes = s.lanes → (∀ n, (v.taskOn n).map Task.work = (s.taskOn n).map Task.work) →
    r.lanes = ((e.due.map Due.slot).foldl v.asked v).lanes

theorem State.refreshDwell_refreshes {s : State} {d : Dwell} (hd : s.face.dwell = some d) (hp : d.phase = .working) :
    ∃ e, s.Refreshes s.refreshDwell d e := by
  have hjoin := State.joinDue_open hd
  have hjoined : s.joinDue.face.dwell = some { d with
      due := d.due ++ (s.joining d.carrier d.due).map fun x => { slot := x.slot, lit := false } } := by rw [hjoin]; rfl
  have hqueue : s.joinDue.planner.queue =
      s.planner.queue.map (Task.atFaceOn ((s.joining d.carrier d.due).map Task.slot)) := by rw [hjoin]; rfl
  have htasks : ∀ n, (s.joinDue.taskOn n).map Task.work = (s.taskOn n).map Task.work := fun n => by
    rw [State.taskOn_map hqueue (Task.atFaceOn_slot _), Option.map_map]
    simp only [Function.comp_def, Task.atFaceOn_work]
  generalize hdue : (d.due ++ (s.joining d.carrier d.due).map fun x => ({ slot := x.slot, lit := false } : Due)) = due
    at hjoined
  have hslots : (s.joinDue.lightAll due).2.map Due.slot =
      d.due.map Due.slot ++ (s.joining d.carrier d.due).map Task.slot := by
    rw [State.lightAll_slots, ← hdue]
    simp [Function.comp_def]
  have hlight : s.refreshDwell = (s.joinDue.lightAll due).1.setDwell (some { d with due := (s.joinDue.lightAll due).2 }) := by
    rw [State.lightAll_lanes]
    exact State.lightDue_working hjoined hp
  refine ⟨{ d with due := (s.joinDue.lightAll due).2 }, by rw [hlight]; rfl, rfl, hslots, fun x hx => ?_, ?_,
    fun hlanes hsame => ?_⟩
  · rw [hlight, State.lightOne_setDwell, s.joinDue.lightAll_answered due x hx]
  · rw [hlight, State.lightAll_lanes]
    exact hqueue
  · rw [hlight, State.lightAll_slots]
    exact State.lightAll_asked (fun n => (htasks n).trans (hsame n).symm) (by rw [hjoin, hlanes]; rfl) due

/-- A dwell in phase WORKING that has just been refreshed stays as it is when it is refreshed again. -/
theorem State.refreshDwell_twice {s : State} {d : Dwell} (hd : s.face.dwell = some d) (hp : d.phase = .working) :
    s.refreshDwell.refreshDwell = s.refreshDwell := by
  obtain ⟨e, hdwell, hcourse, hdue, hanswered, hqueue, _⟩ := State.refreshDwell_refreshes hd hp
  have hshared : s.refreshDwell.lanes.lanes = s.lanes.lanes := congrArg Work.lanes s.refreshDwell_work
  have hreceiving : s.refreshDwell.face.receiving = s.face.receiving := congrArg Work.receiving s.refreshDwell_work
  have hvalues : s.refreshDwell.values = s.values := congrArg Kept.settled s.refreshDwell_kept
  have hcarrier : e.carrier = d.carrier := by rw [hcourse]
  have hcomplete : s.refreshDwell.joining e.carrier e.due = [] := by
    unfold State.joining
    rw [hqueue, List.filter_map, List.map_eq_nil_iff, List.filter_eq_nil_iff]
    intro t ht hjoins
    simp only [Function.comp_def, Bool.and_eq_true, decide_eq_true_eq, Bool.not_eq_true'] at hjoins
    obtain ⟨⟨hface, hready⟩, hnew⟩ := hjoins
    rw [State.ready_map hqueue (fun t => ⟨Task.atFaceOn_work _ t, Task.atFaceOn_slot _ t⟩) hshared hreceiving] at hready
    have hmissing : t.slot ∉ e.due.map Due.slot := by
      simpa [List.any_eq_false] using hnew
    rw [hdue, List.mem_append, not_or] at hmissing
    refine hmissing.2 (List.mem_map_of_mem (List.mem_filter.2 ⟨ht, ?_⟩))
    simp only [State.taskCarrier, Task.atFaceOn_slot, hvalues, hcarrier] at hface
    simp only [State.taskCarrier, hface, hready, decide_true, Bool.and_self, Bool.true_and, Bool.not_eq_true',
      List.any_eq_false, decide_eq_true_eq]
    exact fun x hx he => hmissing.1 (List.mem_map.2 ⟨x, hx, he⟩)
  have hworking : e.phase = .working := by rw [hcourse]; exact hp
  rw [State.refreshDwell, State.joinDue_complete hdwell hcomplete, State.lightDue_working hdwell hworking,
    State.lightAll_of_answered hanswered]
  unfold State.setDwell State.setFace State.setLanes
  rw [← hdwell]

end Sys2Proof.Machine
end

section
/-! SUPPORT. The answer of a settle scan to the face (R66), and what the end of a step does to the dwell it leaves: the test for
completion (R73) and the planner (R46, R48). -/

namespace Sys2Proof.Machine

/-! ### The answer to the face (R66) -/

/-- The face agrees with a settle scan: no position in use reads otherwise than it (R66). -/
def State.agreesWith (s : State) (scan : Scan) : Prop :=
  ∀ i : Fin 12, i.val < s.values.rows * s.values.columns → (s.face.image[i]).debounced ≠ .unknown →
    scan.image[i.val]? = some (decide ((s.face.image[i]).debounced = .present))

theorem State.agreesWith_of_image {s t : State} {scan : Scan} (h : s.agreesWith scan) (hi : t.face.image = s.face.image)
    (hv : t.values = s.values) : t.agreesWith scan := by
  unfold State.agreesWith
  rw [hi, hv]
  exact h

/-- Then no change has to be made up for. -/
theorem State.agreesWith.differences {s : State} {scan : Scan} (h : s.agreesWith scan) :
    s.differences scan.image = [] := by
  unfold State.differences
  rw [List.map_eq_nil_iff, List.filter_eq_nil_iff]
  intro i hi hdiffers
  have huse : i.val < s.values.rows * s.values.columns := of_decide_eq_true (List.mem_filter.1 hi).2
  rw [Bool.and_eq_true, decide_eq_true_eq, decide_eq_true_eq] at hdiffers
  obtain ⟨hknown, hother⟩ := hdiffers
  refine hother ((h i huse hknown).trans (congrArg some ?_))
  unfold SensorPos.value
  cases hp : (s.face.image[i]).debounced with
  | present | absent => rfl
  | unknown => exact absurd hp hknown

/-- A dwell that the audit puts in phase WORKING (R66). -/
def Dwell.worked (d : Dwell) (scan : Scan) : Dwell := { d with phase := .working, scan := scan.image }

/-- An open dwell that scans at the carrier enters WORKING, its due tasks are asked for, and it ends where nothing is due. -/
theorem State.answerFace_opens {s : State} {scan : Scan} {d : Dwell} (h : s.agreesWith scan) (hd : s.face.dwell = some d)
    (hp : d.phase = .scanning) (hc : d.carrier = scan.carrier) :
    s.answerFace scan = (s.setDwell (some (d.worked scan))).refreshDwell.testCompletion := by
  have hcourse := State.keepsCourse_closed.refreshDwell (s.setDwell (some (d.worked scan)))
  have hvalues : (s.setDwell (some (d.worked scan))).refreshDwell.values = s.values :=
    congrArg Kept.settled (State.refreshDwell_kept _)
  have hnone := (State.agreesWith_of_image h hcourse.image hvalues).differences
  unfold State.answerFace
  rw [hd]
  simp only [if_pos (And.intro hp hc)]
  have hworked : ({ d with phase := .working, scan := scan.image } : Dwell) = d.worked scan := rfl
  rw [hworked, hnone]
  rfl

/-- In any other case the face is left alone. -/
theorem State.answerFace_elsewhere {s : State} {scan : Scan}
    (h : ∀ d, s.face.dwell = some d → ¬(d.phase = .scanning ∧ d.carrier = scan.carrier)) : s.answerFace scan = s := by
  unfold State.answerFace
  split
  · rfl
  · rename_i d hd
    rw [if_neg (h d hd)]

theorem State.answerFace_work {s : State} {scan : Scan} (h : s.agreesWith scan) : (s.answerFace scan).work = s.work := by
  by_cases hopen : ∃ d, s.face.dwell = some d ∧ d.phase = .scanning ∧ d.carrier = scan.carrier
  · obtain ⟨d, hd, hp, hc⟩ := hopen
    rw [State.answerFace_opens h hd hp hc, State.testCompletion_work, State.refreshDwell_work, State.setDwell_work]
  · rw [State.answerFace_elsewhere fun d hd hat => hopen ⟨d, hd, hat⟩]

theorem State.answerFace_kept (s : State) (scan : Scan) : (s.answerFace scan).kept = s.kept := by
  unfold State.answerFace
  split
  · rfl
  · split
    · simp only [State.testCompletion_kept]
      rw [foldl_kept _ fun t (x : Nat × Bool) => State.presenceChange_kept t x.1 x.2]
      exact State.refreshDwell_kept _
    · rfl

/-! ### The end of the step (log 8) -/

/-- After the test for completion a dwell is open only with something left to do (R73). -/
theorem State.testCompletion_open {s : State} {d : Dwell} (h : s.testCompletion.face.dwell = some d)
    (hp : d.phase = .working) (hw : d.wrong = []) : d.due ≠ [] := by
  unfold State.testCompletion at h
  split at h
  · rename_i hnone
    rw [hnone] at h
    cases h
  · split at h
    · cases h
    · rename_i c hc hleft
      obtain rfl : c = d := Option.some.inj (hc.symm.trans h)
      exact fun hdue => hleft ⟨hp, hdue, hw⟩

/-- With something due the dwell stays open (R73). -/
theorem State.testCompletion_due {s : State} {d : Dwell} (h : s.face.dwell = some d) (hdue : d.due ≠ []) :
    s.testCompletion = s := by
  unfold State.testCompletion
  rw [h]
  simp only [if_neg fun hdone : d.phase = .working ∧ d.due = [] ∧ d.wrong = [] => hdue hdone.2.1]

/-- The planner leaves an open dwell alone, and opens one only where none is, to scan (R46, R48). -/
theorem State.plan_dwell (b s : State) : (State.plan b s).face.dwell = s.face.dwell ∨
    (s.face.dwell = none ∧
      ∀ e, (State.plan b s).face.dwell = some e → e.phase = .scanning ∧ e.wrong = [] ∧ e.elapsed = 0) := by
  have hretarget : ∀ t : State, (State.retarget b t).face = t.face := by
    intro t
    unfold State.retarget
    split
    · split
      · rfl
      · split <;> rfl
    · rfl
  unfold State.plan
  rw [hretarget]
  by_cases hmay : s.mayChoose = true
  · have hnone := (State.mayChoose_iff.1 hmay).2.2.1
    unfold State.chooseNext
    rw [if_pos hmay]
    split
    · unfold State.startStop
      split
      · left
        simp only [State.setPlanner_face]
        unfold State.takeMove
        simp only
        split <;> rfl
      · rename_i st _ _ _
        obtain ⟨_, _, d, hd, _, hscans⟩ := s.settledAt_opens st.target
        exact .inr ⟨hnone, fun e he => by rw [hd] at he; cases he; exact hscans⟩
      · exact .inl rfl
    · exact .inl (congrArg FaceUnit.dwell s.clearParked_plan.2.2.2)
  · exact .inl (by rw [State.chooseNext_stays (Bool.eq_false_iff.2 hmay)])

theorem State.plan_queue {s : State} (b : State) {d : Dwell} (h : s.face.dwell = some d) :
    (State.plan b s).planner.queue = s.planner.queue := by
  have hmay : s.mayChoose = false := by simp [State.mayChoose, h]
  unfold State.plan State.retarget
  rw [State.chooseNext_stays hmay]
  split
  · split
    · rfl
    · split <;> rfl
  · rfl

end Sys2Proof.Machine
end

section
/-! SUPPORT. The dwell that a settle scan has put to work, as the end of its step leaves it (R66, R73), and the lamps it shows
(R67). -/

namespace Sys2Proof.Machine

/-! ### The dwell after the step -/

/-- A dwell that the audit has put to work: it is found with its carrier, its scan and no wrong event, and something due; or it
has ended, and only a new one that scans may be open (R66, R73). -/
theorem State.settle_answered {b s : State} {scan : Scan} {d : Dwell} (h : s.agreesWith scan)
    (hd : s.face.dwell = some d) (hp : d.phase = .scanning) (hc : d.carrier = scan.carrier) (hw : d.wrong = []) :
    (∃ e, (State.settle b (s.answerFace scan)).face.dwell = some e ∧ e.carrier = d.carrier ∧ e.phase = .working ∧
        e.scan = scan.image ∧ e.wrong = [] ∧ e.due ≠ []) ∨
      (∀ e, (State.settle b (s.answerFace scan)).face.dwell = some e →
        e.phase = .scanning ∧ e.wrong = [] ∧ e.elapsed = 0) := by
  have hR := State.keepsCourse_closed
  rw [State.answerFace_opens h hd hp hc]
  generalize hz : (s.setDwell (some (d.worked scan))).refreshDwell.testCompletion = z
  have hcourse : (s.setDwell (some (d.worked scan))).KeepsCourse z.faced := by
    rw [← hz]
    exact hR.trans (hR.trans (hR.refreshDwell _) (hR.testCompletion _)) (hR.faced _)
  rw [(State.settle_plansAs b z).dwell]
  rcases State.plan_dwell b z.faced with hsame | ⟨_, hopens⟩
  · rw [hsame]
    cases he : z.faced.face.dwell with
    | none => exact .inr fun e he => by cases he
    | some e =>
      obtain ⟨c, hworked, hcontinues⟩ := hcourse.dwell he
      obtain rfl : d.worked scan = c := Option.some.inj hworked
      have hworking : e.phase = .working := by rw [hcontinues]; rfl
      have hright : e.wrong = [] := by rw [hcontinues]; exact hw
      exact .inl ⟨e, rfl, by rw [hcontinues]; rfl, hworking, by rw [hcontinues]; rfl, hright,
        State.testCompletion_open he hworking hright⟩
  · exact .inr hopens

/-- Where nothing is due it has ended (R66, R73). -/
theorem State.settle_answered_idle {b s : State} {scan : Scan} {d : Dwell} (h : s.agreesWith scan)
    (hd : s.face.dwell = some d) (hp : d.phase = .scanning) (hc : d.carrier = scan.carrier) (hw : d.wrong = [])
    (hdue : d.due = []) (hqueue : s.planner.queue = []) :
    ∀ e, (State.settle b (s.answerFace scan)).face.dwell = some e →
      e.phase = .scanning ∧ e.wrong = [] ∧ e.elapsed = 0 := by
  have hnone : (s.answerFace scan).face.dwell = none := by
    rw [State.answerFace_opens h hd hp hc, Option.eq_none_iff_forall_ne_some]
    intro f hf
    obtain ⟨e, href⟩ := State.refreshDwell_refreshes (s := s.setDwell (some (d.worked scan))) rfl rfl
    have hempty : e.due = [] := by
      have hslots := href.due
      have hjoins : (s.setDwell (some (d.worked scan))).joining (d.worked scan).carrier (d.worked scan).due = [] := by
        unfold State.joining State.setDwell
        simp [hqueue]
      rw [hjoins] at hslots
      simpa [Dwell.worked, hdue] using hslots
    have hended : (s.setDwell (some (d.worked scan))).refreshDwell.testCompletion.face.dwell = none := by
      unfold State.testCompletion
      rw [href.dwell]
      simp only
      rw [if_pos ⟨by rw [href.course]; rfl, hempty, by rw [href.course]; exact hw⟩]
      rfl
    rw [hended] at hf
    cases hf
  intro e he
  have hfaced := (State.faced_keepsPlan _).dwell hnone
  rw [(State.settle_plansAs b _).dwell] at he
  rcases State.plan_dwell b (s.answerFace scan).faced with hsame | ⟨_, hopens⟩
  · rw [hsame, hfaced] at he
    cases he
  · exact hopens e he

/-- A dwell refreshed in a command, with something due: the end of the step leaves it, its tasks and its pockets. -/
theorem State.settle_refreshed {b s : State} {d e : Dwell} (hq : s.quiet) (hd : s.face.dwell = some d)
    (hp : d.phase = .working) (h : s.Refreshes s.refreshDwell d e) (hdue : e.due ≠ []) :
    (State.settle b s.refreshDwell).face.dwell = some e ∧
      (State.settle b s.refreshDwell).planner.queue = s.refreshDwell.planner.queue ∧
      (State.settle b s.refreshDwell).lanes = s.refreshDwell.lanes := by
  have hrelocations : s.refreshDwell.audit.relocations = [] :=
    (congrArg Work.relocations s.refreshDwell_work).trans hq.1
  have hconsidering : s.refreshDwell.contests.considering = [] :=
    (congrArg Work.considering s.refreshDwell_work).trans hq.2
  have hfaced : s.refreshDwell.faced = s.refreshDwell := by
    unfold State.faced
    rw [State.relocateAll_quiet _ hrelocations, State.considerRounds_quiet _ hconsidering, State.refreshDwell_twice hd hp,
      State.testCompletion_due h.dwell hdue]
  obtain ⟨_, hplanner, hdwell, hlanes⟩ := State.settle_planned b s.refreshDwell
  rw [hfaced] at hplanner hdwell hlanes
  refine ⟨?_, (congrArg Planner.queue hplanner).trans (State.plan_queue b h.dwell), hlanes.trans (State.plan_parts b _).2.2⟩
  rcases State.plan_dwell b s.refreshDwell with hsame | ⟨hnone, _⟩
  · exact hdwell.trans (hsame.trans h.dwell)
  · rw [h.dwell] at hnone
    cases hnone

/-! ### Lamps (R67) -/

/-- No lamp is lit without a dwell, in SCANNING, or beyond the positions in use. -/
theorem State.slotLamp_dark {s : State} {i : Nat} (h : s.face.dwell = none ∨
    (∃ d, s.face.dwell = some d ∧ d.phase = .scanning) ∨ s.values.rows * s.values.columns ≤ i) : s.slotLamp i = .off := by
  unfold State.slotLamp
  rcases h with h | ⟨d, h, hp⟩ | h
  · rw [h]
  · rw [h]
    simp [hp]
  · split
    · rfl
    · rw [if_neg fun hin => absurd hin.2 (Nat.not_lt.2 h)]

/-- A pending wrong event shows FAST. -/
theorem State.slotLamp_wrong {s : State} {i : Nat} {d : Dwell} {w : WrongEvent} (hd : s.face.dwell = some d)
    (hp : d.phase = .working) (hi : i < s.values.rows * s.values.columns) (hw : w ∈ d.wrong)
    (hslot : w.slot = d.carrier * (s.values.rows * s.values.columns) + i) : s.slotLamp i = .fast := by
  have hany : (d.wrong.any fun w => decide (w.slot = d.carrier * s.values.slotsPerCarrier + i)) = true :=
    List.any_eq_true.2 ⟨w, hw, decide_eq_true hslot⟩
  unfold State.slotLamp
  rw [hd]
  simp only
  rw [if_pos ⟨hp, hi⟩, if_pos hany]

/-- Without a wrong event, the lamp of a slot that is not due is off. -/
theorem State.slotLamp_not_due {s : State} {i : Nat} {d : Dwell} (hd : s.face.dwell = some d) (hw : d.wrong = [])
    (hslot : d.carrier * (s.values.rows * s.values.columns) + i ∉ d.due.map Due.slot) : s.slotLamp i = .off := by
  have hany : (d.due.any fun x => decide (x.slot = d.carrier * s.values.slotsPerCarrier + i) && s.isLit x) = false := by
    rw [List.any_eq_false]
    intro x hx hlit
    rw [Bool.and_eq_true, decide_eq_true_eq] at hlit
    exact hslot (List.mem_map.2 ⟨x, hx, hlit.1⟩)
  unfold State.slotLamp
  rw [hd]
  simp [hw, hany]

theorem State.isLit_pick {s : State} {x : Due} {k : Task} {l : LineRef} (h : s.taskOn x.slot = some k)
    (hw : k.work = .pick l) : s.isLit x = (s.assignedPocket x.slot).isSome := by
  simp only [State.isLit, h, hw]

theorem State.isLit_shelf {s : State} {x : Due} {k : Task} (h : s.taskOn x.slot = some k) (hw : ∀ l, k.work ≠ .pick l) :
    s.isLit x = x.lit := by
  simp only [State.isLit, h]
  cases hk : k.work with
  | pick l => exact absurd hk (hw l)
  | load | restore => rfl

/-- The lamp of a due slot by its task: a PICK by whether it has a pocket, LOAD and RESTORE always (R67). -/
def TaskWork.lamp (pocketed : Bool) : TaskWork → Lamp
  | .pick _ => if pocketed then .steady else .off
  | .load _ => .flash
  | .restore _ => .flash

/-- Without a wrong event, the lamp of a due slot shows the kind of its task, once a LOAD or RESTORE is lit. -/
theorem State.slotLamp_due {s : State} {i n : Nat} {d : Dwell} {k : Task} (hd : s.face.dwell = some d)
    (hp : d.phase = .working) (hw : d.wrong = []) (hi : i < s.values.rows * s.values.columns)
    (hn : d.carrier * (s.values.rows * s.values.columns) + i = n) (hdue : n ∈ d.due.map Due.slot)
    (hk : s.taskOn n = some k) (hlit : ∀ x ∈ d.due, x.slot = n → (∀ l, k.work ≠ .pick l) → x.lit = true) :
    s.slotLamp i = k.work.lamp (s.assignedPocket n).isSome := by
  have hplace : d.carrier * s.values.slotsPerCarrier + i = n := hn
  have huse : i < s.values.slotsPerCarrier := hi
  obtain ⟨x, hx, rfl⟩ := List.mem_map.1 hdue
  unfold State.slotLamp
  simp only [hd, hplace, hp, huse, hw, hk, and_self, if_true, List.any_nil, Bool.false_eq_true, if_false]
  cases hwork : k.work with
  | pick l =>
    have hany : (d.due.any fun y => decide (y.slot = x.slot) && s.isLit y) = (s.assignedPocket x.slot).isSome := by
      rw [Bool.eq_iff_iff, List.any_eq_true]
      constructor
      · rintro ⟨y, _, hy⟩
        rw [Bool.and_eq_true, decide_eq_true_eq] at hy
        rw [← hy.1, ← State.isLit_pick (hy.1 ▸ hk) hwork]
        exact hy.2
      · exact fun ha => ⟨x, hx, by rw [State.isLit_pick hk hwork, ha, decide_eq_true rfl]; rfl⟩
    rw [hany, TaskWork.lamp]
  | load | restore =>
    have hshelf : ∀ l, k.work ≠ .pick l := by simp [hwork]
    exact if_pos (List.any_eq_true.2
      ⟨x, hx, by rw [State.isLit_shelf hk hshelf, hlit x hx rfl hshelf, decide_eq_true rfl]; rfl⟩)

end Sys2Proof.Machine
end

section
/-! SUPPORT. The step of a settle scan (R142): what it counts, weighs and marks, and the dwell it puts to work. -/

namespace Sys2Proof.Machine

/-! ### An audit without tasks -/

/-- No task stands and none has been handed over, and the face is that of another state. -/
structure State.NoTasks (s t : State) : Prop where
  queue : t.planner.queue = []
  relocations : t.audit.relocations = []
  face : t.face = s.face

namespace State.NoTasks

variable {s t : State} (h : s.NoTasks t)
include h

theorem handOn (slot : Nat) (d : Option StockData) : s.NoTasks (t.handOn slot d) := by
  have hnone : t.taskOn slot = none := by simp [State.taskOn, h.queue]
  simpa only [State.handOn, hnone] using h

theorem writeRecord (slot : Nat) (r : SlotRecord) : s.NoTasks (t.writeRecord slot r) := by
  unfold State.writeRecord
  split <;> exact ⟨h.queue, h.relocations, h.face⟩

theorem writeReport (b : ReportBody) : s.NoTasks (t.writeReport b) := by
  unfold State.writeReport
  split <;> exact ⟨h.queue, h.relocations, h.face⟩

theorem readSlot (slot : Nat) : s.NoTasks (t.readSlot slot).state := by
  unfold State.readSlot
  simp only
  split_ifs
  · exact h
  · obtain ⟨hqueue, hrelocations, hface⟩ := h.writeRecord slot (Memory.get t.store.table slot).record
    exact ⟨hqueue, hrelocations, hface⟩
  · exact ((h.writeRecord slot _).writeReport _).handOn slot none

theorem request (slot : Nat) (a : SlotRecord → Bool) (n : SlotRecord → SlotRecord) :
    s.NoTasks (t.request slot a n).state := by
  have hwritten := (h.readSlot slot).writeRecord slot (n (t.readSlot slot).record)
  unfold State.request
  simp only
  split
  · split
    · exact hwritten.handOn slot _
    · exact hwritten
  · exact h.readSlot slot

end State.NoTasks

section
variable {b s t : State} {scan : Scan}

/-! ### The step of a settle scan -/

/-- What the step of a settle scan leaves: the tally, the answer to the face and the end of the step. -/
def State.afterScan (b s : State) (scan : Scan) : State := State.settle b ((s.tallied scan).answerFace scan)

/-- A state with other scans in its list. -/
def State.withScans (s : State) (scans : List Scan) : State := s.setAudit { s.audit with scans := scans }

/-- The scan worked is the first of the list, on the state without it there (R142). -/
theorem exec_auditScan {rest : List Scan} (hrun : s.isRunning = true) (hscans : s.audit.scans = scan :: rest) :
    exec .auditScan s = .next (State.afterScan s (s.withScans rest) scan) := by
  have hwork : s.workScan = ((s.withScans rest).tallied scan).answerFace scan := by
    rw [← State.auditScan_eq, State.workScan, hscans]
    rfl
  exact (State.during_next hrun State.workScan).trans (by rw [hwork]; rfl)

theorem State.tallied_kept (s : State) (scan : Scan) : (s.tallied scan).kept = { s.kept with
    sweep := (s.tallied scan).audit.sweep, scanned := (s.tallied scan).audit.scanned,
    found := (s.tallied scan).audit.found, marks := (s.tallied scan).audit.marks,
    stopRun := (s.tallied scan).planner.stopRun } := by
  rw [(s.tallied_tallies scan).kept, State.relocatedFor_kept]

/-- The answer to the face and the end of the step keep what the tally has counted. -/
theorem State.afterScan_kept (b s : State) (scan : Scan) : (State.afterScan b s scan).kept = (s.tallied scan).kept := by
  rw [State.afterScan, State.settle_kept, State.answerFace_kept]

/-- The sweep, the marks and the task-stop run are those of the tally. -/
theorem State.afterScan_tally (ht : State.afterScan b s scan = t) :
    t.audit.sweep = (s.tallied scan).audit.sweep ∧ t.audit.scanned = (s.tallied scan).audit.scanned ∧
      t.audit.found = (s.tallied scan).audit.found ∧ t.audit.marks = (s.tallied scan).audit.marks ∧
      t.planner.stopRun = (s.tallied scan).planner.stopRun := by
  have hkept := State.afterScan_kept b s scan
  rw [ht] at hkept
  exact ⟨congrArg Kept.sweep hkept, congrArg Kept.scanned hkept, congrArg Kept.found hkept, congrArg Kept.marks hkept,
    congrArg Kept.stopRun hkept⟩

/-- The dwell and the image come through the tally on their course. -/
theorem State.tallied_course (s : State) (scan : Scan) : s.KeepsCourse (s.tallied scan) := by
  have hface := (s.tallied_tallies scan).face
  exact State.keepsCourse_closed.trans (s.relocatedFor_course scan)
    (.of_same (congrArg FaceUnit.image hface) (congrArg FaceUnit.dwell hface))

theorem State.tallied_values (s : State) (scan : Scan) : (s.tallied scan).values = s.values :=
  congrArg Kept.settled (s.tallied_kept scan)

theorem State.tallied_agrees (h : s.agreesWith scan) : (s.tallied scan).agreesWith scan :=
  State.agreesWith_of_image h (s.tallied_course scan).image (s.tallied_values scan)

/-- Rounds to consider do not come of an audit. -/
theorem State.tallied_quiet (hq : s.quiet) (h : (s.relocatedFor scan).audit.relocations = []) : (s.tallied scan).quiet := by
  have hconsidering : (s.relocatedFor scan).contests.considering = s.contests.considering :=
    congrArg Outer.considering (s.relocatedFor_outer scan)
  have htallies := s.tallied_tallies scan
  exact ⟨htallies.relocations.trans h,
    (congrArg ContestEngine.considering htallies.contests).trans (hconsidering.trans hq.2)⟩

/-- An audit makes no task, and then leaves the face. -/
theorem State.tallied_no_tasks (hqueue : s.planner.queue = []) (hq : s.audit.relocations = []) :
    s.NoTasks (s.tallied scan) := by
  have hcompared : s.NoTasks (s.compared scan).state :=
    Comparison.slots_keeps (P := s.NoTasks) (fun _ n h => h.readSlot n) (fun _ n a f h => h.request n a f)
      (fun _ r h => h.writeReport r) ⟨hqueue, hq, rfl⟩ _ _
  have hrelocated : s.relocatedFor scan = (s.compared scan).state := State.relocateAll_quiet _ hcompared.relocations
  have htallies := s.tallied_tallies scan
  rw [hrelocated] at htallies
  exact ⟨htallies.queue.trans hcompared.queue, htallies.relocations.trans hcompared.relocations,
    htallies.face.trans hcompared.face⟩

theorem State.tallied_mark (s : State) (scan : Scan) (i : Fin 48) : (s.tallied scan).audit.marks[i] =
    if i.val = scan.carrier then s.markFor scan else s.audit.marks[i] := by
  rw [State.tallied_marks, Fin.getElem_fin, Vector.getElem_setIfInBounds]
  simp only [eq_comm]
  rfl

/-! ### The weight and the findings (R150 to R154) -/

/-- The slots of a carrier, in order of slot number. -/
theorem SetupValues.slotsOf_eq (v : SetupValues) (carrier : Nat) :
    v.slotsOf carrier = List.range' (carrier * (v.rows * v.columns)) (v.rows * v.columns) := by
  rw [List.range'_eq_map_range]
  rfl

/-- On records that read intact the tally is left of the book, and nothing handed over waits. -/
theorem State.afterScan_book {b : State} (h : s.agreesWith scan) (hq : s.quiet) (hs : s.Sound)
    (hi : scan.image.length ≤ 1024) :
    (State.afterScan b s scan).store = (s.relocatedFor scan).store ∧
      (State.afterScan b s scan).control.log = (s.tallied scan).control.log := by
  have hcompares := Comparison.slots_compares (c := { state := s, found := 0, unknown := false }) hs
    (scan.carrier * s.values.slotsPerCarrier) scan.image
  have hrelocated : (s.relocatedFor scan).audit.relocations = [] := by
    refine hcompares.sound.relocateAll (hcompares.handed.trans ?_)
    rw [List.length_zip, List.length_range', Nat.min_self, hq.1]
    simpa using hi
  have hquiet := State.tallied_quiet hq hrelocated
  have hwork := State.answerFace_work (State.tallied_agrees h)
  have hanswered : ((s.tallied scan).answerFace scan).quiet :=
    ⟨(congrArg Work.relocations hwork).trans hquiet.1, (congrArg Work.considering hwork).trans hquiet.2⟩
  obtain ⟨hstore, hlog⟩ := State.settle_store_log b _ hanswered
  have hkeeps : ((s.tallied scan).answerFace scan).store = (s.tallied scan).store := congrArg Work.store hwork
  exact ⟨hstore.trans (hkeeps.trans (s.tallied_tallies scan).store), hlog.trans (congrArg Work.log hwork)⟩

/-- Whether a record is SUSPECT for a reason. -/
def SlotRecord.suspectFor (r : SlotRecord) (reason : SuspectReason) : Bool :=
  decide (r.state = .suspect) && decide (r.reason = some reason)

/-- The weight a record adds. -/
theorem SlotRecord.weighs_eq (r : SlotRecord) : r.weighs =
    if r.state = .occupied ∨ r.state = .pickClaimed then (r.stock.map StockData.weight).getD 0 else 0 := by
  unfold SlotRecord.weighs
  cases r.stock <;> rfl

/-- Whether the carrier is weighed, on records that read intact (R151). -/
theorem State.unweighed_eq (hs : s.Sound) (hi : scan.image.length = s.values.rows * s.values.columns) :
    (s.relocatedFor scan).unweighed scan (s.compared scan).unknown =
      (((s.values.slotsOf scan.carrier).any fun n =>
          (s.recordAt n).suspectFor .unknown || (s.recordAt n).suspectFor .unverified) ||
        (s.values.slotsOf scan.carrier).any fun n => ((s.relocatedFor scan).recordAt n).suspectFor .unknown) := by
  have hcompares := Comparison.slots_compares (c := { state := s, found := 0, unknown := false }) hs
    (scan.carrier * s.values.slotsPerCarrier) scan.image
  have hvalues : (s.relocatedFor scan).values = s.values := congrArg Kept.settled (s.relocatedFor_kept scan)
  have hbefore : ∀ r : SlotRecord, r.unweighedBefore = (r.suspectFor .unknown || r.suspectFor .unverified) :=
    fun r => Bool.and_or_distrib_left _ _ _
  have hrecords : (((List.range' (scan.carrier * s.values.slotsPerCarrier) scan.image.length).zip scan.image).map
      fun x => s.recordAt x.1) = (s.values.slotsOf scan.carrier).map s.recordAt := by
    have hslots : ((s.values.slotsOf scan.carrier).zip scan.image).map Prod.fst = s.values.slotsOf scan.carrier :=
      List.map_fst_zip (by simp [SetupValues.slotsOf_eq, hi])
    rw [hi, SetupValues.slotsPerCarrier, ← SetupValues.slotsOf_eq, ← hslots, List.map_map, hslots]
    rfl
  have hunknown : (s.compared scan).unknown = (s.values.slotsOf scan.carrier).any fun n =>
      (s.recordAt n).suspectFor .unknown || (s.recordAt n).suspectFor .unverified := by
    refine hcompares.unknown.trans ?_
    simp only [Bool.false_or, hrecords, List.any_map, Function.comp_def, hbefore]
  rw [State.unweighed, hunknown, hvalues]
  rfl

/-- The records a scan makes, on records that read intact (R144, R153). -/
theorem State.recordsFor_eq (hs : s.Sound) (hi : scan.image.length = s.values.rows * s.values.columns) :
    s.recordsFor scan =
      (((s.values.slotsOf scan.carrier).zip scan.image).filter fun x =>
        ((findingOf (s.recordAt x.1) x.2).bind Finding.kind).isSome).length +
        (s.relocatedFor scan).weightRecords scan (s.compared scan).unknown := by
  have hcompares := Comparison.slots_compares (c := { state := s, found := 0, unknown := false }) hs
    (scan.carrier * s.values.slotsPerCarrier) scan.image
  have hfound := hcompares.found
  rw [hi, Nat.zero_add, SetupValues.slotsPerCarrier, ← SetupValues.slotsOf_eq] at hfound
  exact congrArg (· + (s.relocatedFor scan).weightRecords scan (s.compared scan).unknown) hfound

/-- What the weight check and the counts come to, on records that read intact and a face that agrees with its scan: in
terms of the records as the step leaves them (R150 to R154). -/
theorem State.afterScan_counts (h : s.agreesWith scan) (hq : s.quiet) (hs : s.Sound)
    (hi : scan.image.length = s.values.rows * s.values.columns) (hroom : scan.image.length ≤ 1024)
    (ht : State.afterScan b s scan = t) {unweighed off : Bool} {expected weighed made : Nat}
    (hu : unweighed = (((s.values.slotsOf scan.carrier).any fun n =>
        (s.recordAt n).suspectFor .unknown || (s.recordAt n).suspectFor .unverified) ||
      (s.values.slotsOf scan.carrier).any fun n => (t.recordAt n).suspectFor .unknown))
    (he : expected = s.values.tare + ((s.values.slotsOf scan.carrier).map fun n =>
      if (t.recordAt n).state = .occupied ∨ (t.recordAt n).state = .pickClaimed
      then ((t.recordAt n).stock.map StockData.weight).getD 0 else 0).sum)
    (ho : off = (decide (scan.reading + s.values.weightTolerance < expected) ||
      decide (expected + s.values.weightTolerance < scan.reading)))
    (hw : weighed = if unweighed || !(off || decide (scan.reading = 65535)) then 0 else 1)
    (hm : made = (((s.values.slotsOf scan.carrier).zip scan.image).filter fun x =>
      ((findingOf (s.recordAt x.1) x.2).bind Finding.kind).isSome).length + weighed) :
    s.markFor scan = (if unweighed || decide (scan.reading = 65535) then .notChecked else if off then .mismatch else .ok) ∧
      s.recordsFor scan = made ∧ t.control.log = (s.tallied scan).control.log ∧
      (weighed = 1 → t.control.log.length < 16 → {
        body := .discrepancy .weight (.carrier scan.carrier) .absent false
          (if scan.reading = 65535 then none else some scan.reading) (some expected),
        week := s.control.week, timer := s.timer : Report } ∈ t.control.log) := by
  obtain ⟨hstore, hlog⟩ := State.afterScan_book (b := b) h hq hs hroom
  rw [ht] at hstore hlog
  have hvalues : (s.relocatedFor scan).values = s.values := congrArg Kept.settled (s.relocatedFor_kept scan)
  simp only [State.recordAt_of_store hstore] at hu he
  rw [← State.unweighed_eq hs hi] at hu
  have hexpected : expected = (s.relocatedFor scan).expectedWeight scan.carrier := by
    rw [he, State.expectedWeight, sumBy, hvalues]
    simp only [SlotRecord.weighs_eq]
  have hoff : off = (s.relocatedFor scan).offWeight scan := by
    rw [ho, State.offWeight, hvalues, hexpected]
  have hweighed : weighed = (s.relocatedFor scan).weightRecords scan (s.compared scan).unknown := by
    rw [hw, State.weightRecords, hu, hoff]
  refine ⟨by rw [State.markFor, State.weightMark, ← hu, ← hoff], by rw [State.recordsFor_eq hs hi, hm, hweighed], hlog,
    fun hone hlen => ?_⟩
  rw [hlog] at hlen ⊢
  rw [hweighed] at hone
  rw [hexpected]
  exact State.tallied_weightReport hone hlen

/-! ### The dwell put to work (R66 to R68) -/

/-- A dwell that scans at the carrier is found put to work, with something due, or has ended (R66, R73). -/
theorem State.afterScan_dwell {d : Dwell} (h : s.agreesWith scan) (hd : s.face.dwell = some d) (hp : d.phase = .scanning)
    (hc : d.carrier = scan.carrier) (hw : d.wrong = []) :
    (∃ e, (State.afterScan b s scan).face.dwell = some e ∧ e.carrier = d.carrier ∧ e.phase = .working ∧
        e.scan = scan.image ∧ e.wrong = [] ∧ e.due ≠ []) ∨
      (∀ e, (State.afterScan b s scan).face.dwell = some e → e.phase = .scanning ∧ e.wrong = [] ∧ e.elapsed = 0) := by
  obtain ⟨c, hopen, hcourse⟩ := (s.tallied_course scan).scanning hd hp
  have hcarrier : c.carrier = d.carrier := by rw [hcourse]
  rw [← hcarrier]
  exact State.settle_answered (State.tallied_agrees h) hopen (by rw [hcourse]; exact hp) (hcarrier.trans hc)
    (by rw [hcourse]; exact hw)

/-- Without a task it has ended. -/
theorem State.afterScan_no_tasks {d : Dwell} (h : s.agreesWith scan) (hq : s.quiet) (hd : s.face.dwell = some d)
    (hp : d.phase = .scanning) (hc : d.carrier = scan.carrier) (hw : d.wrong = []) (hdue : d.due = [])
    (hqueue : s.planner.queue = []) :
    ∀ e, (State.afterScan b s scan).face.dwell = some e → e.phase = .scanning ∧ e.wrong = [] ∧ e.elapsed = 0 := by
  have hnone := State.tallied_no_tasks (scan := scan) hqueue hq.1
  exact State.settle_answered_idle (State.tallied_agrees h) (by rw [hnone.face]; exact hd) hp hc hw hdue hnone.queue

/-- Where records read intact and no slot has a finding, the comparison leaves the state as it is. -/
theorem State.relocatedFor_agrees (hs : s.intact) (hq : s.audit.relocations = [])
    (hi : scan.image.length = s.values.rows * s.values.columns)
    (hnone : ∀ x ∈ (s.values.slotsOf scan.carrier).zip scan.image, findingOf (s.recordAt x.1) x.2 = none) :
    s.relocatedFor scan = s := by
  have hagree : (s.compared scan).state = s := by
    refine Comparison.slots_agree (c := { state := s, found := 0, unknown := false }) hs _ _ ?_
    rwa [hi, SetupValues.slotsPerCarrier, ← SetupValues.slotsOf_eq]
  rw [State.relocatedFor, hagree, State.relocateAll_quiet s hq]

/-- What is found of a dwell `d` that a scan has put to work as `e`: its due tasks are those handed over and the ready tasks
that join, AT_FACE; each has been asked for in turn, and every LOAD and RESTORE is lit. -/
structure State.Works (s t : State) (scan : Scan) (d e : Dwell) : Prop where
  dwell : t.face.dwell = some e
  course : (d.worked scan).continues e
  due : e.due.map Due.slot = d.due.map Due.slot ++ (s.joining d.carrier d.due).map Task.slot
  queue : t.planner.queue = s.planner.queue.map (Task.atFaceOn ((s.joining d.carrier d.due).map Task.slot))
  lanes {v : State} : v.lanes = s.lanes → (∀ n, v.taskOn n = s.taskOn n) →
    t.lanes = ((e.due.map Due.slot).foldl v.asked v).lanes
  lit {x : Due} {k : Task} : x ∈ e.due → s.taskOn x.slot = some k → (∀ l, k.work ≠ .pick l) → x.lit = true

/-- A scan without findings puts the dwell to work, where something is due. -/
theorem State.afterScan_works {d : Dwell} (h : s.agreesWith scan) (hq : s.quiet) (hsame : s.relocatedFor scan = s)
    (hd : s.face.dwell = some d) (hp : d.phase = .scanning) (hc : d.carrier = scan.carrier)
    (hdue : d.due.map Due.slot ++ (s.joining d.carrier d.due).map Task.slot ≠ []) :
    ∃ e, s.Works (State.afterScan b s scan) scan d e := by
  have htallies := s.tallied_tallies scan
  rw [hsame] at htallies
  have hquiet := State.tallied_quiet hq (hsame.symm ▸ hq.1)
  have hdwell : (s.tallied scan).face.dwell = some d := by rw [htallies.face]; exact hd
  have hopens := State.answerFace_opens (State.tallied_agrees h) hdwell hp hc
  generalize hw : (s.tallied scan).setDwell (some (d.worked scan)) = w at hopens
  have hqueue : w.planner.queue = s.planner.queue := by rw [← hw]; exact htallies.queue
  have hlanes : s.lanes = w.lanes := by rw [← hw]; exact htallies.lanes.symm
  have htasks : ∀ n, w.taskOn n = s.taskOn n := fun n => by unfold State.taskOn; rw [hqueue]
  have hjoins : w.joining d.carrier d.due = s.joining d.carrier d.due := by
    have hvalues : w.values = s.values := by rw [← hw]; exact s.tallied_values scan
    have hreceives : (s.tallied scan).face.receiving = s.face.receiving := by rw [htallies.face]
    have hreceiving : w.face.receiving = s.face.receiving := by rw [← hw]; exact hreceives
    have hready : ∀ k, w.ready k = s.ready k := fun k =>
      State.ready_map (f := id) (by simpa using hqueue) (fun _ => ⟨rfl, rfl⟩) (by rw [hlanes]) hreceiving k
    unfold State.joining State.taskCarrier
    simp only [hqueue, hvalues, hready]
  obtain ⟨e, href⟩ := State.refreshDwell_refreshes (s := w) (d := d.worked scan) (by rw [← hw]; rfl) rfl
  have hslots : e.due.map Due.slot = d.due.map Due.slot ++ (s.joining d.carrier d.due).map Task.slot :=
    href.due.trans (by rw [← hjoins]; rfl)
  have hleft : e.due ≠ [] := fun he => hdue (by rw [← hslots, he]; rfl)
  obtain ⟨hfound, hfinal, hpockets⟩ := State.settle_refreshed (b := b) (s := w) (by rw [← hw]; exact hquiet)
    (by rw [← hw]; rfl) rfl href hleft
  rw [State.afterScan, hopens, State.testCompletion_due href.dwell hleft]
  refine ⟨e, hfound, href.course, hslots, hfinal.trans ?_,
    fun hv hn => hpockets.trans (href.lanes (hv.trans hlanes) fun n => by rw [hn, htasks]), fun {x k} hx hk hshelf => ?_⟩
  · rw [href.queue, hqueue]
    exact congrArg (fun js : List Task => s.planner.queue.map (Task.atFaceOn (js.map Task.slot))) hjoins
  · have hfoundTask : w.refreshDwell.taskOn x.slot = some (k.atFaceOn ((w.joining d.carrier d.due).map Task.slot)) := by
      rw [State.taskOn_map href.queue (Task.atFaceOn_slot _), htasks, hk]
      rfl
    have hlit := href.answered x hx
    rw [State.lightOne_shelf hfoundTask (by simpa using hshelf), Prod.mk.injEq] at hlit
    exact (congrArg Due.lit hlit.2).symm

/-- The tasks that have joined are AT_FACE. -/
theorem State.Works.atFace {d e : Dwell} (h : s.Works t scan d e) {y : Task} (hy : y ∈ t.planner.queue)
    (hslot : y.slot ∈ (s.joining d.carrier d.due).map Task.slot) : y.state = .atFace := by
  rw [h.queue] at hy
  obtain ⟨z, _, rfl⟩ := List.mem_map.1 hy
  rw [Task.atFaceOn_slot] at hslot
  rw [Task.atFaceOn, if_pos hslot]
  rfl

/-- The lamps of a dwell put to work without a wrong event (R67). -/
theorem State.Works.lamp {d e : Dwell} (h : s.Works t scan d e) (hw : d.wrong = []) {i n : Nat}
    (hn : d.carrier * (t.values.rows * t.values.columns) + i = n) :
    (n ∉ e.due.map Due.slot ∨ t.values.rows * t.values.columns ≤ i → t.slotLamp i = .off) ∧
      (∀ k, i < t.values.rows * t.values.columns → n ∈ e.due.map Due.slot → s.taskOn n = some k →
        t.slotLamp i = k.work.lamp (t.assignedPocket n).isSome) := by
  have hplace : e.carrier * (t.values.rows * t.values.columns) + i = n := by rw [h.course]; exact hn
  have hworking : e.phase = .working := by rw [h.course]; rfl
  have hright : e.wrong = [] := by rw [h.course]; exact hw
  refine ⟨fun hoff => ?_, fun k hi hmem hk => ?_⟩
  · rcases hoff with hout | hbeyond
    · exact State.slotLamp_not_due h.dwell hright (by rw [hplace]; exact hout)
    · exact State.slotLamp_dark (.inr (.inr hbeyond))
  · have hfound : t.taskOn n = some (k.atFaceOn ((s.joining d.carrier d.due).map Task.slot)) := by
      rw [State.taskOn_map h.queue (Task.atFaceOn_slot _), hk]
      rfl
    have hlamp := State.slotLamp_due h.dwell hworking hright hi hplace hmem hfound fun x hx hxn hshelf =>
      h.lit hx (by rw [hxn, hk]) (by simpa using hshelf)
    rwa [Task.atFaceOn_work] at hlamp

end

end Sys2Proof.Machine
end

section
/-! SUPPORT. The proof of the statement about AUDIT_SCAN. -/

namespace Sys2Proof.Machine

/-- Settles O57: the step of the scan is its tally, the answer to the face and the end of the step. The counts are those of the
tally (`tallied_sweep`, `tallied_no_sweep`, `afterScan_counts`), the dwell is the one refreshed in the answer
(`afterScan_dwell`, `afterScan_works`), and the pocket rule and the dark and fast lamps are read off their definitions. -/
theorem auditScanWorksTheScan : Obligations.AuditScanWorksTheScan := by
  intro s scan rest hrun hscans v slots steady
  have hkept := State.afterScan_kept s (s.withScans rest) scan
  refine ⟨_, exec_auditScan hrun hscans, ?_⟩
  generalize ht : State.afterScan s (s.withScans rest) scan = t at hkept
  obtain ⟨hsweep, hscanned, hfound, hmarks, hstops⟩ := State.afterScan_tally ht
  have hsettings : t.values = v := (congrArg Kept.settled hkept).trans (State.tallied_values _ scan)
  refine ⟨?_, ?_, ?_, ?_, ?_, ?_, ?_, fun u l => State.pocketRule_iff, ?_⟩
  · exact congrArg Kept.scans (hkept.trans (State.tallied_kept _ scan))
  · rw [hsweep, hscanned, hfound, hmarks, hstops, hkept, State.tallied_kept]
    rfl
  · intro i hi
    rw [hmarks]
    exact (State.tallied_mark _ scan i).trans (if_neg hi)
  · intro hout
    rw [hsweep, hscanned, hfound, hstops]
    exact State.tallied_no_sweep hout
  · intro hin
    rw [hsweep, hscanned, hfound, hstops]
    obtain ⟨hleft, hruns, hscans, hfinds⟩ := State.tallied_sweep (s := s.withScans rest) hin
    refine ⟨hleft, hruns, fun he => ?_, fun hne => ?_⟩
    · rw [hleft] at he
      rw [hscans, hfinds, if_pos he, if_pos he]
      exact ⟨rfl, rfl⟩
    · rw [hleft] at hne
      rw [hscans, if_neg hne]
      rfl
  · intro hsteady hquiet hintact htable _ hlength hcarrier hfits unnamed unweighed expected off weighed made report
    have hroom : scan.image.length ≤ 1024 := by
      have hone : v.rows * v.columns ≤ v.slots := Nat.le_mul_of_pos_left _ (Nat.zero_lt_of_lt hcarrier)
      unfold maxPositions at hfits
      omega
    obtain ⟨hmark, hmade, hlog, hweight⟩ := State.afterScan_counts (s := s.withScans rest) (unweighed := unweighed)
      (off := off) (expected := expected) (weighed := weighed) (made := made) hsteady hquiet ⟨hintact, htable⟩ hlength hroom
      ht rfl rfl rfl rfl rfl
    refine ⟨fun i hi => ?_, hweight, fun hin hne => ?_, fun hin hempty hlen => ?_⟩
    · rw [hmarks, ← hmark]
      exact (State.tallied_mark _ scan i).trans (if_pos hi)
    · obtain ⟨hleft, _, _, hfinds⟩ := State.tallied_sweep (s := s.withScans rest) hin
      rw [hsweep, hleft] at hne
      rw [hfound, hfinds, if_neg hne, hmade]
      rfl
    · obtain ⟨hleft, _⟩ := State.tallied_sweep (s := s.withScans rest) hin
      rw [hsweep, hleft] at hempty
      rw [hlog] at hlen ⊢
      rw [← hmade]
      exact State.tallied_done hin hempty hlen
  · intro d hsteady hquiet hd hp hc hw
    rw [← ht]
    refine ⟨State.afterScan_dwell (s := s.withScans rest) hsteady hd hp hc hw,
      State.afterScan_no_tasks (s := s.withScans rest) hsteady hquiet hd hp hc hw, ?_⟩
    intro hintact _ _ hlength _ _ hnone joined due asked hdue
    obtain ⟨e, hworks⟩ := State.afterScan_works (b := s) (s := s.withScans rest) hsteady hquiet
      (State.relocatedFor_agrees hintact hquiet.1 hlength hnone) hd hp hc hdue
    rw [ht] at hworks ⊢
    have hslots : e.due.map Due.slot = due := hworks.due
    have hcarrier : e.carrier = d.carrier := by rw [hworks.course]; rfl
    have hworking : e.phase = .working := by rw [hworks.course]; rfl
    have hright : e.wrong = [] := by rw [hworks.course]; exact hw
    refine ⟨⟨e, hworks.dwell, hcarrier, hworking, hright, hslots⟩, fun y => hworks.atFace, fun p => ?_, fun i => ?_⟩
    · unfold State.pocket
      rw [hworks.lanes (v := s) rfl fun _ => rfl, hslots]
      rfl
    · have hlamp := hworks.lamp hw (i := i.val) (by rw [hc, hsettings])
      rw [hsettings, hslots] at hlamp
      exact hlamp
  · refine fun u i => ⟨fun hdark => State.slotLamp_dark (hdark.imp_right (Or.imp_right ?_)), fun _ _ =>
      State.slotLamp_wrong⟩
    rintro ⟨hi, hv⟩
    rw [hv]
    exact hi

end Sys2Proof.Machine
end

section
/-! SUPPORT. The order in which a computation offers slots (R87 to R89): sorting by a measure keeps equal slots by number, and
a SET line takes the first head whose window holds enough members. -/

namespace Sys2Proof.Machine

/-! ### Sorting by a measure -/

theorem insertSorted_perm {α : Type} (before : α → α → Bool) (x : α) (xs : List α) :
    (insertSorted before x xs).Perm (x :: xs) := by
  induction xs with
  | nil => exact .refl _
  | cons y rest ih =>
    unfold insertSorted
    split
    · exact (ih.cons y).trans (.swap x y rest)
    · exact .refl _

/-- Sorting loses and adds nothing. -/
theorem sortBy_perm {α : Type} (before : α → α → Bool) (xs : List α) : (sortBy before xs).Perm xs := by
  have hfold : ∀ (ys acc : List α),
      (ys.foldl (fun acc x => insertSorted (fun y z => !before z y) x acc) acc).Perm (ys ++ acc) := by
    intro ys
    induction ys with
    | nil => exact fun acc => .refl _
    | cons y rest ih => exact fun acc => (ih _).trans (((insertSorted_perm _ y acc).append_left rest).trans List.perm_middle)
  simpa [sortBy] using hfold xs []

/-- The lesser measure first, equal measures by number. -/
def precedes (measure : Nat → Nat) (a b : Nat) : Prop := measure a < measure b ∨ (measure a = measure b ∧ a < b)

theorem precedes.measure_le {measure : Nat → Nat} {a b : Nat} (h : precedes measure a b) : measure a ≤ measure b :=
  h.elim Nat.le_of_lt fun he => Nat.le_of_eq he.1

/-- A number behind all those already sorted keeps its place behind the ones of its own measure. -/
theorem insertSorted_precedes {measure : Nat → Nat} {x : Nat} {xs : List Nat} (h : xs.Pairwise (precedes measure))
    (hx : ∀ y ∈ xs, y < x) :
    (insertSorted (fun y z => !decide (measure z < measure y)) x xs).Pairwise (precedes measure) := by
  induction xs with
  | nil => exact List.pairwise_singleton _ x
  | cons y rest ih =>
    obtain ⟨hy, hrest⟩ := List.pairwise_cons.1 h
    obtain ⟨hyx, hrx⟩ := List.forall_mem_cons.1 hx
    unfold insertSorted
    by_cases hlt : measure x < measure y
    · rw [if_neg (by simp [hlt])]
      refine List.pairwise_cons.2 ⟨List.forall_mem_cons.2 ⟨.inl hlt, fun z hz => .inl ?_⟩, h⟩
      exact hlt.trans_le (hy z hz).measure_le
    · rw [if_pos (by simp [hlt])]
      refine List.pairwise_cons.2 ⟨fun z hz => ?_, ih hrest hrx⟩
      rcases List.mem_cons.1 ((insertSorted_perm _ x rest).mem_iff.1 hz) with rfl | hz
      · exact (Nat.lt_or_eq_of_le (Nat.le_of_not_lt hlt)).imp_right fun he => ⟨he, hyx⟩
      · exact hy z hz

/-- Rising numbers sorted by a measure stand in its order, equal measures by number. -/
theorem sortBy_precedes (measure : Nat → Nat) {xs : List Nat} (h : xs.Pairwise (· < ·)) :
    (sortBy (fun a b => decide (measure a < measure b)) xs).Pairwise (precedes measure) := by
  have hfold : ∀ (ys acc : List Nat), acc.Pairwise (precedes measure) → ys.Pairwise (· < ·) →
      (∀ a ∈ acc, ∀ y ∈ ys, a < y) →
      (ys.foldl (fun acc x => insertSorted (fun y z => !decide (measure z < measure y)) x acc) acc).Pairwise
        (precedes measure) := by
    intro ys
    induction ys with
    | nil => exact fun acc hacc _ _ => hacc
    | cons y rest ih =>
      intro acc hacc hys hbelow
      obtain ⟨hy, hrest⟩ := List.pairwise_cons.1 hys
      refine ih _ (insertSorted_precedes hacc fun a ha => hbelow a ha y (List.mem_cons_self ..)) hrest fun a ha z hz => ?_
      rcases List.mem_cons.1 ((insertSorted_perm _ y acc).mem_iff.1 ha) with rfl | ha
      · exact hy z hz
      · exact hbelow a ha z (List.mem_cons_of_mem _ hz)
  exact hfold xs [] .nil h fun _ ha => by cases ha

theorem rangeFilter_rises (n : Nat) (test : Nat → Bool) : ((List.range n).filter test).Pairwise (· < ·) :=
  List.pairwise_lt_range.filter _

/-- Where a test that fails goes on failing, the members of a list that satisfy it stand at its front. -/
theorem takeWhile_eq_filter {α : Type} {test : α → Bool} {xs : List α}
    (h : xs.Pairwise fun a b => test b = true → test a = true) : xs.takeWhile test = xs.filter test := by
  induction xs with
  | nil => rfl
  | cons x rest ih =>
    obtain ⟨hx, hrest⟩ := List.pairwise_cons.1 h
    cases ht : test x with
    | true => simp [ht, ih hrest]
    | false =>
      have hnone : ∀ y ∈ rest, ¬test y = true := fun y hy hty => by simp [ht] at hx; simp [hx y hy] at hty
      simp [ht, List.filter_eq_nil_iff.2 hnone]

/-! ### Eligible slots (R84, R85) -/

theorem State.heldTentatively_iff {s : State} {n : Nat} :
    s.heldTentatively n = true ↔ ∃ c ∈ s.contests.records, n ∈ c.slots := by
  simp [State.heldTentatively]

theorem State.pickFit_iff {s : State} {l : OrderLine} {n : Nat} : s.pickFit l n = true ↔
    (s.recordAt n).state = .occupied ∧
      (∃ d, (s.recordAt n).stock = some d ∧ d.article = l.article ∧ s.control.week - d.dotWeek ≤ s.values.saleLimit) ∧
      (l.mode = .set → s.markOf (s.values.carrierOf n) ≠ .mismatch) := by
  have hstock : (match (s.recordAt n).stock with
      | none => false
      | some d => decide (d.article = l.article) && decide (ageAt s.control.week d.dotWeek ≤ s.values.saleLimit)) = true ↔
      ∃ d, (s.recordAt n).stock = some d ∧ d.article = l.article ∧ s.control.week - d.dotWeek ≤ s.values.saleLimit := by
    cases (s.recordAt n).stock <;> simp [ageAt]
  have hmark : (decide (l.mode = .loose) || decide (s.markOf (s.values.carrierOf n) ≠ .mismatch)) = true ↔
      (l.mode = .set → s.markOf (s.values.carrierOf n) ≠ .mismatch) := by
    cases l.mode <;> simp
  unfold State.pickFit
  simp only [Bool.and_eq_true, hmark, and_assoc]
  exact and_congr decide_eq_true_iff (and_congr_left' hstock)

theorem State.storeFit_iff {s : State} {size n : Nat} : s.storeFit size n = true ↔
    (s.recordAt n).state = .empty ∧ size ≤ s.values.rowClassOf n := by
  simp [State.storeFit]

/-- Eligible is the slot of the table that is fit and that no contest record holds. -/
theorem State.mem_eligible {s : State} {before : Nat → Nat → Bool} {fit : Nat → Bool} {n : Nat} :
    n ∈ sortBy before (s.allSlots.filter fun n => fit n && !s.heldTentatively n) ↔
      n < s.values.slots ∧ fit n = true ∧ ¬∃ c ∈ s.contests.records, n ∈ c.slots := by
  rw [(sortBy_perm _ _).mem_iff, List.mem_filter, ← State.heldTentatively_iff]
  simp [State.allSlots]

theorem State.pickEligible_oldestFirst (s : State) (l : OrderLine) : (s.pickEligible l).Pairwise (precedes s.dotAt) :=
  sortBy_precedes s.dotAt (rangeFilter_rises _ _)

/-! ### The group of a SET line (R88) -/

/-- The members of the window of the head at place `i`: those from there on whose DOT week is at most `w` later. -/
def State.windowFrom (s : State) (w : Nat) (picks : List Nat) (i : Nat) : List Nat :=
  (picks.drop i).filter fun n => decide (s.dotAt n ≤ s.dotAt (picks.getD i 0) + w)

theorem State.windowFrom_succ (s : State) (w head : Nat) (rest : List Nat) (i : Nat) :
    s.windowFrom w (head :: rest) (i + 1) = s.windowFrom w rest i := rfl

/-- Oldest first, a window ends at the first slot that is too young. -/
theorem State.windowFrom_zero {s : State} {w head : Nat} {rest : List Nat}
    (h : (head :: rest).Pairwise (precedes s.dotAt)) :
    (head :: rest).takeWhile (fun n => decide (s.dotAt n ≤ s.dotAt head + w)) = s.windowFrom w (head :: rest) 0 :=
  takeWhile_eq_filter (h.imp fun hab hb => decide_eq_true (hab.measure_le.trans (of_decide_eq_true hb)))

theorem State.firstSet_cons {s : State} {w r head : Nat} {rest : List Nat} (h : (head :: rest).Pairwise (precedes s.dotAt)) :
    s.firstSet w r (head :: rest) =
      if r ≤ (s.windowFrom w (head :: rest) 0).length then some ((s.windowFrom w (head :: rest) 0).take r)
      else s.firstSet w r rest := by
  rw [State.firstSet, State.windowFrom_zero h]

/-- The first head whose window holds enough members gives the group. -/
theorem State.firstSet_some {s : State} {w r : Nat} {picks : List Nat} (h : picks.Pairwise (precedes s.dotAt)) {i : Nat}
    (hi : i < picks.length) (henough : r ≤ (s.windowFrom w picks i).length)
    (hfirst : ∀ j, j < i → (s.windowFrom w picks j).length < r) :
    s.firstSet w r picks = some ((s.windowFrom w picks i).take r) := by
  induction picks generalizing i with
  | nil => cases hi
  | cons head rest ih =>
    rw [State.firstSet_cons h]
    cases i with
    | zero => rw [if_pos henough]
    | succ i =>
      rw [if_neg (Nat.not_le.2 (hfirst 0 i.succ_pos))]
      exact ih (List.pairwise_cons.1 h).2 (Nat.lt_of_succ_lt_succ hi) henough fun j hj => hfirst (j + 1) (Nat.succ_lt_succ hj)

theorem State.firstSet_none {s : State} {w r : Nat} {picks : List Nat} (h : picks.Pairwise (precedes s.dotAt))
    (hfew : ∀ i, i < picks.length → (s.windowFrom w picks i).length < r) : s.firstSet w r picks = none := by
  induction picks with
  | nil => rfl
  | cons head rest ih =>
    rw [State.firstSet_cons h, if_neg (Nat.not_le.2 (hfew 0 (Nat.succ_pos _)))]
    exact ih (List.pairwise_cons.1 h).2 fun i hi => hfew (i + 1) (Nat.succ_lt_succ hi)

theorem State.pickOffer_loose {s : State} {l : OrderLine} (h : l.mode = .loose) :
    s.pickOffer l = (s.pickEligible l).take (min l.remainder s.freeTaskSpace) := by
  simp [State.pickOffer, h]

/-- A SET line with a remainder that fits is offered its first group, or nothing. -/
theorem State.pickOffer_set {s : State} {l : OrderLine} (h : l.mode = .set) :
    s.pickOffer l = if l.remainder = 0 ∨ s.freeTaskSpace < l.remainder then []
      else (s.firstSet s.values.window l.remainder (s.pickEligible l)).getD [] := by
  simp [State.pickOffer, h]

/-! ### The order of a store (R89) -/

/-- A distance on the loop is less than the number of carriers (00_scope, Conventions). -/
theorem SetupValues.distanceBetween_lt {v : SetupValues} (h : 0 < v.carriers) (a b : Nat) :
    v.distanceBetween a b < v.carriers := (Nat.min_le_left _ _).trans_lt (Nat.mod_lt _ h)

/-- Setup values that fit: at most 48 carriers, and slots within the record positions (R1, R171). -/
theorem State.setup_bounds {s : State} (h : s.setupOk = true) :
    0 < s.values.carriers ∧ s.values.carriers ≤ 48 ∧ s.values.slots ≤ 512 := by
  simp only [State.setupOk, SetupValues.inRange, SetupValues.fits, between, Bool.and_eq_true, decide_eq_true_eq] at h
  unfold State.values
  have hslots : s.control.settled.slots ≤ maxPositions := by tauto
  have hcarriers : 8 ≤ s.control.settled.carriers ∧ s.control.settled.carriers ≤ 48 := by tauto
  exact ⟨by omega, hcarriers.2, hslots⟩

theorem State.planningDistance_lt {s : State} (h : s.setupOk = true) (n : Nat) : s.planningDistance n < 64 := by
  obtain ⟨hpos, hmost, _⟩ := State.setup_bounds h
  unfold State.planningDistance
  split
  · decide
  · exact (SetupValues.distanceBetween_lt hpos _ _).trans_le (hmost.trans (by decide))

/-- The one number by which stores are sorted has waste first, then distance, then the slot number. -/
theorem State.storeOrder_lt {s : State} (h : s.setupOk = true) {size a b : Nat} (ha : a < 512) (hb : b < 512)
    (hab : precedes (s.storeOrder size) a b) :
    s.values.rowClassOf a - size < s.values.rowClassOf b - size ∨
      (s.values.rowClassOf a - size = s.values.rowClassOf b - size ∧
        (s.planningDistance a < s.planningDistance b ∨ (s.planningDistance a = s.planningDistance b ∧ a < b))) := by
  have hfara := State.planningDistance_lt h a
  have hfarb := State.planningDistance_lt h b
  unfold precedes State.storeOrder maxPositions at hab
  omega

theorem State.storeEligible_sorted {s : State} (h : s.setupOk = true) (size : Nat) :
    (s.storeEligible size).Pairwise fun a b =>
      s.values.rowClassOf a - size < s.values.rowClassOf b - size ∨
        (s.values.rowClassOf a - size = s.values.rowClassOf b - size ∧
          (s.planningDistance a < s.planningDistance b ∨ (s.planningDistance a = s.planningDistance b ∧ a < b))) := by
  have hin : ∀ n ∈ s.storeEligible size, n < 512 := fun n hn =>
    (State.mem_eligible.1 hn).1.trans_le (State.setup_bounds h).2.2
  exact (sortBy_precedes (s.storeOrder size) (rangeFilter_rises _ _)).imp_of_mem fun ha hb hab =>
    State.storeOrder_lt h (hin _ ha) (hin _ hb) hab

theorem State.receivingRoom_iff {s : State} {id : Nat} : s.receivingRoom id = true ↔
    (∃ x ∈ s.face.receiving, x.inboundId = id) ∨ s.face.receiving.length < 4 := by
  unfold State.receivingRoom
  rw [Bool.or_eq_true, decide_eq_true_iff]
  simp [State.receivingOf, receivingCapacity]

/-! ### The statement -/

/-- Settles O33: eligible are the fit slots that are not held (`mem_eligible`), in the order a stable sort gives
(`sortBy_precedes`, `storeOrder_lt`); a SET line's group is that of the first head whose window is large enough
(`firstSet_some`, `firstSet_none`). -/
theorem offersFollowTheirOrder : Obligations.OffersFollowTheirOrder := by
  intro s hsetup v isHeld space
  refine ⟨fun l n => State.pickFit_iff, fun size n => State.storeFit_iff, fun l => ?_, fun o => ?_⟩
  · intro picks r group
    have hsorted := s.pickEligible_oldestFirst l
    refine ⟨fun n => State.mem_eligible, hsorted, State.pickOffer_loose, ?_, ?_, ?_⟩
    · intro hset hnone
      exact (State.pickOffer_set hset).trans (if_pos hnone)
    · intro i hset hpos hfits hi henough hfirst
      have hroom : ¬(l.remainder = 0 ∨ s.freeTaskSpace < l.remainder) :=
        not_or.2 ⟨Nat.ne_of_gt hpos, Nat.not_lt.2 hfits⟩
      rw [State.pickOffer_set hset, if_neg hroom]
      exact congrArg (fun g => g.getD []) (State.firstSet_some hsorted hi henough hfirst)
    · intro hset hfew
      have hnone : s.firstSet s.values.window l.remainder (s.pickEligible l) = none := State.firstSet_none hsorted hfew
      rw [State.pickOffer_set hset, hnone]
      exact ite_self _
  · intro stores waste far
    refine ⟨fun n => State.mem_eligible, State.storeEligible_sorted hsetup o.stock.size, ?_⟩
    simp only [← State.receivingRoom_iff]
    rfl

end Sys2Proof.Machine
end

section
/-! SUPPORT. What the opening of rounds does to the records of their references (R100), and what a frame handed over leaves
of the rounds its owner opens (R81, R82, R101). -/

namespace Sys2Proof.Machine

/-! ### Records ended (R100) -/

/-- A state whose transmit queue alone may differ. -/
def State.SameButTx (s t : State) : Prop := t = s.setPort { s.port with tx := t.port.tx }

theorem State.SameButTx.refl (s : State) : s.SameButTx s := rfl

theorem State.SameButTx.trans {s t u : State} (h : s.SameButTx t) (g : t.SameButTx u) : s.SameButTx u := by
  unfold State.SameButTx at *
  rw [h] at g
  exact g

theorem State.SameButTx.contests {s t : State} (h : s.SameButTx t) : t.contests = s.contests := by
  unfold State.SameButTx at h
  rw [h]
  rfl

theorem State.withdrawBid_sameButTx (s : State) (c : Contest) : s.SameButTx (s.withdrawBid c) := by
  unfold State.withdrawBid; split <;> rfl

theorem State.withdrawClaim_sameButTx (s : State) (c : Contest) : s.SameButTx (s.withdrawClaim c) := by
  unfold State.withdrawClaim; split <;> rfl

/-- What the opening of a round makes of one record. -/
def endVisit (ref : Ref) (t : State) (c : Contest) : State × Option Contest :=
  if decide (c.ref = ref) then t.endRecord c else (t, some c)

theorem endVisit_ended (ref : Ref) (t : State) (c : Contest) :
    t.SameButTx (endVisit ref t c).1 ∧ (endVisit ref t c).2 = c.ended ref := by
  unfold endVisit State.endRecord Contest.ended
  by_cases href : c.ref = ref
  · by_cases hclosed : c.state = .closed
    · simpa [href, hclosed] using State.SameButTx.refl t
    · by_cases hsending : c.claimFrame = some .sending
      · simpa [href, hclosed, hsending] using State.SameButTx.refl t
      · simpa [href, hclosed, hsending, State.withdrawOwn] using
          (t.withdrawBid_sameButTx c).trans (State.withdrawClaim_sameButTx _ c)
  · simpa [href] using State.SameButTx.refl t

theorem endFold_ended (ref : Ref) (cs : List Contest) (acc : State × List Contest) :
    let r := cs.foldl (fun acc c => ((endVisit ref acc.1 c).1, acc.2 ++ (endVisit ref acc.1 c).2.toList)) acc
    acc.1.SameButTx r.1 ∧ r.2 = acc.2 ++ cs.filterMap (Contest.ended ref) := by
  induction cs generalizing acc with
  | nil => exact ⟨.refl _, (List.append_nil _).symm⟩
  | cons c rest ih =>
    obtain ⟨hstate, hended⟩ := endVisit_ended ref acc.1 c
    obtain ⟨hrest, hrecords⟩ := ih ((endVisit ref acc.1 c).1, acc.2 ++ (endVisit ref acc.1 c).2.toList)
    refine ⟨hstate.trans hrest, hrecords.trans ?_⟩
    rw [hended, List.append_assoc]
    cases hc : c.ended ref <;> simp [hc]

/-- A record that has ended for a reference stays as it is when the reference's records are ended once more. -/
theorem filterMap_ended_twice (ref : Ref) (records : List Contest) :
    (records.filterMap (Contest.ended ref)).filterMap (Contest.ended ref) = records.filterMap (Contest.ended ref) := by
  have hone : ∀ c : Contest, (c.ended ref).bind (Contest.ended ref) = c.ended ref := by
    intro c
    unfold Contest.ended
    split_ifs with hopen hsending <;> simp [hopen]
  rw [List.filterMap_filterMap]
  exact List.filterMap_congr fun c _ => hone c

/-! ### Rounds that open (R100) -/

/-- `t` is `s` after the records of some references have ended, in turn, and rounds have joined those to consider. The
offers are left aside. -/
structure State.RoundsOpen (s t : State) (refs : List Ref) (rounds : List RoundOpen) : Prop where
  records : t.contests.records = refs.foldl (fun xs ref => xs.filterMap (Contest.ended ref)) s.contests.records
  considering : t.contests.considering = s.contests.considering ++ rounds
  computing : t.contests.computing = s.contests.computing
  relinquish : t.contests.relinquish = s.contests.relinquish
  rest : t = (s.setContests t.contests).setPort { s.port with tx := t.port.tx }

namespace State.RoundsOpen

variable {s t u : State} {refs more : List Ref} {rounds further : List RoundOpen}

theorem refl (s : State) : s.RoundsOpen s [] [] := ⟨rfl, (List.append_nil _).symm, rfl, rfl, rfl⟩

theorem trans (h : s.RoundsOpen t refs rounds) (g : t.RoundsOpen u more further) :
    s.RoundsOpen u (refs ++ more) (rounds ++ further) where
  records := by rw [g.records, h.records, List.foldl_append]
  considering := by rw [g.considering, h.considering, List.append_assoc]
  computing := g.computing.trans h.computing
  relinquish := g.relinquish.trans h.relinquish
  rest := by
    have hu := g.rest
    rw [h.rest] at hu
    exact hu

theorem kept (h : s.RoundsOpen t refs rounds) : t.kept = s.kept := by rw [h.rest]; rfl
theorem lanes (h : s.RoundsOpen t refs rounds) : t.lanes = s.lanes := by rw [h.rest]; rfl
theorem audit (h : s.RoundsOpen t refs rounds) : t.audit = s.audit := by rw [h.rest]; rfl
theorem store (h : s.RoundsOpen t refs rounds) : t.store = s.store := by rw [h.rest]; rfl

/-- The offers may change meanwhile. -/
theorem setOffers (h : s.RoundsOpen t refs rounds) (offers : List Offer) :
    s.RoundsOpen (t.setContests { t.contests with offers := offers }) refs rounds where
  records := h.records
  considering := h.considering
  computing := h.computing
  relinquish := h.relinquish
  rest := by
    have ht := congrArg (fun v : State => v.setContests { t.contests with offers := offers }) h.rest
    exact ht

end State.RoundsOpen

/-- Ending the records of a reference opens no round. -/
theorem State.endRecords_roundsOpen (s : State) (ref : Ref) :
    s.RoundsOpen (s.endRecords fun c => decide (c.ref = ref)) [ref] [] := by
  obtain ⟨hstate, hrecords⟩ := endFold_ended ref s.contests.records (s, [])
  have hwalk : s.endRecords (fun c => decide (c.ref = ref)) = s.walkRecords (endVisit ref) := rfl
  rw [hwalk]
  unfold State.walkRecords
  simp only
  rw [hrecords, hstate]
  exact ⟨rfl, (List.append_nil _).symm, rfl, rfl, rfl⟩

@[simp] theorem State.endRecords_offers (s : State) (ref : Ref) :
    (s.endRecords fun c => decide (c.ref = ref)).contests.offers = s.contests.offers := by
  obtain ⟨hstate, _⟩ := endFold_ended ref s.contests.records (s, [])
  have hoffers := congrArg ContestEngine.offers hstate.contests
  exact hoffers

theorem State.openRound_roundsOpen (s : State) (o : RoundOpen) : s.RoundsOpen (s.openRound o) [o.ref] [o] := by
  have h := s.endRecords_roundsOpen o.ref
  unfold State.openRound
  refine ⟨h.records, ?_, h.computing, h.relinquish, ?_⟩
  · exact congrArg (· ++ [o]) (h.considering.trans (List.append_nil _))
  · have ht := congrArg (fun v : State => v.setContests { (s.endRecords fun c => decide (c.ref = o.ref)).contests with
      considering := (s.endRecords fun c => decide (c.ref = o.ref)).contests.considering ++ [o] }) h.rest
    exact ht

@[simp] theorem State.openRound_offers (s : State) (o : RoundOpen) : (s.openRound o).contests.offers = s.contests.offers :=
  s.endRecords_offers o.ref

/-- Rounds opened one after the other. -/
theorem State.openRounds_roundsOpen (s : State) (rounds : List RoundOpen) :
    s.RoundsOpen (rounds.foldl State.openRound s) (rounds.map RoundOpen.ref) rounds := by
  induction rounds generalizing s with
  | nil => exact .refl s
  | cons o rest ih => exact (s.openRound_roundsOpen o).trans (ih _)

theorem State.openRounds_offers (s : State) (rounds : List RoundOpen) :
    (rounds.foldl State.openRound s).contests.offers = s.contests.offers := by
  induction rounds generalizing s with
  | nil => rfl
  | cons o rest ih => exact (ih _).trans (s.openRound_offers o)

/-! ### A frame handed over (R160) -/

/-- The step of a frame in its owner's hands. -/
theorem State.handed_next {s : State} {h : Heard} {k : FrameKind} (hh : s.handed h k) {kind : FrameKind → Bool}
    (hk : kind k = true) (hs : s.control.service ≠ .setupWait) (owner : Heard → State → State) :
    (s.during fun t => t.handOver kind (!t.inSetupWait) owner).goOn = .next (State.settle s (owner h s).inHand) := by
  have htaken : (!s.inSetupWait) = true := by simp [State.inSetupWait, hs]
  rw [State.during_next hh.1, State.handOver, State.headFor_handed hh hk, htaken]
  rfl

/-- The rounds to consider are considered with the frame in hand, once the LOAD tasks handed over have been relocated. -/
theorem State.inHand_considers {u : State} (hc : u.contests.computing = none) (b : State) :
    u.inHand.relocateAll.considers (State.settle b u.inHand) u.contests.considering :=
  State.settle_considers b u.inHand hc

/-- With nothing handed over and no computation in progress, the rounds considered are those that have opened. -/
theorem State.RoundsOpen.considers {s u : State} {refs : List Ref} {rounds : List RoundOpen}
    (h : s.RoundsOpen u refs rounds) (hq : s.quiet) (hc : s.contests.computing = none) (b : State) :
    u.inHand.considers (State.settle b u.inHand) rounds := by
  have hnow := State.inHand_considers (h.computing.trans hc) b
  have hrelocations : u.inHand.audit.relocations = [] := (congrArg AuditUnit.relocations h.audit).trans hq.1
  rwa [State.relocateAll_quiet _ hrelocations, h.considering, hq.2] at hnow

end Sys2Proof.Machine
end

section
/-! SUPPORT. What an INBOUND (R98), a bid result (R102) and an ORDER (R121) do, and the proofs of the statements about
them. -/

namespace Sys2Proof.Machine

/-! ### A bid result (R95, R102, R162) -/

section
variable {s : State} {c : Computation} (hc : s.contests.computing = some c)
include hc

theorem State.takeResult_none (hr : c.result = none) :
    s.takeResult = s.setContests { s.contests with computing := none } := by
  unfold State.takeResult
  simp only [hc, hr]

theorem State.takeResult_full (hr : s.txRoom = false) :
    s.takeResult = s.setContests { s.contests with computing := none } := by
  have hfull : (s.setContests { s.contests with computing := none }).txRoom = false := hr
  unfold State.takeResult
  simp only [hc, hfull]
  cases c.result <;> rfl

/-- A bid makes its record and queues its BID. -/
theorem State.takeResult_bid {b : BidResult} (hr : c.result = some b) (hroom : s.txRoom = true) :
    s.takeResult = (s.setContests { s.contests with
        computing := none, records := s.contests.records ++ [s.recordOf c.opening b] }).queueFrame
      (bidFrameOf s.own (s.recordOf c.opening b)) := by
  have hfree : (s.setContests { s.contests with computing := none }).txRoom = true := hroom
  unfold State.takeResult
  simp only [hc, hr, hfree]
  rfl

/-- In each case the computation has ended, and the rounds that wait still do. -/
theorem State.takeResult_parts : s.takeResult.kept = s.kept ∧ s.takeResult.contests.computing = none ∧
    s.takeResult.contests.considering = s.contests.considering := by
  cases hr : c.result with
  | none => rw [State.takeResult_none hc hr]; exact ⟨rfl, rfl, rfl⟩
  | some b =>
    cases hroom : s.txRoom with
    | false => rw [State.takeResult_full hc hroom]; exact ⟨rfl, rfl, rfl⟩
    | true => rw [State.takeResult_bid hc hr hroom]; exact ⟨rfl, rfl, rfl⟩

end

/-- Settles O34: the record is `State.recordOf` of the result, its BID stands behind the frames that waited, and the end of
the step considers the rounds that wait (`settle_considers`). -/
theorem resultMakesARecord : Obligations.ResultMakesARecord := by
  intro s c hrun hc
  obtain ⟨hkept, hended, hwaiting⟩ := State.takeResult_parts hc
  have hrecords := State.settle_records s s.takeResult
  refine ⟨State.settle s s.takeResult, State.during_next hrun _, (State.settle_kept _ _).trans hkept, ?_, ?_, ?_, ?_⟩
  · have hnow := State.settle_considers s s.takeResult hended
    rwa [hwaiting] at hnow
  · intro hr
    rw [hrecords, State.takeResult_none hc hr]
    rfl
  · intro hroom
    rw [hrecords, State.takeResult_full hc hroom]
    rfl
  · intro b hr hroom
    have htx := State.settle_tx s s.takeResult
    rw [State.takeResult_bid hc hr hroom] at hrecords htx ⊢
    refine ⟨s.recordOf c.opening b, hrecords, rfl, rfl, rfl, rfl, rfl, rfl, rfl, rfl, rfl, rfl, rfl, rfl, ?_, ?_, ?_, htx,
      rfl⟩
    · intro hover
      simp [State.recordOf, State.reached, hover]
    · intro hopen
      simp [State.recordOf, State.reached, hopen]
    · intro id o hid ho
      simp [State.recordOf, hid, ho]

/-! ### An INBOUND (R98) -/

/-- The table without the entry of an id, whose record is ended where the entry stood. -/
def State.withoutOffer (s : State) (id : Nat) : State :=
  if s.contests.offers.any fun o => decide (o.inboundId = id) then s.freeOffer id else s

/-- An INBOUND within its ranges. -/
def InboundFields.inRange (f : InboundFields) : Prop := 1 ≤ f.quantity ∧ f.quantity ≤ 8 ∧ stockInRange f.stock

/-- The batch of an INBOUND as it joins the table. -/
def InboundFields.offer (f : InboundFields) : Offer :=
  { inboundId := f.inboundId, stock := f.stock, quantity := f.quantity, claimed := 0, round := 1, state := .opened }

theorem State.takeInbound_ignored {s : State} {f : InboundFields} (h : ¬f.inRange) (stamp : Timer) :
    s.takeInbound f stamp = s := if_neg h

theorem State.takeInbound_full {s : State} {f : InboundFields} (h : f.inRange) (stamp : Timer)
    (hfull : 4 ≤ (s.withoutOffer f.inboundId).contests.offers.length) :
    s.takeInbound f stamp = s.withoutOffer f.inboundId :=
  (if_pos h).trans (if_neg (Nat.not_lt.2 hfull))

theorem State.takeInbound_joins {s : State} {f : InboundFields} (h : f.inRange) (stamp : Timer)
    (hroom : (s.withoutOffer f.inboundId).contests.offers.length < 4) :
    s.takeInbound f stamp =
      ((s.withoutOffer f.inboundId).setContests { (s.withoutOffer f.inboundId).contests with
        offers := (s.withoutOffer f.inboundId).contests.offers ++ [f.offer] }).openRound
      { ref := .store f.inboundId, round := 1, openedAt := stamp } :=
  (if_pos h).trans (if_pos hroom)

theorem State.withoutOffer_unknown {s : State} {id : Nat}
    (h : (s.contests.offers.filter fun o => decide (o.inboundId ≠ id)) = s.contests.offers) : s.withoutOffer id = s := by
  unfold State.withoutOffer
  rw [if_neg]
  simpa using h

theorem State.withoutOffer_known {s : State} {id : Nat}
    (h : (s.contests.offers.filter fun o => decide (o.inboundId ≠ id)) ≠ s.contests.offers) :
    s.withoutOffer id = s.freeOffer id := by
  unfold State.withoutOffer
  rw [if_pos]
  simpa using h

theorem State.freeOffer_roundsOpen (s : State) (id : Nat) : s.RoundsOpen (s.freeOffer id) [.store id] [] :=
  (s.endRecords_roundsOpen (.store id)).setOffers _

theorem State.withoutOffer_offers (s : State) (id : Nat) :
    (s.withoutOffer id).contests.offers = s.contests.offers.filter fun o => decide (o.inboundId ≠ id) := by
  by_cases h : (s.contests.offers.filter fun o => decide (o.inboundId ≠ id)) = s.contests.offers
  · rw [State.withoutOffer_unknown h, h]
  · rw [State.withoutOffer_known h]
    exact congrArg (List.filter _) (s.endRecords_offers (.store id))

/-- Freeing the entry first and opening the round then end the record of the id as one of the two does. -/
theorem State.withoutOffer_opens (s : State) (id : Nat) (offers : List Offer) (o : RoundOpen) (ho : o.ref = .store id) :
    s.RoundsOpen (((s.withoutOffer id).setContests { (s.withoutOffer id).contests with offers := offers }).openRound o)
      [.store id] [o] := by
  by_cases h : (s.contests.offers.filter fun o => decide (o.inboundId ≠ id)) = s.contests.offers
  · rw [State.withoutOffer_unknown h]
    have hopen := ((State.RoundsOpen.refl s).setOffers offers).trans (State.openRound_roundsOpen _ o)
    rwa [ho] at hopen
  · rw [State.withoutOffer_known h]
    have hopen := ((s.freeOffer_roundsOpen id).setOffers offers).trans (State.openRound_roundsOpen _ o)
    rw [ho] at hopen
    exact { hopen with records := hopen.records.trans (filterMap_ended_twice _ _) }

theorem State.withoutOffer_roundsOpen (s : State) (id : Nat) :
    s.RoundsOpen (s.withoutOffer id)
      (if (s.contests.offers.filter fun o => decide (o.inboundId ≠ id)) = s.contests.offers then [] else [.store id]) [] := by
  split
  case isTrue h =>
    rw [State.withoutOffer_unknown h]
    exact .refl s
  case isFalse h =>
    rw [State.withoutOffer_known h]
    exact s.freeOffer_roundsOpen id

theorem State.takeInbound_kept (s : State) (f : InboundFields) (stamp : Timer) :
    (s.takeInbound f stamp).kept = s.kept := by
  by_cases h : f.inRange
  · by_cases hroom : (s.withoutOffer f.inboundId).contests.offers.length < 4
    · rw [State.takeInbound_joins h stamp hroom]
      exact (s.withoutOffer_opens f.inboundId _ _ rfl).kept
    · rw [State.takeInbound_full h stamp (Nat.not_lt.1 hroom)]
      exact (s.withoutOffer_roundsOpen f.inboundId).kept
  · rw [State.takeInbound_ignored h]

/-- Settles O30: the entry of the id is freed first (`withoutOffer`), the batch joins the table and its round opens where
there is room (`takeInbound_joins`), and the end of the step considers the round (`RoundsOpen.considers`). -/
theorem inboundKeepsTheBatch : Obligations.InboundKeepsTheBatch := by
  intro s h hh hservice f others ended
  have hnext := State.handed_next hh (kind := FrameKind.isInbound) rfl hservice
    fun h u => u.takeInbound (inboundOf h.frame.payload) h.stamp
  have hothers : (s.withoutOffer f.inboundId).contests.offers = others := s.withoutOffer_offers f.inboundId
  have hrecords := State.settle_records s (s.takeInbound f h.stamp).inHand
  have hoffers := State.settle_offers s (s.takeInbound f h.stamp).inHand
  have hkept := (State.settle_kept s (s.takeInbound f h.stamp).inHand).trans (s.takeInbound_kept f h.stamp)
  refine ⟨_, hnext, hkept, ?_, ?_⟩
  · intro hbad
    have hout : ¬f.inRange := by
      rintro ⟨hleast, hmost, hstock⟩
      simp [hstock] at hbad
      omega
    have hsame := State.takeInbound_ignored (s := s) hout h.stamp
    refine ⟨hoffers.trans ?_, hrecords.trans ?_, fun hq hc => ?_⟩
    · rw [hsame]; rfl
    · rw [hsame]; rfl
    · rw [hsame]
      exact (State.RoundsOpen.refl s).considers hq hc s
  · intro hleast hmost hstock
    have hin : f.inRange := ⟨hleast, hmost, hstock⟩
    refine ⟨fun hfull => ?_, fun hroom => ?_⟩
    · have hfreed := State.takeInbound_full (s := s) hin h.stamp (hothers ▸ hfull)
      have hopen := s.withoutOffer_roundsOpen f.inboundId
      rw [← hfreed] at hopen hothers
      refine ⟨hoffers.trans hothers, fun hq hc => hopen.considers hq hc s, hrecords.trans (hopen.records.trans ?_)⟩
      by_cases hknown : others = s.contests.offers
      · rw [if_pos hknown, if_pos hknown]; rfl
      · rw [if_neg hknown, if_neg hknown]; rfl
    · have hjoined := State.takeInbound_joins (s := s) hin h.stamp (hothers ▸ hroom)
      have hopen := s.withoutOffer_opens f.inboundId ((s.withoutOffer f.inboundId).contests.offers ++ [f.offer])
        { ref := .store f.inboundId, round := 1, openedAt := h.stamp } rfl
      rw [← hjoined] at hopen
      refine ⟨hoffers.trans ?_, fun hq hc => hopen.considers hq hc s, hrecords.trans hopen.records⟩
      change (s.takeInbound f h.stamp).contests.offers = _
      rw [hjoined, State.openRound_offers, ← hothers]
      rfl

/-! ### An ORDER (R121) -/

theorem State.orderAccepted_iff {s : State} {o : OrderFields} : s.orderAccepted o = true ↔
    1 ≤ o.lines.length ∧ (s.lane o.lane).synced = true ∧ (s.lane o.lane).bays[o.bay] = none ∧
      (∀ l ∈ o.lines, 1 ≤ l.quantity ∧ l.quantity ≤ 8) ∧
      (o.lines.map OrderLine.quantity).sum ≤ s.values.capacity[o.lane] := by
  unfold State.orderAccepted
  simp only [Bool.and_eq_true, decide_eq_true_iff, Option.isNone_iff_eq_none, List.all_eq_true, and_assoc]
  rfl

/-- Round 1 of each line of an order, in line order. -/
def OrderFields.rounds (o : OrderFields) (stamp : Timer) : List RoundOpen :=
  (List.range o.lines.length).map fun n =>
    { ref := .pick { lane := o.lane, bay := o.bay, line := n, order := o.order }, round := 1, openedAt := stamp }

theorem State.takeOrder_accepted {s : State} {o : OrderFields} (h : s.orderAccepted o = true) (stamp : Timer) :
    s.takeOrder o stamp = (o.rounds stamp).foldl State.openRound (s.openOrder o) := by
  rw [State.takeOrder, if_pos h, OrderFields.rounds, OrderFields.refs, List.foldl_map, List.foldl_map]

theorem State.takeOrder_refused {s : State} {o : OrderFields} (h : ¬s.orderAccepted o = true) (stamp : Timer) :
    s.takeOrder o stamp = s := if_neg h

theorem State.takeOrder_offers (s : State) (o : OrderFields) (stamp : Timer) :
    (s.takeOrder o stamp).contests.offers = s.contests.offers := by
  by_cases h : s.orderAccepted o = true
  · rw [State.takeOrder_accepted h, State.openRounds_offers]
    rfl
  · rw [State.takeOrder_refused h]

/-- The lines of an order are fresh (R121). -/
theorem orderOf_fresh (payload : List Byte) : ∀ l ∈ (orderOf payload).lines,
    l.claimed = 0 ∧ l.delivered = 0 ∧ l.round = 1 ∧ l.short = false ∧ l.ownClaim = 0 ∧ l.ownDelivered = 0 := by
  intro l hl
  obtain ⟨n, _, rfl⟩ := List.mem_map.1 hl
  exact ⟨rfl, rfl, rfl, rfl, rfl, rfl⟩

/-- Settles O40: an accepted ORDER opens its bay and then the first round of each line (`takeOrder_accepted`), which the end
of the step considers in turn (`RoundsOpen.considers`). -/
theorem orderOpensItsBay : Obligations.OrderOpensItsBay := by
  intro s h hh hservice o lane accepted
  have hnext := State.handed_next hh (kind := FrameKind.isOrder) rfl hservice
    fun h u => u.takeOrder (orderOf h.frame.payload) h.stamp
  have hkept := State.settle_kept s (s.takeOrder o h.stamp).inHand
  have hrecords := State.settle_records s (s.takeOrder o h.stamp).inHand
  have hoffers := (State.settle_offers s (s.takeOrder o h.stamp).inHand).trans (s.takeOrder_offers o h.stamp)
  refine ⟨_, hnext, hoffers, orderOf_fresh _, fun haccepted => ?_, fun hrefused => ?_⟩
  · have hopen := (s.openOrder o).openRounds_roundsOpen (o.rounds h.stamp)
    rw [← State.takeOrder_accepted (State.orderAccepted_iff.2 haccepted)] at hopen
    have hended := hopen.records
    rw [List.foldl_map] at hended
    exact ⟨hkept.trans hopen.kept, hrecords.trans hended, fun hq hc => hopen.considers hq hc s⟩
  · have hsame := State.takeOrder_refused (mt State.orderAccepted_iff.1 hrefused) h.stamp
    rw [hsame] at hkept hrecords
    change (State.settle s (s.takeOrder o h.stamp).inHand).kept = _ ∧ _
    rw [hsame]
    exact ⟨hkept, hrecords, fun hq => State.settle_work s s.inHand hq⟩

end Sys2Proof.Machine
end

section
/-! SUPPORT. What a change of one line does (R122, R123): the line afterwards, the accounts that all stations share, and the
judgement of its remainder. -/

namespace Sys2Proof.Machine

/-! ### One line of a bay -/

theorem State.openBay_of_lanes {s t : State} (h : t.lanes = s.lanes) (l : LineRef) : t.openBay l = s.openBay l := by
  unfold State.openBay State.lane
  rw [h]

theorem State.lineAt_of_lanes {s t : State} (h : t.lanes = s.lanes) (l : LineRef) : t.lineAt l = s.lineAt l := by
  unfold State.lineAt
  rw [State.openBay_of_lanes h]

/-- The lane of a line with another record in the line's bay. -/
def State.withBay (s : State) (l : LineRef) (b : OpenBay) : State :=
  s.setLane l.lane { s.lane l.lane with bays := (s.lane l.lane).bays.set l.bay (some b) }

theorem State.withBay_lane (s : State) (l : LineRef) (b : OpenBay) :
    (s.withBay l b).lane l.lane = { s.lane l.lane with bays := (s.lane l.lane).bays.set l.bay (some b) } := by
  simp [State.withBay, State.setLane, State.lane]

theorem State.withBay_twice (s : State) (l : LineRef) (b c : OpenBay) : (s.withBay l b).withBay l c = s.withBay l c := by
  rw [State.withBay, State.withBay_lane]
  simp [State.withBay, State.setLane, State.setLanes, Vector.set_set]

theorem State.withBay_openBay {s : State} {l : LineRef} {b c : OpenBay} (h : s.openBay l = some b)
    (hc : c.order = b.order) : (s.withBay l c).openBay l = some c := by
  obtain ⟨hsynced, x, hx, hxorder⟩ := State.openBay_isSome.1 (Option.isSome_of_eq_some h)
  have hb : b.order = l.order := by
    unfold State.openBay at h
    rw [if_pos hsynced, hx] at h
    simp only [hxorder, if_true, Option.some.injEq] at h
    rw [← h, hxorder]
  unfold State.openBay
  rw [State.withBay_lane]
  simp [hsynced, hc, hb]

section
variable {s : State} {l : LineRef} {x : OrderLine} (h : s.lineAt l = some x)
include h

/-- The bay a line stands in, and the update of the line as a change of that bay. -/
theorem State.lineAt_bay : ∃ b, s.openBay l = some b ∧ b.lines[l.line]? = some x ∧
    ∀ f, s.updateLine l f = s.withBay l { b with lines := b.lines.set l.line (f x) } := by
  unfold State.lineAt at h
  split at h
  · cases h
  · rename_i b hb
    refine ⟨b, hb, h, fun f => ?_⟩
    unfold State.updateLine
    simp only [hb, h]
    rfl

/-- The line afterwards. -/
theorem State.lineAt_updateLine (f : OrderLine → OrderLine) : (s.updateLine l f).lineAt l = some (f x) := by
  obtain ⟨b, hb, hx, hupdate⟩ := State.lineAt_bay h
  obtain ⟨hline, _⟩ := List.getElem?_eq_some_iff.1 hx
  have hafter := State.withBay_openBay (c := { b with lines := b.lines.set l.line (f x) }) hb rfl
  rw [hupdate, State.lineAt, hafter]
  simp [hline]

/-- Only what the line becomes counts. -/
theorem State.updateLine_congr {f g : OrderLine → OrderLine} (hfg : f x = g x) : s.updateLine l f = s.updateLine l g := by
  obtain ⟨b, _, _, hupdate⟩ := State.lineAt_bay h
  rw [hupdate, hupdate, hfg]

theorem State.updateLine_twice (f g : OrderLine → OrderLine) :
    (s.updateLine l f).updateLine l g = s.updateLine l fun _ => g (f x) := by
  obtain ⟨b, hb, hx, hupdate⟩ := State.lineAt_bay h
  have hafter := State.lineAt_updateLine h f
  obtain ⟨c, hc, _, hagain⟩ := State.lineAt_bay hafter
  have hbay := State.withBay_openBay (c := { b with lines := b.lines.set l.line (f x) }) hb rfl
  rw [hupdate f, hbay] at hc
  obtain rfl := Option.some.inj hc
  rw [hagain, hupdate, hupdate, State.withBay_twice]
  simp

/-- The accounts that all stations hold alike follow the shared part of the line. -/
theorem State.updateLine_shared {f g : OrderLine → OrderLine} (hfg : (f x).shared = (g x).shared) :
    (s.updateLine l f).kept = (s.updateLine l g).kept := by
  have hown : s.updateLine l f = (s.updateLine l g).updateLine l fun y =>
      { y with ownClaim := (f x).ownClaim, ownDelivered := (f x).ownDelivered } := by
    rw [State.updateLine_twice h]
    refine State.updateLine_congr h ?_
    simp only [OrderLine.shared, OrderLine.mk.injEq] at hfg
    obtain ⟨harticle, hquantity, hmode, hclaimed, hdelivered, hround, hshort, _⟩ := hfg
    rw [← harticle, ← hquantity, ← hmode, ← hclaimed, ← hdelivered, ← hround, ← hshort]
  rw [hown]
  exact State.updateLine_kept _ l _ fun _ => rfl

end

theorem State.updateLine_unknown {s : State} {l : LineRef} (h : s.lineAt l = none) (f : OrderLine → OrderLine) :
    s.updateLine l f = s := by
  unfold State.lineAt at h
  unfold State.updateLine
  cases hb : s.openBay l with
  | none => rfl
  | some b =>
    rw [hb] at h
    simp only at h
    simp only [h]

/-- A change of a line is a change of the lanes alone. -/
theorem State.updateLine_lanes (s : State) (l : LineRef) (f : OrderLine → OrderLine) :
    s.updateLine l f = s.setLanes (s.updateLine l f).lanes := by
  unfold State.updateLine
  split
  · rfl
  · split <;> rfl

@[simp] theorem State.updateLine_contests (s : State) (l : LineRef) (f : OrderLine → OrderLine) :
    (s.updateLine l f).contests = s.contests := by rw [State.updateLine_lanes]; rfl

@[simp] theorem State.updateLine_control (s : State) (l : LineRef) (f : OrderLine → OrderLine) :
    (s.updateLine l f).control = s.control := by rw [State.updateLine_lanes]; rfl

theorem State.updateLine_setContests (s : State) (x : ContestEngine) (l : LineRef) (f : OrderLine → OrderLine) :
    (s.setContests x).updateLine l f = (s.updateLine l f).setContests x := by
  have hbay : (s.setContests x).openBay l = s.openBay l := rfl
  unfold State.updateLine
  rw [hbay]
  cases s.openBay l with
  | none => rfl
  | some b =>
    simp only
    cases b.lines[l.line]? <;> rfl

/-! ### The judgement of a remainder (R122, R123) -/

/-- A remainder opens the next round, and leaves the line SHORT after round 6. -/
theorem OrderLine.judge_eq (l : OrderLine) :
    l.judge =
      ({ l with
          round := if l.claimed < l.quantity ∧ l.short = false ∧ l.round < 6 then l.round + 1 else l.round,
          short := l.short || (decide (l.claimed < l.quantity) && decide (6 ≤ l.round)) },
        if l.claimed < l.quantity ∧ l.short = false ∧ l.round < 6 then some (l.round + 1) else none) := by
  obtain ⟨_, quantity, _, claimed, _, round, short, _, _⟩ := l
  unfold OrderLine.judge maxRound
  simp only
  by_cases hfull : quantity ≤ claimed
  · simp [hfull, Nat.not_lt.2 hfull]
  · have hmore : claimed < quantity := Nat.not_le.1 hfull
    cases short with
    | true => simp
    | false =>
      by_cases hround : round < 6
      · simp [hfull, hmore, hround, Nat.not_le.2 hround]
      · simp [hfull, hmore, hround, Nat.not_lt.1 hround]

/-- The line once its remainder is judged. -/
theorem OrderLine.judge_line (l : OrderLine) : l.judge.1 = { l with
    round := if l.claimed < l.quantity ∧ l.short = false ∧ l.round < 6 then l.round + 1 else l.round,
    short := l.short || (decide (l.claimed < l.quantity) && decide (6 ≤ l.round)) } := by rw [OrderLine.judge_eq]

theorem OrderLine.judge_opens {l : OrderLine} (h : l.claimed < l.quantity ∧ l.short = false ∧ l.round < 6) :
    l.judge.2 = some (l.round + 1) := by rw [OrderLine.judge_eq]; exact if_pos h

theorem OrderLine.judge_ends {l : OrderLine} (h : ¬(l.claimed < l.quantity ∧ l.short = false ∧ l.round < 6)) :
    l.judge.2 = none := by rw [OrderLine.judge_eq]; exact if_neg h

/-! ### The round that may open (R100) -/

/-- The round a CLAIM or RELINQUISH opens, if it opens one. -/
def nextRound (ref : Ref) (round : Option Nat) (stamp : Timer) : List RoundOpen :=
  round.toList.map fun n => { ref := ref, round := n, openedAt := stamp }

theorem State.openNext_roundsOpen (s : State) (ref : Ref) (round : Option Nat) (stamp : Timer) :
    s.RoundsOpen (s.openNext ref round stamp) (round.toList.map fun _ => ref) (nextRound ref round stamp) := by
  cases round with
  | none => exact .refl s
  | some n => exact s.openRound_roundsOpen _

theorem State.openNext_offers (s : State) (ref : Ref) (round : Option Nat) (stamp : Timer) :
    (s.openNext ref round stamp).contests.offers = s.contests.offers := by
  cases round with
  | none => rfl
  | some n => exact s.openRound_offers _

/-- Without a contest record no frame is withdrawn. -/
theorem State.openNext_port {s : State} (h : s.contests.records = []) (ref : Ref) (round : Option Nat) (stamp : Timer) :
    (s.openNext ref round stamp).port = s.port := by
  cases round with
  | none => rfl
  | some n => simp [State.openNext, State.openRound, State.endRecords, State.walkRecords, h]

end Sys2Proof.Machine
end

section
/-! SUPPORT. What the end of a step does to the relinquish list (R113, R114), a RELINQUISH heard (R123), and the proof of the
statement about it. -/

namespace Sys2Proof.Machine

/-! ### The end of a step before the last offers -/

/-- A state at the end of its step, before the frame in hand leaves and the RELINQUISH and the REPORT are offered. -/
def State.noted (b s : State) : State := State.noteNews b (State.takeLamps b (State.plan b s.faced).suspendScan)

theorem State.settle_noted (b s : State) : State.settle b s = (State.noted b s).releaseHead.offerRest := rfl

theorem State.noted_kept (b s : State) : (State.noted b s).kept = s.kept := by
  simp [State.noted, State.faced]

theorem State.noted_port (b s : State) : (State.noted b s).port = s.port := by
  unfold State.noted
  rw [(State.noteNews_parts _ _).2.1, (State.takeLamps_parts _ _).2.1, (State.suspendScan_parts _).2.1,
    (State.plan_parts _ _).1, State.faced_port]

theorem State.noted_work (b s : State) : (State.noted b s).work = s.relocateAll.considerRounds.work := by
  simp [State.noted, State.faced]

theorem State.settle_work_noted (b s : State) : (State.settle b s).work = s.relocateAll.considerRounds.work := by
  rw [State.settle_noted, State.offerRest_work, State.releaseHead_work, State.noted_work]

/-- The dwell at work leaves the contests alone. -/
theorem State.refreshDwell_contests (s : State) : s.refreshDwell.testCompletion.contests = s.contests := by
  have htest : ∀ u : State, u.testCompletion.contests = u.contests := by
    intro u
    unfold State.testCompletion
    split
    · rfl
    · split <;> rfl
  have hlight : ∀ u : State, u.lightDue.contests = u.contests := by
    intro u
    unfold State.lightDue
    split
    · rfl
    · split
      · rename_i d _ _
        simp only
        rw [State.lightAll_lanes]
        rfl
      · rfl
  exact (htest _).trans ((hlight _).trans (State.joinDue_outerParts s).2.2.1)

theorem State.noted_contests (b s : State) :
    (State.noted b s).contests = s.relocateAll.considerRounds.contests := by
  unfold State.noted
  rw [(State.noteNews_parts _ _).2.2.1, (State.takeLamps_parts _ _).2.2.1, (State.suspendScan_parts _).2.2.1,
    (State.plan_parts _ _).2.1]
  exact State.refreshDwell_contests _

/-- On intact records, with no LOAD task handed over, considering rounds changes the computation and the rounds to consider
alone. -/
theorem State.considerRounds_intact {s : State} (hi : s.intact) (hr : s.audit.relocations = []) :
    ∃ computing considering, s.relocateAll.considerRounds =
      s.setContests { s.contests with computing := computing, considering := considering } := by
  have hlist : ∀ rounds, ∃ computing considering, s.considerList rounds =
      s.setContests { s.contests with computing := computing, considering := considering } := by
    intro rounds
    induction rounds with
    | nil => exact ⟨_, _, rfl⟩
    | cons o rest ih =>
      rw [State.considerList]
      split
      · have hj : (s.setContests { s.contests with considering := rest }).intact := hi
        rw [State.beginComputation, State.readTable_intact hj]
        exact ⟨_, _, State.relocateAll_quiet _ hr⟩
      · exact ih
  rw [State.relocateAll_quiet s hr, State.considerRounds]
  split
  · exact hlist _
  · exact ⟨_, _, rfl⟩

/-- On intact records, with no LOAD task handed over, the end of a step gives nothing back. -/
theorem State.settle_givenBack {s : State} (hi : s.intact) (hr : s.audit.relocations = []) (b : State) :
    (State.settle b s).givenBack = s.givenBack := by
  obtain ⟨computing, considering, hconsidered⟩ := State.considerRounds_intact hi hr
  have hwork := congrArg Work.relinquish (State.settle_work_noted b s)
  rw [hconsidered] at hwork
  exact hwork

/-! ### The RELINQUISH offered (R114, R162) -/

/-- Whether a pocket's INTENT waits does not depend on an ASSIGNED entry, and else on the halt flag alone. -/
theorem State.intentWaiting_of_unassigned {s t : State} (hhalt : t.control.halt = s.control.halt) {p : Fin 2}
    (hp : (t.pocket p).unassigned = (s.pocket p).unassigned) : t.intentWaiting p = s.intentWaiting p := by
  have hview : ∀ u : State, u.intentWaiting p = (match (u.pocket p).unassigned with
      | .free => false
      | .foreign => false
      | .entry e => decide (e.state = .loaded) && decide (e.intent = .none) && e.line.isSome && !u.control.halt) := by
    intro u
    unfold State.intentWaiting Pocket.unassigned
    cases u.pocket p with
    | free => rfl
    | foreign => rfl
    | entry e => by_cases he : e.state = .assigned <;> simp [he]
  rw [hview, hview, hp, hhalt]

/-- Without contest records, an owner waits where an INTENT waits. -/
theorem State.ownerWaits_noted {b s u : State} (hi : u.intact) (hr : u.audit.relocations = [])
    (hrecords : u.contests.records = []) (hhalt : u.control.halt = s.control.halt)
    (hpockets : u.lanes.pockets = s.lanes.pockets) (h : s.ownerWaits = false) : (State.noted b u).ownerWaits = false := by
  obtain ⟨computing, considering, hconsidered⟩ := State.considerRounds_intact hi hr
  have hcontests := State.noted_contests b u
  have hwork := State.noted_work b u
  rw [hconsidered] at hcontests hwork
  have hnone : (State.noted b u).waitingClaim = none := by
    unfold State.waitingClaim
    rw [hcontests]
    exact congrArg (List.find? Contest.waiting) hrecords
  have hwaits : ∀ p, (State.noted b u).intentWaiting p = s.intentWaiting p := by
    intro p
    refine State.intentWaiting_of_unassigned ((congrArg Kept.halt (State.noted_kept b u)).trans hhalt) ?_
    have hviews : (State.noted b u).lanes.pockets.map Pocket.unassigned = u.lanes.pockets.map Pocket.unassigned :=
      congrArg Work.pockets hwork
    rw [hpockets] at hviews
    have hone := congrArg (fun v : Vector Pocket 2 => v[p]) hviews
    simpa [State.pocket] using hone
  unfold State.ownerWaits at h ⊢
  rw [hnone, funext hwaits]
  exact (Bool.or_eq_false_iff.1 h).2

/-- The oldest entry is queued behind the frames that wait, and marked. -/
theorem State.offerRest_relinquish {s : State} {e : RelinquishEntry} {rest : List RelinquishEntry}
    (howner : s.ownerWaits = false) (hlist : s.contests.relinquish = e :: rest) (hnone : s.contests.relinquishQueued = false)
    (hroom : s.txRoom = true) :
    s.port.tx ++ [{ frame := relinquishFrameOf s.own e, state := .queued, retries := 0 }] <+: s.offerRest.port.tx ∧
      s.offerRest.contests.relinquish = { e with queued := true } :: rest := by
  have hqueued : s.queueRelinquish =
      (s.queueFrame (relinquishFrameOf s.own e)).setContests
        { s.contests with relinquish := { e with queued := true } :: rest } := by
    unfold State.queueRelinquish
    simp only [hlist, hnone, hroom]
    rfl
  have hreport : ∀ u : State, u.port.tx <+: u.offerReport.port.tx := by
    intro u
    unfold State.offerReport
    split_ifs
    · exact List.prefix_append _ _
    · split
      · exact List.prefix_rfl
      · exact List.prefix_append _ _
    · exact List.prefix_rfl
  have hoffer : s.offerRest = s.queueRelinquish.offerReport := by
    unfold State.offerRest
    rw [howner]
    rfl
  have hsent := hreport s.queueRelinquish
  rw [hoffer, (State.offerReport_drive _).2]
  rw [hqueued] at hsent ⊢
  exact ⟨hsent, rfl⟩

theorem State.releaseHead_tx (s : State) : s.releaseHead.port.tx = s.port.tx := by
  unfold State.releaseHead; split <;> rfl

theorem State.releaseHead_ownerWaits (s : State) : s.releaseHead.ownerWaits = s.ownerWaits := by
  unfold State.releaseHead; split <;> rfl

/-- The end of a step queues the oldest RELINQUISH, where no other owner waits for the place. -/
theorem State.settle_relinquish {b s u : State} (hi : u.intact) (hr : u.audit.relocations = [])
    (hrecords : u.contests.records = []) (hhalt : u.control.halt = s.control.halt)
    (hpockets : u.lanes.pockets = s.lanes.pockets) (howner : s.ownerWaits = false) {e : RelinquishEntry}
    {rest : List RelinquishEntry} (hlist : u.contests.relinquish = e :: rest) (hqueued : ∀ x ∈ e :: rest, x.queued = false)
    (hroom : u.txRoom = true) :
    u.port.tx ++ [{ frame := relinquishFrameOf u.own e, state := .queued, retries := 0 }] <+: (State.settle b u).port.tx ∧
      (State.settle b u).contests.relinquish = { e with queued := true } :: rest := by
  obtain ⟨computing, considering, hconsidered⟩ := State.considerRounds_intact hi hr
  have hcontests : (State.noted b u).releaseHead.contests.relinquish = e :: rest := by
    rw [(State.releaseHead_parts _).2, State.noted_contests, hconsidered]
    exact hlist
  have htx : (State.noted b u).releaseHead.port.tx = u.port.tx := by rw [State.releaseHead_tx, State.noted_port]
  have hown : (State.noted b u).releaseHead.own = u.own :=
    congrArg Kept.stationNumber ((State.releaseHead_kept _).trans (State.noted_kept b u))
  have hnone : (State.noted b u).releaseHead.contests.relinquishQueued = false := by
    rw [ContestEngine.relinquishQueued, hcontests]
    exact List.any_eq_false.2 fun x hx => by simp [hqueued x hx]
  have hfree : (State.noted b u).releaseHead.txRoom = true := by
    unfold State.txRoom at hroom ⊢
    rwa [htx]
  have hoffer := State.offerRest_relinquish
    ((State.releaseHead_ownerWaits _).trans (State.ownerWaits_noted (b := b) hi hr hrecords hhalt hpockets howner))
    hcontests hnone hfree
  rwa [htx, hown] at hoffer

end Sys2Proof.Machine
end

section
/-! SUPPORT. A RELINQUISH heard (R123), entries that join the relinquish list (R113), and the proof of the statement about
them. -/

namespace Sys2Proof.Machine

/-! ### A RELINQUISH heard (R114, R123) -/

/-- The state once an own RELINQUISH that is heard has left the list (R114). -/
def State.returned (s : State) (f : Frame) : State := if f.key.station = s.own then s.relinquishGone else s

/-- Only the list changes. -/
theorem State.returned_eq (s : State) (f : Frame) :
    s.returned f = s.setContests { s.contests with relinquish := (s.returned f).contests.relinquish } := by
  unfold State.returned State.relinquishGone
  split
  · split
    · rfl
    · split <;> rfl
  · rfl

theorem State.returned_other {s : State} {f : Frame} (h : f.key.station ≠ s.own) : s.returned f = s := if_neg h

/-- The own RELINQUISH is that of the oldest entry. -/
theorem State.returned_own {s : State} {f : Frame} (h : f.key.station = s.own) {e : RelinquishEntry}
    {rest : List RelinquishEntry} (hlist : s.contests.relinquish = e :: rest) (hqueued : e.queued = true) :
    (s.returned f).contests.relinquish = rest := by
  unfold State.returned State.relinquishGone
  rw [if_pos h]
  simp only [hlist, hqueued]
  rfl

theorem State.returned_lineAt (s : State) (f : Frame) (line : LineRef) : (s.returned f).lineAt line = s.lineAt line :=
  State.lineAt_of_lanes (by rw [State.returned_eq]; rfl) line

/-- The state with the accounts of a RELINQUISH, before its round opens. -/
def State.relinquished (s : State) (f : Frame) (line : LineRef) : State :=
  ((s.returned f).applyRelinquish line (byteAt f.payload 3 % 16)).state

theorem State.hearRelinquish_pick {s : State} {f : Frame} {line : LineRef} (h : refOf f.payload = .pick line)
    (stamp : Timer) : s.hearRelinquish f stamp =
      (s.relinquished f line).openNext (.pick line)
        ((s.returned f).applyRelinquish line (byteAt f.payload 3 % 16)).opened stamp := by
  have hq : bitField (byteAt f.payload 3) 3 0 = byteAt f.payload 3 % 16 := by simp [bitField]
  unfold State.hearRelinquish
  simp only [h, hq]
  rfl

section
variable {s : State} {f : Frame} {line : LineRef}

theorem State.relinquished_unknown (h : s.lineAt line = none) : s.relinquished f line = s.returned f ∧
    ((s.returned f).applyRelinquish line (byteAt f.payload 3 % 16)).opened = none := by
  rw [← s.returned_lineAt f] at h
  unfold State.relinquished State.applyRelinquish
  simp only [h, and_self]

/-- The line gives back its claim down to its delivered count, and its remainder is judged. -/
theorem State.relinquished_known {l : OrderLine} (h : s.lineAt line = some l) :
    s.relinquished f line =
        (s.returned f).updateLine line (fun _ => (l.giveBack (byteAt f.payload 3 % 16)).judge.1) ∧
      ((s.returned f).applyRelinquish line (byteAt f.payload 3 % 16)).opened =
        (l.giveBack (byteAt f.payload 3 % 16)).judge.2 := by
  rw [← s.returned_lineAt f] at h
  have hline : s.relinquished f line =
      (s.returned f).updateLine line fun x => (x.giveBack (byteAt f.payload 3 % 16)).judge.1 := by
    unfold State.relinquished State.applyRelinquish
    simp only [h]
  refine ⟨hline.trans (State.updateLine_congr h rfl), ?_⟩
  unfold State.applyRelinquish
  simp only [h]

theorem State.updateLine_pockets (s : State) (line : LineRef) (g : OrderLine → OrderLine) :
    (s.updateLine line g).lanes.pockets = s.lanes.pockets := by
  unfold State.updateLine
  split
  · rfl
  · split <;> rfl

/-- The accounts change the line alone. -/
theorem State.relinquished_eq (s : State) (f : Frame) (line : LineRef) :
    s.relinquished f line = (s.returned f).setLanes (s.relinquished f line).lanes ∧
      (s.relinquished f line).lanes.pockets = s.lanes.pockets := by
  have hpockets : (s.returned f).lanes.pockets = s.lanes.pockets := by rw [State.returned_eq]; rfl
  cases h : s.lineAt line with
  | none =>
    rw [(State.relinquished_unknown h).1]
    exact ⟨rfl, hpockets⟩
  | some l =>
    rw [(State.relinquished_known h).1]
    exact ⟨State.updateLine_lanes _ _ _, (State.updateLine_pockets _ _ _).trans hpockets⟩

end

theorem State.relinquished_contests (s : State) (f : Frame) (line : LineRef) :
    (s.relinquished f line).contests = { s.contests with relinquish := (s.returned f).contests.relinquish } := by
  rw [(s.relinquished_eq f line).1, State.returned_eq]
  rfl

/-- The port, the retained store, the LOAD tasks handed over and Station Control stay. -/
theorem State.relinquished_parts (s : State) (f : Frame) (line : LineRef) :
    (s.relinquished f line).port = s.port ∧ (s.relinquished f line).store = s.store ∧
      (s.relinquished f line).audit = s.audit ∧ (s.relinquished f line).control = s.control := by
  rw [(s.relinquished_eq f line).1, State.returned_eq]
  exact ⟨rfl, rfl, rfl, rfl⟩

/-- The rounds opened by the RELINQUISH, on the state with its accounts. -/
theorem State.hearRelinquish_roundsOpen {s : State} {f : Frame} {line : LineRef} (h : refOf f.payload = .pick line)
    (stamp : Timer) :
    let opened := ((s.returned f).applyRelinquish line (byteAt f.payload 3 % 16)).opened
    (s.relinquished f line).RoundsOpen (s.hearRelinquish f stamp) (opened.toList.map fun _ => .pick line)
      (nextRound (.pick line) opened stamp) := by
  rw [State.hearRelinquish_pick h]
  exact State.openNext_roundsOpen _ _ _ _

section
variable {s : State} {f : Frame} {line : LineRef} (hq : s.quiet) (hi : s.intact) (href : refOf f.payload = .pick line)
  (stamp : Timer)
include hq hi href

/-- What the end of the step needs to know of a RELINQUISH heard. -/
theorem State.hearRelinquish_sound : (s.hearRelinquish f stamp).inHand.intact ∧
    (s.hearRelinquish f stamp).inHand.audit.relocations = [] := by
  have hopen := State.hearRelinquish_roundsOpen (s := s) href stamp
  obtain ⟨_, hstore, haudit, _⟩ := s.relinquished_parts f line
  refine ⟨fun n => ?_, ?_⟩
  · have hn := hi n
    rw [← hstore, ← hopen.store] at hn
    exact hn
  · exact (congrArg AuditUnit.relocations (hopen.audit.trans haudit)).trans hq.1

/-- The list stands as the own RELINQUISH has left it. -/
theorem State.hearRelinquish_givenBack (b : State) :
    (State.settle b (s.hearRelinquish f stamp).inHand).givenBack = (s.returned f).givenBack := by
  obtain ⟨hintact, hnone⟩ := State.hearRelinquish_sound hq hi href stamp
  have hlist := (State.hearRelinquish_roundsOpen (s := s) href stamp).relinquish
  rw [State.relinquished_contests] at hlist
  exact (State.settle_givenBack hintact hnone b).trans
    (congrArg (List.map fun e : RelinquishEntry => (e.line, e.quantity)) hlist)

/-- The next oldest entry is queued, where no other owner waits for a place (R114). -/
theorem State.hearRelinquish_next {e : RelinquishEntry} {rest : List RelinquishEntry}
    (hlist : (s.returned f).contests.relinquish = e :: rest) (hqueued : ∀ x ∈ e :: rest, x.queued = false)
    (hrecords : s.contests.records = []) (hroom : s.txRoom = true) (howner : s.ownerWaits = false) :
    s.port.tx ++ [{ frame := relinquishFrameOf s.own e, state := .queued, retries := 0 }] <+:
        (State.settle s (s.hearRelinquish f stamp).inHand).port.tx ∧
      (State.settle s (s.hearRelinquish f stamp).inHand).contests.relinquish = { e with queued := true } :: rest := by
  obtain ⟨hintact, hnone⟩ := State.hearRelinquish_sound hq hi href stamp
  have hopen := State.hearRelinquish_roundsOpen (s := s) href stamp
  have hcontests := s.relinquished_contests f line
  obtain ⟨hport, _, _, hcontrol⟩ := s.relinquished_parts f line
  have hempty : (s.relinquished f line).contests.records = [] := by rw [hcontests]; exact hrecords
  have hsame : (s.hearRelinquish f stamp).port = s.port := by
    rw [State.hearRelinquish_pick href, State.openNext_port hempty, hport]
  have hown : (s.hearRelinquish f stamp).control = s.control := by
    rw [hopen.rest]
    exact hcontrol
  have hended : (s.hearRelinquish f stamp).contests.records = [] := by
    rw [hopen.records, hempty]
    generalize Option.toList _ = opened
    induction opened with
    | nil => rfl
    | cons _ _ ih => exact ih
  have hnow : (s.hearRelinquish f stamp).contests.relinquish = e :: rest := by
    rw [hopen.relinquish, hcontests]
    exact hlist
  have hpockets : (s.hearRelinquish f stamp).lanes.pockets = s.lanes.pockets := by
    rw [hopen.lanes]
    exact (s.relinquished_eq f line).2
  have hfree : (s.hearRelinquish f stamp).inHand.txRoom = true := by
    change (s.hearRelinquish f stamp).txRoom = true
    unfold State.txRoom at hroom ⊢
    rwa [hsame]
  have hoffer := State.settle_relinquish (b := s) (s := s) hintact hnone hended (congrArg StationControl.halt hown) hpockets
    howner hnow hqueued hfree
  have hnumber : (s.hearRelinquish f stamp).inHand.own = s.own := congrArg StationControl.stationNumber hown
  rw [hnumber] at hoffer
  rw [← hsame]
  exact hoffer

end

/-! ### An entry joins the list (R113) -/

/-- An entry of a line whose frame has not been queued. -/
def RelinquishEntry.openFor (e : RelinquishEntry) (line : LineRef) : Prop := e.line = line ∧ e.queued = false

theorem mergeNewest_none {line : LineRef} {q : Nat} {xs : List RelinquishEntry} (h : ∀ x ∈ xs, ¬x.openFor line) :
    mergeNewest line q xs = none := by
  induction xs with
  | nil => rfl
  | cons x rest ih =>
    obtain ⟨hx, hrest⟩ := List.forall_mem_cons.1 h
    simp only [mergeNewest, ih hrest]
    exact if_neg hx

/-- The newest open entry of the line takes the quantity. -/
theorem mergeNewest_some {line : LineRef} {q : Nat} {before : List RelinquishEntry} {e : RelinquishEntry}
    {after : List RelinquishEntry} (he : e.openFor line) (h : ∀ x ∈ after, ¬x.openFor line) :
    mergeNewest line q (before ++ e :: after) = some (before ++ { e with quantity := e.quantity + q } :: after) := by
  induction before with
  | nil =>
    simp only [List.nil_append, mergeNewest, mergeNewest_none h]
    exact if_pos he
  | cons x rest ih => simp only [List.cons_append, mergeNewest, ih]

section
variable {s : State} {line : LineRef} {q : Nat}

theorem State.addRelinquish_joins (h : s.contests.relinquish.length < 32) :
    s.addRelinquish line q = (s.updateLine line fun l => { l with ownClaim := l.ownClaim - q }).setContests
      { s.contests with relinquish := s.contests.relinquish ++ [{ line := line, quantity := q, queued := false }] } := by
  unfold State.addRelinquish relinquishCapacity
  simp only [State.updateLine_contests]
  exact if_pos h

theorem State.addRelinquish_merges (h : 32 ≤ s.contests.relinquish.length) {merged : List RelinquishEntry}
    (hm : mergeNewest line q s.contests.relinquish = some merged) :
    s.addRelinquish line q = (s.updateLine line fun l => { l with ownClaim := l.ownClaim - q }).setContests
      { s.contests with relinquish := merged } := by
  unfold State.addRelinquish relinquishCapacity
  simp only [State.updateLine_contests, hm]
  exact if_neg (Nat.not_lt.2 h)

theorem State.addRelinquish_drops (h : 32 ≤ s.contests.relinquish.length)
    (hm : mergeNewest line q s.contests.relinquish = none) :
    s.addRelinquish line q = (s.updateLine line fun l => { l with ownClaim := l.ownClaim - q }).countLost := by
  unfold State.addRelinquish relinquishCapacity
  simp only [State.updateLine_contests, hm]
  exact if_neg (Nat.not_lt.2 h)

end

/-- In each case the line's own claim falls at once. -/
theorem State.addRelinquish_lanes (s : State) (line : LineRef) (q : Nat) :
    (s.addRelinquish line q).lanes = (s.updateLine line fun l => { l with ownClaim := l.ownClaim - q }).lanes := by
  by_cases h : s.contests.relinquish.length < 32
  · rw [State.addRelinquish_joins h]; rfl
  · cases hm : mergeNewest line q s.contests.relinquish with
    | none => rw [State.addRelinquish_drops (Nat.not_lt.1 h) hm]; rfl
    | some merged => rw [State.addRelinquish_merges (Nat.not_lt.1 h) hm]; rfl

/-! ### The statement -/

/-- Settles O41: the accounts are those of `relinquished_known`, on which the round opens (`hearRelinquish_roundsOpen`) and is
considered (`RoundsOpen.considers`); the list is that of `hearRelinquish_givenBack` and `hearRelinquish_next`; and an entry
joins, merges or is dropped (`addRelinquish_joins`, `mergeNewest_some`, `mergeNewest_none`). -/
theorem relinquishGivesBack : Obligations.RelinquishGivesBack := by
  refine ⟨?_, fun s line q => ?_⟩
  · intro s h line hh hservice href q
    have hnext := State.handed_next hh (kind := FrameKind.isRelinquish) rfl hservice
      fun h u => u.hearRelinquish h.frame h.stamp
    have hopen := State.hearRelinquish_roundsOpen (s := s) href h.stamp
    have hcontests := s.relinquished_contests h.frame line
    have hkept := (State.settle_kept s (s.hearRelinquish h.frame h.stamp).inHand).trans hopen.kept
    have hrecords := (State.settle_records s (s.hearRelinquish h.frame h.stamp).inHand).trans hopen.records
    have hoffers := State.settle_offers s (s.hearRelinquish h.frame h.stamp).inHand
    have hconsiders (hq : s.quiet) (hc : s.contests.computing = none) := hopen.considers
      ⟨(congrArg AuditUnit.relocations (s.relinquished_parts h.frame line).2.2.1).trans hq.1,
        (congrArg ContestEngine.considering hcontests).trans hq.2⟩
      ((congrArg ContestEngine.computing hcontests).trans hc) s
    rw [hcontests] at hrecords
    have hgone : (s.returned h.frame).kept = s.kept := by rw [State.returned_eq]; rfl
    refine ⟨_, hnext, hoffers.trans ?_, fun hnone => ?_, fun l hl => ?_, fun hother hq hi => ?_,
      fun e rest hown hlist hqueued hq hi => ⟨?_, ?_⟩⟩
    · change (s.hearRelinquish h.frame h.stamp).contests.offers = _
      rw [State.hearRelinquish_pick href, State.openNext_offers, hcontests]
    · obtain ⟨hbase, hnever⟩ := State.relinquished_unknown (f := h.frame) hnone
      rw [hnever] at hrecords hconsiders
      rw [hbase] at hkept
      exact ⟨hkept.trans hgone, hrecords, hconsiders⟩
    · obtain ⟨hbase, hround⟩ := State.relinquished_known (f := h.frame) hl
      rw [OrderLine.judge_line] at hbase
      intro claimed further after
      refine ⟨hkept.trans ?_, ?_, fun hfurther => ?_, fun hlast => ?_⟩
      · rw [hbase, State.returned_eq, State.updateLine_setContests]
        rfl
      · rw [State.lineAt_of_lanes hopen.lanes, hbase, State.lineAt_updateLine ((s.returned_lineAt h.frame line).trans hl)]
        rfl
      · rw [hround, OrderLine.judge_opens hfurther] at hrecords hconsiders
        exact ⟨hrecords, hconsiders⟩
      · rw [hround, OrderLine.judge_ends hlast] at hrecords hconsiders
        exact ⟨hrecords, hconsiders⟩
    · exact (State.hearRelinquish_givenBack hq hi href h.stamp s).trans (by rw [State.returned_other hother])
    · exact (State.hearRelinquish_givenBack hq hi href h.stamp s).trans
        (congrArg (List.map fun e : RelinquishEntry => (e.line, e.quantity)) (State.returned_own hown hlist hqueued))
    · intro next more hrest hnone hempty hroom howner
      have hleft := (State.returned_own hown hlist hqueued).trans hrest
      exact State.hearRelinquish_next hq hi href h.stamp hleft (hrest ▸ hnone) hempty hroom howner
  · intro u isOpen
    refine ⟨fun hroom => ?_, fun before e after hfull hlist he hafter => ?_, fun hfull hnone => ?_, fun l hl => ?_⟩
    · change (s.addRelinquish line q).contests.relinquish = _ ∧ (s.addRelinquish line q).control.lost = _
      rw [State.addRelinquish_joins hroom]
      exact ⟨rfl, congrArg StationControl.lost (s.updateLine_control line _)⟩
    · change (s.addRelinquish line q).contests.relinquish = _ ∧ (s.addRelinquish line q).control.lost = _
      rw [State.addRelinquish_merges hfull (by rw [hlist]; exact mergeNewest_some he hafter)]
      exact ⟨rfl, congrArg StationControl.lost (s.updateLine_control line _)⟩
    · change (s.addRelinquish line q).contests.relinquish = _ ∧ (s.addRelinquish line q).control.lost = _
      rw [State.addRelinquish_drops hfull (mergeNewest_none hnone)]
      exact ⟨congrArg ContestEngine.relinquish (s.updateLine_contests line _),
        congrArg (fun c : StationControl => min 255 (c.lost + 1)) (s.updateLine_control line _)⟩
    · rw [State.lineAt_of_lanes (s.addRelinquish_lanes line q), State.lineAt_updateLine hl]

end Sys2Proof.Machine
end

section
/-! SUPPORT. What a CLAIM heard does (R99, R108 to R112, R122), and the proof of the statement about it. -/

namespace Sys2Proof.Machine

/-! ### The own claim (R109 to R112) -/

/-- The part of a state that taking the slots of an own claim leaves alone. -/
def State.account (s : State) : Kept × Outer := (s.kept, s.outer)

theorem ite_account {c : Prop} [Decidable c] {t u : State} {a : Kept × Outer} (ht : t.account = a) (hu : u.account = a) :
    (if c then t else u).account = a := by split <;> assumption

section
variable (s : State)

@[simp] theorem State.readSlot_account (slot : Nat) : (s.readSlot slot).state.account = s.account := by simp [State.account]

@[simp] theorem State.request_account (slot : Nat) (a : SlotRecord → Bool) (n : SlotRecord → SlotRecord) :
    (s.request slot a n).state.account = s.account := by simp [State.account]

@[simp] theorem State.addTask_account (w : TaskWork) (slot : Nat) : (s.addTask w slot).account = s.account := rfl

@[simp] theorem State.relinquishSome_account (line : LineRef) (q : Nat) :
    (s.relinquishSome line q).account = s.account := by
  unfold State.relinquishSome
  split <;> simp [State.account]

@[simp] theorem State.reportFailed_account (id n : Nat) : (s.reportFailed id n).account = s.account := by
  unfold State.reportFailed
  split <;> simp [State.account]

@[simp] theorem State.askReceiving_account (id n : Nat) (stamp : Timer) : (s.askReceiving id n stamp).account = s.account := by
  unfold State.askReceiving
  simp only
  split
  · rfl
  · split <;> rfl

@[simp] theorem State.takePickSlot_account (line : LineRef) (slot : Nat) :
    (s.takePickSlot line slot).1.account = s.account := by
  unfold State.takePickSlot
  simp only
  split
  · simp
  · split_ifs <;> simp

@[simp] theorem State.takeStoreSlot_account (id : Nat) (tyre : StockData) (slot : Nat) :
    (s.takeStoreSlot id tyre slot).1.account = s.account := by
  unfold State.takeStoreSlot
  simp only
  split_ifs <;> simp

end

theorem State.takeSlots_account {take : State → Nat → State × Bool} (h : ∀ t n, (take t n).1.account = t.account)
    (s : State) (slots : List Nat) : (State.takeSlots take s slots).1.account = s.account := by
  induction slots generalizing s with
  | nil => rfl
  | cons n rest ih => exact (ih _).trans (h s n)

theorem State.takePick_account (s : State) (line : LineRef) (slots : List Nat) :
    (s.takePick line slots).account = s.account :=
  (State.relinquishSome_account _ line _).trans (State.takeSlots_account (fun t n => t.takePickSlot_account line n) s slots)

theorem State.takeStore_account (s : State) (id : Nat) (tyre : StockData) (slots : List Nat) (stamp : Timer) :
    (s.takeStore id tyre slots stamp).account = s.account := by
  have htaken := State.takeSlots_account (fun t n => t.takeStoreSlot_account id tyre n) s slots
  refine ite_account ?_ (s.reportFailed_account id _)
  rw [State.reportFailed_account]
  exact ite_account htaken ((State.askReceiving_account _ _ _ _).trans htaken)

/-! ### The record of a claim (R109) -/

theorem removeFirst_of_find {α : Type} [DecidableEq α] {test : α → Bool} {xs : List α} {r : α}
    (h : xs.find? test = some r) : removeFirst (fun x => decide (x = r)) xs = removeFirst test xs := by
  induction xs with
  | nil => cases h
  | cons x rest ih =>
    cases hx : test x with
    | true =>
      obtain rfl : x = r := by simpa [hx] using h
      simp [removeFirst, hx]
    | false =>
      have hrest : rest.find? test = some r := by simpa [hx] using h
      have hne : x ≠ r := by
        rintro rfl
        exact absurd (List.find?_some hrest) (by simp [hx])
      simp [removeFirst, hx, hne, ih hrest]

theorem removeFirst_of_none {α : Type} {test : α → Bool} {xs : List α} (h : ∀ x ∈ xs, test x = false) :
    removeFirst test xs = xs := by
  induction xs with
  | nil => rfl
  | cons x rest ih =>
    obtain ⟨hx, hrest⟩ := List.forall_mem_cons.1 h
    simp [removeFirst, hx, ih hrest]

/-- Whether a record is that of an own CLAIM heard (R109). -/
def ClaimFields.owns (c : ClaimFields) (x : Contest) : Bool :=
  x.named c.ref c.round && (decide (x.state = .claiming) || decide (x.state = .closed)) && x.claimFrame.isSome

/-- Two states with the same kept part and contests alike but for the contest records, which are given, and the
relinquish list. -/
structure State.HasRecords (s t : State) (records : List Contest) : Prop where
  kept : t.kept = s.kept
  records : t.contests.records = records
  offers : t.contests.offers = s.contests.offers
  computing : t.contests.computing = s.contests.computing
  considering : t.contests.considering = s.contests.considering

theorem State.HasRecords.of_account {s t u : State} {records : List Contest} (h : s.HasRecords t records)
    (hu : u.account = t.account) : s.HasRecords u records where
  kept := (congrArg Prod.fst hu).trans h.kept
  records := (congrArg (fun a : Kept × Outer => a.2.records) hu).trans h.records
  offers := (congrArg (fun a : Kept × Outer => a.2.offers) hu).trans h.offers
  computing := (congrArg (fun a : Kept × Outer => a.2.computing) hu).trans h.computing
  considering := (congrArg (fun a : Kept × Outer => a.2.considering) hu).trans h.considering

theorem State.freeClaimed_records (s : State) (r : Contest) :
    s.HasRecords (s.freeClaimed r) (removeFirst (fun x => decide (x = r)) s.contests.records) := by
  have hcontests := (s.withdrawBid_sameButTx r).contests
  unfold State.freeClaimed
  refine ⟨s.withdrawBid_kept r, ?_, ?_, ?_, ?_⟩
  · simp [hcontests]
  · simp [hcontests]
  · simp [hcontests]
  · simp [hcontests]

/-- An own CLAIM frees its record, and takes slots or gives them back, which leaves the rest of the contests alone. -/
theorem State.takeOwnClaim_records (s : State) (c : ClaimFields) (applied : Nat) (stamp : Timer) :
    s.HasRecords (s.takeOwnClaim c applied stamp) (removeFirst c.owns s.contests.records) := by
  unfold State.takeOwnClaim
  cases howner : s.claimOwner c with
  | some r =>
    have hfreed := s.freeClaimed_records r
    rw [removeFirst_of_find (test := c.owns) howner] at hfreed
    refine hfreed.of_account (ite_account rfl ?_)
    split
    · exact State.takePick_account _ _ _
    · split
      · exact State.reportFailed_account _ _ _
      · exact State.takeStore_account _ _ _ _ _
  | none =>
    have hnone : ∀ x ∈ s.contests.records, c.owns x = false := fun x hx =>
      Bool.eq_false_iff.2 (List.find?_eq_none.1 howner x hx)
    rw [removeFirst_of_none hnone]
    simp only
    refine State.HasRecords.of_account (t := s) ⟨rfl, rfl, rfl, rfl, rfl⟩ ?_
    split
    · exact State.relinquishSome_account _ _ _
    · exact State.reportFailed_account _ _ _

/-! ### A claim applied and taken (R108) -/

/-- What the application of a CLAIM heard gives. -/
def State.appliedClaim (s : State) (f : Frame) : Applied :=
  s.applyAnyClaim (claimOf f.payload) (decide (f.key.station = s.own))

/-- The state with the CLAIM applied and, if it is this station's own, taken. -/
def State.tookClaim (s : State) (f : Frame) (stamp : Timer) : State :=
  if f.key.station = s.own then
    (s.appliedClaim f).state.takeOwnClaim (claimOf f.payload) (s.appliedClaim f).quantity stamp
  else (s.appliedClaim f).state

theorem State.hearClaim_eq (s : State) (f : Frame) (stamp : Timer) : s.hearClaim f stamp =
    ((s.tookClaim f stamp).endRecords fun x => decide (x.ref = refOf f.payload)).openNext (refOf f.payload)
      (s.appliedClaim f).opened stamp := by
  unfold State.hearClaim State.tookClaim
  simp only [decide_eq_true_eq]
  rfl

/-- The record a CLAIM heard frees: that of this station's own one. -/
def ownedClaim (own : BitVec 5) (f : Frame) (c : Contest) : Bool := decide (f.key.station = own ∧ c.ref = refOf f.payload ∧
  c.round = byteAt f.payload 3 ∧ (c.state = .claiming ∨ c.state = .closed) ∧ c.claimFrame.isSome = true)

theorem ownedClaim_own {own : BitVec 5} {f : Frame} (h : f.key.station = own) :
    ownedClaim own f = (claimOf f.payload).owns := by
  funext c
  unfold ownedClaim ClaimFields.owns Contest.named
  rw [Bool.eq_iff_iff]
  simp only [Bool.and_eq_true, Bool.or_eq_true, decide_eq_true_iff, and_assoc]
  exact and_iff_right h

theorem State.tookClaim_records (s : State) (f : Frame) (stamp : Timer) :
    (s.appliedClaim f).state.HasRecords (s.tookClaim f stamp)
      (removeFirst (ownedClaim s.own f) (s.appliedClaim f).state.contests.records) := by
  unfold State.tookClaim
  split
  · rename_i hown
    rw [ownedClaim_own hown]
    exact State.takeOwnClaim_records _ _ _ _
  · rename_i hother
    rw [removeFirst_of_none fun x _ => by simp [ownedClaim, hother]]
    exact ⟨rfl, rfl, rfl, rfl, rfl⟩

/-- The other records of the reference end, whether or not a round opens. -/
theorem State.hearClaim_roundsOpen (s : State) (f : Frame) (stamp : Timer) :
    (s.tookClaim f stamp).RoundsOpen (s.hearClaim f stamp) [refOf f.payload]
      (nextRound (refOf f.payload) (s.appliedClaim f).opened stamp) := by
  have hended := (s.tookClaim f stamp).endRecords_roundsOpen (refOf f.payload)
  rw [State.hearClaim_eq]
  cases (s.appliedClaim f).opened with
  | none => exact hended
  | some n =>
    have hopen := hended.trans (State.openRound_roundsOpen _ { ref := refOf f.payload, round := n, openedAt := stamp })
    exact { hopen with records := hopen.records.trans (filterMap_ended_twice _ _) }

theorem State.hearClaim_offers (s : State) (f : Frame) (stamp : Timer) :
    (s.hearClaim f stamp).contests.offers = (s.appliedClaim f).state.contests.offers := by
  rw [State.hearClaim_eq, State.openNext_offers, State.endRecords_offers]
  exact (s.tookClaim_records f stamp).offers

/-! ### The line of a claim (R122) -/

section
variable {s : State} {f : Frame} {line : LineRef} (href : refOf f.payload = .pick line)
include href

theorem State.appliedClaim_pick :
    s.appliedClaim f = s.applyClaim line (byteAt f.payload 4) (decide (f.key.station = s.own)) := by
  unfold State.appliedClaim State.applyAnyClaim claimOf
  simp only [href]

theorem State.appliedClaim_noLine (h : s.lineAt line = none) :
    (s.appliedClaim f).state = s ∧ (s.appliedClaim f).opened = none := by
  rw [State.appliedClaim_pick href]
  unfold State.applyClaim
  simp only [h, and_self]

theorem State.appliedClaim_line {l : OrderLine} (h : s.lineAt line = some l) :
    (s.appliedClaim f).state =
        s.updateLine line (fun x => (x.claim (byteAt f.payload 4) (decide (f.key.station = s.own))).judge.1) ∧
      (s.appliedClaim f).opened = (l.claim (byteAt f.payload 4) (decide (f.key.station = s.own))).judge.2 := by
  rw [State.appliedClaim_pick href]
  unfold State.applyClaim
  simp only [h, and_self]

theorem State.appliedClaim_pick_contests : (s.appliedClaim f).state.contests = s.contests := by
  cases h : s.lineAt line with
  | none => rw [(State.appliedClaim_noLine href h).1]
  | some l => rw [(State.appliedClaim_line href h).1, State.updateLine_contests]

end

/-! ### The offer of a claim (R99) -/

section
variable {s : State} {f : Frame} {batch : Nat} (href : refOf f.payload = .store batch)
include href

theorem State.appliedClaim_store : s.appliedClaim f = s.applyOfferClaim batch (byteAt f.payload 4) := by
  unfold State.appliedClaim State.applyAnyClaim claimOf
  simp only [href]

theorem State.appliedClaim_noOffer (h : ∀ o ∈ s.contests.offers, o.inboundId ≠ batch) :
    (s.appliedClaim f).state = s ∧ (s.appliedClaim f).opened = none := by
  have hnone : (s.contests.offers.find? fun o => decide (o.inboundId = batch)) = none :=
    List.find?_eq_none.2 fun o ho => by simpa using h o ho
  rw [State.appliedClaim_store href]
  unfold State.applyOfferClaim
  simp only [hnone, and_self]

/-- The one offer of the batch takes the CLAIM, and leaves the table where it is OPEN no more. -/
theorem State.appliedClaim_offer {before : List Offer} {o : Offer} {after : List Offer}
    (hlist : s.contests.offers = before ++ o :: after) (hid : o.inboundId = batch)
    (hothers : ∀ x ∈ before ++ after, x.inboundId ≠ batch ∧ x.state = .opened) :
    (s.appliedClaim f).state.contests.offers =
        before ++ ([(o.claim (byteAt f.payload 4)).1].filter fun x => decide (x.state = .opened)) ++ after ∧
      (s.appliedClaim f).opened = (o.claim (byteAt f.payload 4)).2 := by
  have hfind : (s.contests.offers.find? fun o => decide (o.inboundId = batch)) = some o := by
    rw [hlist, List.find?_append, List.find?_eq_none.2 fun x hx => by simpa using (hothers x (List.mem_append_left _ hx)).1]
    simp [hid]
  have hstay : ∀ xs : List Offer, (∀ x ∈ xs, x.inboundId ≠ batch ∧ x.state = .opened) →
      ((xs.map fun x => if x.inboundId = batch then (o.claim (byteAt f.payload 4)).1 else x).filter
        fun x => decide (x.state = .opened)) = xs := by
    intro xs hxs
    have hsame : (xs.map fun x => if x.inboundId = batch then (o.claim (byteAt f.payload 4)).1 else x) = xs :=
      (List.map_congr_left fun x hx => if_neg (hxs x hx).1).trans (List.map_id' xs)
    rw [hsame]
    exact List.filter_eq_self.2 fun x hx => decide_eq_true (hxs x hx).2
  rw [State.appliedClaim_store href]
  unfold State.applyOfferClaim
  simp only [hfind, State.setContests_contests, and_true]
  rw [hlist, List.map_append, List.map_cons, if_pos hid, List.filter_append, ← List.singleton_append, List.filter_append,
    hstay before fun x hx => hothers x (List.mem_append_left _ hx),
    hstay after fun x hx => hothers x (List.mem_append_right _ hx), List.append_assoc]

theorem State.appliedClaim_store_parts : (s.appliedClaim f).state =
    s.setContests { s.contests with offers := (s.appliedClaim f).state.contests.offers } := by
  rw [State.appliedClaim_store href]
  unfold State.applyOfferClaim
  split <;> rfl

end

/-- The application of a CLAIM changes the offers alone of the contests. -/
theorem State.appliedClaim_contests (s : State) (f : Frame) : (s.appliedClaim f).state.contests =
    { s.contests with offers := (s.appliedClaim f).state.contests.offers } := by
  cases href : refOf f.payload with
  | pick line => rw [State.appliedClaim_pick_contests href]
  | store id => exact congrArg State.contests (State.appliedClaim_store_parts href)

/-- An offer that is filled, or has had its sixth round, is OPEN no more. -/
theorem Offer.claim_gone {o : Offer} {k : Nat}
    (h : o.claimed + min k (o.quantity - o.claimed) = o.quantity ∨ 6 ≤ o.round) :
    (o.claim k).1.state ≠ .opened ∧ (o.claim k).2 = none := by
  unfold Offer.claim maxRound
  simp only
  split_ifs with hfilled hround
  · exact ⟨by simp, rfl⟩
  · omega
  · exact ⟨by simp, rfl⟩

theorem Offer.claim_opens {o : Offer} {k : Nat} (h : o.claimed + min k (o.quantity - o.claimed) < o.quantity)
    (hround : o.round < 6) :
    o.claim k = ({ o with claimed := o.claimed + min k (o.quantity - o.claimed), round := o.round + 1 },
      some (o.round + 1)) := by
  unfold Offer.claim maxRound
  simp only
  rw [if_neg (Nat.ne_of_lt h), if_pos hround]

/-! ### The statement -/

/-- Settles O37: the CLAIM is applied to its line (`appliedClaim_line`) or its offer (`appliedClaim_offer`), an own one frees
its record (`tookClaim_records`), the other records of the reference end (`hearClaim_roundsOpen`), and the end of the step
considers the round that opens (`inHand_considers`). -/
theorem claimCountsForEveryStation : Obligations.ClaimCountsForEveryStation := by
  intro s h hh hservice k ref owned
  have hnext := State.handed_next hh (kind := FrameKind.isClaim) rfl hservice fun h u => u.hearClaim h.frame h.stamp
  have hopen := s.hearClaim_roundsOpen h.frame h.stamp
  have htook := s.tookClaim_records h.frame h.stamp
  have hkept := ((State.settle_kept s (s.hearClaim h.frame h.stamp).inHand).trans hopen.kept).trans htook.kept
  have hrecords := (State.settle_records s (s.hearClaim h.frame h.stamp).inHand).trans hopen.records
  have hoffers := (State.settle_offers s (s.hearClaim h.frame h.stamp).inHand).trans (s.hearClaim_offers h.frame h.stamp)
  have happlied := s.appliedClaim_contests h.frame
  have hconsiders (hq : s.quiet) (hc : s.contests.computing = none) :
      (s.hearClaim h.frame h.stamp).inHand.relocateAll.considers (State.settle s (s.hearClaim h.frame h.stamp).inHand)
        (nextRound (refOf h.frame.payload) (s.appliedClaim h.frame).opened h.stamp) := by
    have hidle := (congrArg ContestEngine.computing happlied).trans hc
    have hnow := State.inHand_considers (hopen.computing.trans (htook.computing.trans hidle)) s
    have hwaiting := (congrArg ContestEngine.considering happlied).trans hq.2
    rwa [hopen.considering, htook.considering, hwaiting] at hnow
  rw [htook.records, congrArg ContestEngine.records happlied] at hrecords
  refine ⟨_, hnext, hrecords, fun line hline => ⟨?_, fun hnone => ?_, fun l hl => ?_⟩,
    fun id hid => ⟨?_, fun hnone => ?_, ?_⟩⟩
  · exact hoffers.trans (congrArg ContestEngine.offers (State.appliedClaim_pick_contests hline))
  · obtain ⟨hsame, hnever⟩ := State.appliedClaim_noLine hline hnone
    rw [hnever] at hconsiders
    exact ⟨hkept.trans (congrArg State.kept hsame), hconsiders⟩
  · obtain ⟨hstate, hround⟩ := State.appliedClaim_line hline hl
    rw [hround, hline] at hconsiders
    refine ⟨hkept.trans ?_, fun hfurther => ?_, fun hlast => ?_⟩
    · rw [hstate]
      exact State.updateLine_shared hl (by rw [OrderLine.judge_line]; rfl)
    · rwa [OrderLine.judge_opens hfurther] at hconsiders
    · rwa [OrderLine.judge_ends hlast] at hconsiders
  · exact hkept.trans (by rw [State.appliedClaim_store_parts hid]; rfl)
  · obtain ⟨hsame, hnever⟩ := State.appliedClaim_noOffer hid hnone
    rw [hnever] at hconsiders
    exact ⟨hoffers.trans (congrArg (fun v : State => v.contests.offers) hsame), hconsiders⟩
  · intro before o after hlist ho hothers claimed
    obtain ⟨hleft, hround⟩ := State.appliedClaim_offer hid hlist ho hothers
    rw [hround] at hconsiders
    refine ⟨fun hgone => ?_, fun hmore hearly hstate => ?_⟩
    · obtain ⟨hclosed, hnever⟩ := Offer.claim_gone (k := byteAt h.frame.payload 4) hgone
      rw [hnever] at hconsiders
      refine ⟨(hoffers.trans hleft).trans ?_, hconsiders⟩
      simp [hclosed]
    · have hopens := Offer.claim_opens (k := byteAt h.frame.payload 4) hmore hearly
      rw [hopens, hid] at hconsiders
      refine ⟨(hoffers.trans hleft).trans ?_, hconsiders⟩
      rw [hopens]
      simp [hstate, claimed, k]

end Sys2Proof.Machine
end

section
/-! SUPPORT. What a walk over the contest records leaves where the visits are known, the decision of a record (R105), and the
proof of the statement about the own BID heard (R104). -/

namespace Sys2Proof.Machine

/-! ### Walks over the contest records -/

/-- A walk whose visits keep to `P` and make of each record what `g` says leaves the records that `g` gives, on a state of
`P`. -/
theorem State.walkRecords_filterMap {s : State} {visit : State → Contest → State × Option Contest} {P : State → Prop}
    {g : Contest → Option Contest} (hs : P s)
    (hvisit : ∀ t, P t → ∀ c ∈ s.contests.records, P (visit t c).1 ∧ (visit t c).2 = g c) :
    ∃ u, P u ∧ s.walkRecords visit = u.setContests { u.contests with records := s.contests.records.filterMap g } := by
  have hfold : ∀ (cs : List Contest) (acc : State × List Contest), (∀ c ∈ cs, c ∈ s.contests.records) → P acc.1 →
      let r := cs.foldl (fun acc c => ((visit acc.1 c).1, acc.2 ++ (visit acc.1 c).2.toList)) acc
      P r.1 ∧ r.2 = acc.2 ++ cs.filterMap g := by
    intro cs
    induction cs with
    | nil => exact fun acc _ hacc => ⟨hacc, (List.append_nil _).symm⟩
    | cons c rest ih =>
      intro acc hmem hacc
      obtain ⟨hstate, hleft⟩ := hvisit acc.1 hacc c (hmem c (List.mem_cons_self ..))
      obtain ⟨hlast, hrecords⟩ := ih ((visit acc.1 c).1, acc.2 ++ (visit acc.1 c).2.toList)
        (fun d hd => hmem d (List.mem_cons_of_mem _ hd)) hstate
      refine ⟨hlast, hrecords.trans ?_⟩
      rw [hleft, List.append_assoc]
      cases hc : g c <;> simp [hc]
  obtain ⟨hlast, hrecords⟩ := hfold s.contests.records (s, []) (fun _ h => h) hs
  refine ⟨_, hlast, ?_⟩
  unfold State.walkRecords
  simp only
  rw [hrecords]
  rfl

/-- A walk that finds nothing to do. -/
theorem State.walkRecords_still {s : State} {visit : State → Contest → State × Option Contest}
    (h : ∀ c ∈ s.contests.records, visit s c = (s, some c)) : s.walkRecords visit = s := by
  obtain ⟨u, rfl, hwalk⟩ := State.walkRecords_filterMap (visit := visit) (P := (· = s)) (g := some) rfl
    (fun t ht c hc => by rw [ht, h c hc]; exact ⟨rfl, rfl⟩)
  rw [hwalk, List.filterMap_some]
  rfl

/-- A walk over one record is its visit. -/
theorem State.walkRecords_one {s : State} {c : Contest} (h : s.contests.records = [c])
    (visit : State → Contest → State × Option Contest) : s.walkRecords visit =
      (visit s c).1.setContests { (visit s c).1.contests with records := (visit s c).2.toList } := by
  unfold State.walkRecords
  rw [h]
  rfl

/-! ### The decision (R105, R162) -/

section
variable {s : State} {c : Contest}

/-- A lower key heard loses the record. -/
theorem State.decideRecord_loses {k : Nat} (hk : c.lowest = some k) (hlower : k < s.bidKey c) :
    s.decideRecord c = (s, { c with state := .lost }) := by
  unfold State.decideRecord
  rw [hk]
  exact if_pos hlower

/-- Without a lower key the record claims, where it can. -/
theorem State.decideRecord_claims (h : ∀ k, c.lowest = some k → s.bidKey c ≤ k) :
    s.decideRecord c = s.claimRecord c := by
  unfold State.decideRecord
  cases hk : c.lowest with
  | none => rfl
  | some k => exact if_neg (Nat.not_lt.2 (h k hk))

theorem State.claimRecord_queues (h : s.txRoom = true) : s.claimRecord c =
    (s.queueFrame (claimFrameOf s.own c), { c with state := .claiming, claimFrame := some .queued }) := if_pos h

/-- Without room a record that has no second chance is lost. -/
theorem State.claimRecord_full (h : s.txRoom = false) (hchance : c.secondChance = false) :
    s.claimRecord c = (s, { c with state := .lost }) := by
  unfold State.claimRecord
  rw [h, hchance]
  rfl

end

/-! ### The own BID heard (R104) -/

section
variable {s : State} {c : Contest} {ref : Ref} {round : Nat}

/-- A record of another reference or round is left alone. -/
theorem State.hearOwnBid_other (h : c.ref ≠ ref ∨ c.round ≠ round) : State.hearOwnBid ref round s c = (s, some c) := by
  have hnamed : c.named ref round = false := by
    unfold Contest.named
    rcases h with href | hround
    · rw [decide_eq_false href, Bool.false_and]
    · rw [decide_eq_false hround, Bool.and_false]
  unfold State.hearOwnBid
  exact if_neg fun hfound => by simp [hnamed] at hfound

theorem Contest.named_sent (href : c.ref = ref) (hround : c.round = round) (hbid : c.bidFrame ≠ none) :
    c.named ref round = true ∧ c.bidFrame.isSome = true :=
  ⟨by simp [Contest.named, href, hround], Option.isSome_iff_ne_none.2 hbid⟩

section
variable (href : c.ref = ref) (hround : c.round = round) (hbid : c.bidFrame ≠ none)
include href hround hbid

theorem State.hearOwnBid_window (h : c.state = .window) :
    State.hearOwnBid ref round s c = (s, some { c with bidFrame := none, ownHeard := true }) := by
  unfold State.hearOwnBid
  rw [if_pos (Contest.named_sent href hround hbid)]
  simp only [h]

theorem State.hearOwnBid_past (h : c.state = .lost ∨ c.state = .claiming) :
    State.hearOwnBid ref round s c = (s, some { c with bidFrame := none }) := by
  unfold State.hearOwnBid
  rw [if_pos (Contest.named_sent href hround hbid)]
  rcases h with h | h
  · simp only [h]
  · simp only [h]

theorem State.hearOwnBid_deciding (h : c.state = .deciding) {r : State × Contest}
    (hr : s.decideRecord { c with bidFrame := none, ownHeard := true } = r) :
    State.hearOwnBid ref round s c = (r.1, some r.2) := by
  unfold State.hearOwnBid
  rw [if_pos (Contest.named_sent href hround hbid), ← hr]
  simp only [h]

end
end

theorem State.hearOwnBid_kept (ref : Ref) (round : Nat) (s : State) (c : Contest) :
    (State.hearOwnBid ref round s c).1.kept = s.kept := by
  unfold State.hearOwnBid
  split
  · simp only
    split
    · rfl
    · exact State.decideRecord_kept _ _
    · rfl
    · rfl
    · rfl
  · rfl

theorem State.hearBid_own {s : State} {f : Frame} (h : f.key.station = s.own) :
    s.hearBid f = s.walkRecords (State.hearOwnBid (refOf f.payload) (byteAt f.payload 3)) := if_pos h

/-- Settles O32: the walk visits the one record (`walkRecords_one`), whose state says what the BID heard makes of it, in
DECIDING by the decision of R105 (`hearOwnBid_deciding`); where no record is named it finds nothing to do. -/
theorem ownBidHeard : Obligations.OwnBidHeard := by
  intro s h b hh hservice hown
  have hnext := State.handed_next hh (kind := FrameKind.isBid) rfl hservice fun h u => u.hearBid h.frame
  have hwalk := State.hearBid_own hown
  have hkept := State.settle_kept s (s.hearBid h.frame).inHand
  have hrecords := State.settle_records s (s.hearBid h.frame).inHand
  have htx := State.settle_tx s (s.hearBid h.frame).inHand
  refine ⟨_, hnext, hkept.trans ?_, fun hnone => ?_, fun c hone href hround hbid => ?_⟩
  · have hwalked := s.walkRecords_kept _ (State.hearOwnBid_kept (refOf h.frame.payload) (byteAt h.frame.payload 3))
    rw [← hwalk] at hwalked
    exact hwalked
  · rw [hrecords, hwalk, State.walkRecords_still fun c hc => State.hearOwnBid_other (hnone c hc)]
    rfl
  · have hvisited : ∀ {u : State} {d : Contest},
        State.hearOwnBid (refOf h.frame.payload) (byteAt h.frame.payload 3) s c = (u, some d) →
        (State.settle s (s.hearBid h.frame).inHand).contests.records = [d] ∧
          u.port.tx <+: (State.settle s (s.hearBid h.frame).inHand).port.tx := by
      intro u d hvisit
      have hone' := hwalk.trans (State.walkRecords_one hone _)
      rw [hvisit] at hone'
      rw [hone'] at hrecords htx ⊢
      exact ⟨hrecords, htx⟩
    have hclaims := State.decideRecord_claims (s := s) (c := { c with bidFrame := none, ownHeard := true })
    refine ⟨fun hwindow => ?_, fun hpast => ?_, fun hdeciding ⟨k, hk, hlower⟩ => ?_, fun hdeciding hlowest hroom => ?_,
      fun hdeciding hlowest hfull hchance => ?_⟩
    · exact (hvisited (State.hearOwnBid_window href hround hbid hwindow)).1
    · exact (hvisited (State.hearOwnBid_past href hround hbid hpast)).1
    · exact (hvisited (State.hearOwnBid_deciding href hround hbid hdeciding (State.decideRecord_loses hk hlower))).1
    · exact hvisited (State.hearOwnBid_deciding href hround hbid hdeciding
        ((hclaims hlowest).trans (State.claimRecord_queues hroom)))
    · exact (hvisited (State.hearOwnBid_deciding href hround hbid hdeciding
        ((hclaims hlowest).trans (State.claimRecord_full hfull hchance)))).1

end Sys2Proof.Machine
end

section
/-! SUPPORT. The marks that a TOWER_STATE takes: the sticky error flags (R159), with what the REPORT in the transmit queue
carries (R175). Which operations leave them alone, said once for each. -/

namespace Sys2Proof.Machine

/-- The four sticky error flags, and what the REPORT in the transmit queue carries. -/
structure ErrorMarks where
  level : Bool
  form : Bool
  check : Bool
  ack : Bool
  reportOut : Option ReportSource

def State.errorMarks (s : State) : ErrorMarks :=
  { level := s.port.stickyLevel, form := s.port.stickyForm, check := s.port.stickyCheck, ack := s.port.stickyAck,
    reportOut := s.control.reportOut }

/-- A fold of operations that leave the marks alone leaves them alone. -/
theorem foldl_errorMarks {α : Type} (f : State → α → State) (h : ∀ s x, (f s x).errorMarks = s.errorMarks) (xs : List α)
    (s : State) : (xs.foldl f s).errorMarks = s.errorMarks := by
  induction xs generalizing s with
  | nil => rfl
  | cons x rest ih => exact (ih (f s x)).trans (h s x)

/-- A conditional operation leaves the marks as `m` when both its outcomes do. -/
theorem ite_errorMarks {c : Prop} [Decidable c] {t u : State} {m : ErrorMarks} (ht : t.errorMarks = m)
    (hu : u.errorMarks = m) : (if c then t else u).errorMarks = m := by split <;> assumption

section
variable (s : State)

/-! ### Setters -/

@[simp] theorem State.setStore_errorMarks (x : StockStore) : (s.setStore x).errorMarks = s.errorMarks := rfl
@[simp] theorem State.setDrive_errorMarks (x : Drive) : (s.setDrive x).errorMarks = s.errorMarks := rfl
@[simp] theorem State.setPlanner_errorMarks (x : Planner) : (s.setPlanner x).errorMarks = s.errorMarks := rfl
@[simp] theorem State.setFace_errorMarks (x : FaceUnit) : (s.setFace x).errorMarks = s.errorMarks := rfl
@[simp] theorem State.setContests_errorMarks (x : ContestEngine) : (s.setContests x).errorMarks = s.errorMarks := rfl
@[simp] theorem State.setLanes_errorMarks (x : LaneTracker) : (s.setLanes x).errorMarks = s.errorMarks := rfl
@[simp] theorem State.setAudit_errorMarks (x : AuditUnit) : (s.setAudit x).errorMarks = s.errorMarks := rfl
@[simp] theorem State.setLane_errorMarks (l : Fin 8) (x : Lane) : (s.setLane l x).errorMarks = s.errorMarks := rfl
@[simp] theorem State.setPocket_errorMarks (p : Fin 2) (x : Pocket) : (s.setPocket p x).errorMarks = s.errorMarks := rfl
@[simp] theorem State.setEntry_errorMarks (p : Fin 2) (e : PocketEntry) : (s.setEntry p e).errorMarks = s.errorMarks := rfl
@[simp] theorem State.setDwell_errorMarks (d : Option Dwell) : (s.setDwell d).errorMarks = s.errorMarks := rfl
@[simp] theorem State.setQueue_errorMarks (q : List Task) : (s.setQueue q).errorMarks = s.errorMarks := rfl
@[simp] theorem State.updateTask_errorMarks (slot : Nat) (f : Task → Task) :
    (s.updateTask slot f).errorMarks = s.errorMarks := rfl

/-! ### Reports, lines, tasks and the dwell -/

@[simp] theorem State.writeReport_errorMarks (b : ReportBody) : (s.writeReport b).errorMarks = s.errorMarks :=
  ite_errorMarks rfl rfl

@[simp] theorem State.reportShort_errorMarks (id n : Nat) (c : ShortCause) (r : Option Receiving) :
    (s.reportShort id n c r).errorMarks = s.errorMarks := by
  unfold State.reportShort; split <;> simp

@[simp] theorem State.updateLine_errorMarks (l : LineRef) (f : OrderLine → OrderLine) :
    (s.updateLine l f).errorMarks = s.errorMarks := by rw [State.updateLine_lanes]; rfl

@[simp] theorem State.addRelinquish_errorMarks (line : LineRef) (q : Nat) :
    (s.addRelinquish line q).errorMarks = s.errorMarks := by
  have hline := s.updateLine_errorMarks line fun l => { l with ownClaim := l.ownClaim - q }
  unfold State.addRelinquish
  refine ite_errorMarks hline ?_
  split
  · exact hline
  · exact hline

@[simp] theorem State.freeAssigned_errorMarks (slot : Nat) : (s.freeAssigned slot).errorMarks = s.errorMarks := by
  unfold State.freeAssigned; split <;> rfl

@[simp] theorem State.requestRestore_errorMarks (p : Fin 2) : (s.requestRestore p).errorMarks = s.errorMarks := by
  unfold State.requestRestore
  split
  · rfl
  · exact ite_errorMarks rfl rfl

@[simp] theorem State.dropTask_errorMarks (slot : Nat) : (s.dropTask slot).errorMarks = s.errorMarks :=
  ite_errorMarks (foldl_errorMarks _ State.requestRestore_errorMarks _ _) rfl

@[simp] theorem State.dropDue_errorMarks (slot : Nat) : (s.dropDue slot).errorMarks = s.errorMarks := by
  unfold State.dropDue; split <;> rfl

@[simp] theorem State.testCompletion_errorMarks : s.testCompletion.errorMarks = s.errorMarks := by
  unfold State.testCompletion
  split
  · rfl
  · exact ite_errorMarks rfl rfl

@[simp] theorem State.removeTask_errorMarks (slot : Nat) : (s.removeTask slot).errorMarks = s.errorMarks := by
  simp [State.removeTask]

@[simp] theorem State.handOn_errorMarks (slot : Nat) (d : Option StockData) : (s.handOn slot d).errorMarks = s.errorMarks := by
  unfold State.handOn
  split
  · rfl
  · split
    · simp [State.failPick]
    · rfl
    · rfl

/-! ### Slot records -/

@[simp] theorem State.writeRecord_errorMarks (slot : Nat) (r : SlotRecord) :
    (s.writeRecord slot r).errorMarks = s.errorMarks := ite_errorMarks rfl rfl

@[simp] theorem State.readSlot_errorMarks (slot : Nat) : (s.readSlot slot).state.errorMarks = s.errorMarks := by
  unfold State.readSlot
  simp only
  split_ifs <;> simp

@[simp] theorem State.request_errorMarks (slot : Nat) (a : SlotRecord → Bool) (n : SlotRecord → SlotRecord) :
    (s.request slot a n).state.errorMarks = s.errorMarks := by
  unfold State.request
  simp only
  split
  · exact ite_errorMarks (by simp) (by simp)
  · simp

@[simp] theorem State.readTable_errorMarks : s.readTable.errorMarks = s.errorMarks :=
  foldl_errorMarks _ (fun t n => t.readSlot_errorMarks n) _ s

@[simp] theorem State.cancelPicks_errorMarks (test : LineRef → Bool) : (s.cancelPicks test).errorMarks = s.errorMarks :=
  foldl_errorMarks _ (fun t x => by simp [State.cancelPick]) _ s

/-! ### Pockets -/

@[simp] theorem State.withdrawIntent_errorMarks (p : Fin 2) : (s.withdrawIntent p).errorMarks = s.errorMarks := by
  unfold State.withdrawIntent
  split
  · rfl
  · rfl
  · split
    · rfl
    · exact ite_errorMarks rfl rfl

@[simp] theorem State.turnRestore_errorMarks (p : Fin 2) : (s.turnRestore p).errorMarks = s.errorMarks := by
  unfold State.turnRestore
  simp only
  split <;> simp

@[simp] theorem State.restoreEntries_errorMarks (test : LineRef → Bool) :
    (s.restoreEntries test).errorMarks = s.errorMarks := by
  refine foldl_errorMarks _ (fun t p => ?_) _ s
  split
  · rfl
  · split
    · rfl
    · exact ite_errorMarks (by simp) rfl

@[simp] theorem State.dropIntents_errorMarks : s.dropIntents.errorMarks = s.errorMarks := by
  refine foldl_errorMarks _ (fun t p => ?_) _ s
  split
  · rfl
  · exact ite_errorMarks rfl rfl

/-! ### Contest records -/

/-- A walk whose visits leave the marks alone leaves them alone. -/
theorem State.walkRecords_errorMarks {visit : State → Contest → State × Option Contest}
    (h : ∀ t c, (visit t c).1.errorMarks = t.errorMarks) : (s.walkRecords visit).errorMarks = s.errorMarks := by
  have hfold : ∀ (cs : List Contest) (acc : State × List Contest),
      (cs.foldl (fun acc c => ((visit acc.1 c).1, acc.2 ++ (visit acc.1 c).2.toList)) acc).1.errorMarks =
        acc.1.errorMarks := by
    intro cs
    induction cs with
    | nil => exact fun _ => rfl
    | cons c rest ih => exact fun acc => (ih _).trans (h acc.1 c)
  exact hfold s.contests.records (s, [])

@[simp] theorem State.withdrawBid_errorMarks (c : Contest) : (s.withdrawBid c).errorMarks = s.errorMarks :=
  ite_errorMarks rfl rfl

@[simp] theorem State.withdrawClaim_errorMarks (c : Contest) : (s.withdrawClaim c).errorMarks = s.errorMarks :=
  ite_errorMarks rfl rfl

@[simp] theorem State.freeRecords_errorMarks (test : Contest → Bool) : (s.freeRecords test).errorMarks = s.errorMarks := by
  refine s.walkRecords_errorMarks fun t c => ?_
  split
  · simp [State.withdrawOwn]
  · rfl

@[simp] theorem State.dropBid_errorMarks (f : Frame) : (s.dropBid f).errorMarks = s.errorMarks := by
  refine s.walkRecords_errorMarks fun t c => ?_
  split_ifs
  · rfl
  · exact t.withdrawClaim_errorMarks c
  · rfl

@[simp] theorem State.discardComputation_errorMarks (test : Ref → Bool) :
    (s.discardComputation test).errorMarks = s.errorMarks := by
  unfold State.discardComputation
  split
  · rfl
  · exact ite_errorMarks rfl rfl

@[simp] theorem State.contestExit_errorMarks : s.contestExit.errorMarks = s.errorMarks := by simp [State.contestExit]

/-! ### The view of the bus and the counters (R131, R164 to R167) -/

@[simp] theorem State.blindLane_errorMarks (lane : Fin 8) : (s.blindLane lane).errorMarks = s.errorMarks := by
  have hgive : ∀ (t : State) l, (t.giveBackLine l).errorMarks = t.errorMarks :=
    fun t l => ite_errorMarks rfl (t.addRelinquish_errorMarks l _)
  refine ite_errorMarks ?_ rfl
  simp [foldl_errorMarks _ hgive]

@[simp] theorem State.loseView_errorMarks : s.loseView.errorMarks = s.errorMarks := by
  unfold State.loseView State.emptyOffers State.blindAll
  rw [State.setContests_errorMarks, foldl_errorMarks _ State.blindLane_errorMarks]

@[simp] theorem State.enterOff_errorMarks : s.enterOff.errorMarks = s.errorMarks :=
  (State.loseView_errorMarks _).trans ((State.dropIntents_errorMarks _).trans s.contestExit_errorMarks)

@[simp] theorem State.setCounters_errorMarks (tx rx : Nat) : (s.setCounters tx rx).errorMarks = s.errorMarks := by
  unfold State.setCounters
  refine ite_errorMarks rfl ?_
  split
  · rfl
  · exact State.contestExit_errorMarks _
  · exact State.enterOff_errorMarks _

@[simp] theorem State.receiveError_errorMarks : s.receiveError.errorMarks = s.errorMarks := by
  have hcounted := s.setCounters_errorMarks s.port.txErrors (raiseTo maxByteCount 1 s.port.rxErrors)
  have hjoined : (if s.listenOnly then
      (s.setCounters s.port.txErrors (raiseTo maxByteCount 1 s.port.rxErrors)).joinOverflow
    else s.setCounters s.port.txErrors (raiseTo maxByteCount 1 s.port.rxErrors)).errorMarks = s.errorMarks :=
    ite_errorMarks ((State.loseView_errorMarks _).trans hcounted) hcounted
  exact ite_errorMarks ((State.loseView_errorMarks _).trans ((State.contestExit_errorMarks _).trans hjoined)) hjoined

@[simp] theorem State.changeContender_errorMarks (f : TxFrame → TxFrame) :
    (s.changeContender f).errorMarks = s.errorMarks := by
  unfold State.changeContender
  split
  · rfl
  · split <;> rfl

@[simp] theorem State.failContender_errorMarks : s.failContender.errorMarks = s.errorMarks := by
  have hremove : s.removeContender.errorMarks = s.errorMarks := by unfold State.removeContender; split <;> rfl
  unfold State.failContender
  split
  · rfl
  · exact ite_errorMarks ((State.dropBid_errorMarks _ _).trans hremove) (s.changeContender_errorMarks _)

/-- An error detected leaves the marks that its flag gives (R159). -/
theorem State.busError_errorMarks (kind : BusError) (role : BusRole) :
    (s.busError kind role).errorMarks = (s.setPort (s.port.stick kind)).errorMarks := by
  unfold State.busError
  cases role with
  | transmitter => exact (State.setCounters_errorMarks _ _ _).trans (State.failContender_errorMarks _)
  | receiver => exact State.receiveError_errorMarks _

/-! ### Relocation and the rounds considered -/

@[simp] theorem State.moveTask_errorMarks (old new : Nat) : (s.moveTask old new).errorMarks = s.errorMarks := by
  unfold State.moveTask
  split
  · rfl
  · exact ite_errorMarks (ite_errorMarks rfl (by simp)) rfl

@[simp] theorem State.cancelRelocated_errorMarks (r : Relocation) : (s.cancelRelocated r).errorMarks = s.errorMarks := by
  simp [State.cancelRelocated, State.freeReceived]

@[simp] theorem State.placeTask_errorMarks (r : Relocation) (d : StockData) :
    (s.placeTask r d).errorMarks = s.errorMarks := by
  unfold State.placeTask
  split
  · simp
  · exact ite_errorMarks (by simp) (by simp)

@[simp] theorem State.relocateOne_errorMarks (r : Relocation) : (s.relocateOne r).errorMarks = s.errorMarks := by
  unfold State.relocateOne
  split
  · rfl
  · refine ite_errorMarks ?_ rfl
    simp only
    split <;> simp

@[simp] theorem State.relocateAll_errorMarks : s.relocateAll.errorMarks = s.errorMarks := by
  have hup : ∀ (fuel : Nat) (t : State), (t.relocateUpTo fuel).errorMarks = t.errorMarks := by
    intro fuel
    induction fuel with
    | zero => exact fun _ => rfl
    | succ fuel ih =>
      intro t
      unfold State.relocateUpTo
      split
      · rfl
      · exact (ih _).trans (State.relocateOne_errorMarks _ _)
  exact hup 1024 s

@[simp] theorem State.considerRounds_errorMarks : s.considerRounds.errorMarks = s.errorMarks := by
  have hlist : ∀ rounds, (s.considerList rounds).errorMarks = s.errorMarks := by
    intro rounds
    induction rounds with
    | nil => rfl
    | cons o rest ih =>
      rw [State.considerList]
      exact ite_errorMarks (by simp [State.beginComputation]) ih
  exact ite_errorMarks (hlist _) rfl

/-! ### The end of a step -/

@[simp] theorem State.joinDue_errorMarks : s.joinDue.errorMarks = s.errorMarks := by
  cases h : s.face.dwell with
  | none => simp [State.joinDue, h]
  | some d => rw [State.joinDue_open h]; rfl

@[simp] theorem State.refreshDwell_errorMarks : s.refreshDwell.errorMarks = s.errorMarks := by
  refine Eq.trans ?_ s.joinDue_errorMarks
  cases h : s.joinDue.face.dwell with
  | none => simp [State.refreshDwell, State.lightDue, h]
  | some d =>
    by_cases hp : d.phase = .working
    · rw [State.refreshDwell, State.lightDue_working h hp]; rfl
    · simp [State.refreshDwell, State.lightDue, h, hp]

@[simp] theorem State.chooseNext_errorMarks : s.chooseNext.errorMarks = s.errorMarks := by
  unfold State.chooseNext
  refine ite_errorMarks ?_ rfl
  split
  · unfold State.startStop
    split
    · exact ite_errorMarks rfl rfl
    · exact State.joinDue_errorMarks _
    · rfl
  · exact ite_errorMarks rfl rfl

@[simp] theorem State.plan_errorMarks (before : State) : (State.plan before s).errorMarks = s.errorMarks := by
  unfold State.plan State.retarget
  refine ite_errorMarks ?_ s.chooseNext_errorMarks
  split
  · exact s.chooseNext_errorMarks
  · split <;> exact s.chooseNext_errorMarks

/-- The end of a step up to the last offers leaves the marks alone. -/
theorem State.noted_errorMarks (before : State) : (State.noted before s).errorMarks = s.errorMarks := by
  have hnews : ∀ t : State, (State.noteNews before t).errorMarks = t.errorMarks := fun t => ite_errorMarks rfl rfl
  have hsuspend : ∀ t : State, t.suspendScan.errorMarks = t.errorMarks := fun t => ite_errorMarks rfl rfl
  refine (hnews _).trans ((hsuspend _).trans ((State.plan_errorMarks _ before).trans ?_))
  simp [State.faced]

@[simp] theorem State.queueRelinquish_errorMarks : s.queueRelinquish.errorMarks = s.errorMarks := by
  unfold State.queueRelinquish
  split
  · rfl
  · exact ite_errorMarks rfl (ite_errorMarks rfl rfl)

/-- While a REPORT stands in the transmit queue no TOWER_STATE takes its contents (R175). -/
theorem State.settle_errorMarks {s : State} (h : s.control.reportOut ≠ none) (before : State) :
    (State.settle before s).errorMarks = s.errorMarks := by
  have hrelease : ∀ t : State, t.releaseHead.errorMarks = t.errorMarks := fun t => ite_errorMarks rfl rfl
  have hreport : ∀ t : State, t.control.reportOut ≠ none → t.offerReport = t :=
    fun t ht => if_neg fun hoffer => ht hoffer.2.1
  have hoffered : ∀ t : State, t.errorMarks = s.errorMarks → t.offerRest.errorMarks = s.errorMarks := by
    intro t ht
    have hqueued := t.queueRelinquish_errorMarks.trans ht
    have hout : t.queueRelinquish.control.reportOut = s.control.reportOut := congrArg ErrorMarks.reportOut hqueued
    unfold State.offerRest
    rw [hreport _ (hout.symm ▸ h)]
    exact ite_errorMarks ht hqueued
  rw [State.settle_noted]
  exact hoffered _ ((hrelease _).trans (s.noted_errorMarks before))

end

end Sys2Proof.Machine
end

section
/-! SUPPORT. What a failed frame counts or gives up (R107, R164) and what the port drives (R158, R159, R166 to R168), and the
proof of the statement about errors, holds and retries. -/

namespace Sys2Proof.Machine

/-! ### A BID given up (R107) -/

/-- What a BID given up leaves of a record: one of its BID is freed, but for CLAIMING. -/
def Contest.dropped (own : BitVec 5) (f : Frame) (c : Contest) : Option Contest :=
  if c.bidFrame.isSome ∧ bidFrameOf own c = f then
    (if c.state = .claiming then some { c with bidFrame := none } else none)
  else some c

/-- What a BID given up makes of one record. -/
def dropVisit (f : Frame) (t : State) (c : Contest) : State × Option Contest :=
  if c.bidFrame.isSome ∧ bidFrameOf t.own c = f then
    (if c.state = .claiming then (t, some { c with bidFrame := none }) else (t.withdrawClaim c, none))
  else (t, some c)

theorem State.dropBid_walk (s : State) (f : Frame) : s.dropBid f = s.walkRecords (dropVisit f) := rfl

theorem dropVisit_dropped (f : Frame) (t : State) (c : Contest) :
    t.SameButTx (dropVisit f t c).1 ∧ (dropVisit f t c).2 = c.dropped t.own f := by
  unfold dropVisit Contest.dropped
  split_ifs
  · exact ⟨.refl t, rfl⟩
  · exact ⟨t.withdrawClaim_sameButTx c, rfl⟩
  · exact ⟨.refl t, rfl⟩

/-- A record that is CLAIMING, or whose CLAIM does not wait, has no frame withdrawn. -/
theorem dropVisit_still {c : Contest} (h : c.state = .claiming ∨ c.claimFrame ≠ some .queued) (f : Frame) (t : State) :
    (dropVisit f t c).1 = t := by
  unfold dropVisit
  split_ifs with _ hclaiming
  · rfl
  · exact if_neg (h.resolve_left hclaiming)
  · rfl

theorem State.SameButTx.own {s t : State} (h : s.SameButTx t) : t.own = s.own := by
  unfold State.SameButTx at h
  rw [h]
  rfl

theorem State.dropBid_records (s : State) (f : Frame) :
    (s.dropBid f).contests.records = s.contests.records.filterMap (Contest.dropped s.own f) := by
  have hvisit : ∀ t, s.SameButTx t → ∀ c ∈ s.contests.records,
      s.SameButTx (dropVisit f t c).1 ∧ (dropVisit f t c).2 = c.dropped s.own f := by
    intro t ht c _
    obtain ⟨hstate, hleft⟩ := dropVisit_dropped f t c
    exact ⟨ht.trans hstate, by rw [hleft, ht.own]⟩
  obtain ⟨u, _, hwalk⟩ := State.walkRecords_filterMap (.refl s) hvisit
  rw [State.dropBid_walk, hwalk]
  rfl

/-- Where no record freed has a CLAIM that waits, no frame is withdrawn. -/
theorem State.dropBid_still {s : State} {f : Frame}
    (h : ∀ c ∈ s.contests.records, c.state = .claiming ∨ c.claimFrame ≠ some .queued) : s.dropBid f =
      s.setContests { s.contests with records := s.contests.records.filterMap (Contest.dropped s.own f) } := by
  have hvisit : ∀ t, t = s → ∀ c ∈ s.contests.records,
      (dropVisit f t c).1 = s ∧ (dropVisit f t c).2 = c.dropped s.own f := by
    rintro t rfl c hc
    exact ⟨dropVisit_still (h c hc) f t, (dropVisit_dropped f t c).2⟩
  obtain ⟨u, rfl, hwalk⟩ := State.walkRecords_filterMap (P := (· = s)) rfl hvisit
  exact hwalk

theorem State.dropBid_kept (s : State) (f : Frame) : (s.dropBid f).kept = s.kept := by
  refine s.walkRecords_kept _ fun t c => ?_
  split_ifs
  · rfl
  · exact t.withdrawClaim_kept c
  · rfl

/-- No record is left whose BID stands as the frame given up. -/
theorem Contest.dropped_bid {own : BitVec 5} {f : Frame} {c d : Contest} (h : c.dropped own f = some d)
    (hd : d.bidFrame.isSome = true) : bidFrameOf own d ≠ f := by
  unfold Contest.dropped at h
  split_ifs at h with hbid
  · obtain rfl := Option.some.inj h
    cases hd
  · obtain rfl := Option.some.inj h
    exact fun hframe => hbid ⟨hd, hframe⟩

/-! ### The contending frame fails (R164) -/

/-- A frame that has no retry left: a BID at its limit. -/
def TxFrame.spent (limit : Nat) (x : TxFrame) : Prop := Frame.isBid x.frame = true ∧ limit ≤ x.retries

section
variable {s : State} {i : Nat} {x : TxFrame} (hi : s.contenderAt = some i) (hx : s.port.tx[i]? = some x)
include hi hx

theorem State.failContender_counts (h : ¬x.spent s.values.bidRetryLimit) :
    s.failContender = s.setPort { s.port with tx := s.port.tx.set i { x with retries := x.retries + 1 } } := by
  unfold State.failContender State.contender State.changeContender
  simp only [hi, hx]
  exact if_neg h

theorem State.failContender_givesUp (h : x.spent s.values.bidRetryLimit) :
    s.failContender = (s.setPort { s.port with tx := s.port.tx.eraseIdx i }).dropBid x.frame := by
  unfold State.failContender State.contender State.removeContender
  simp only [hi, hx]
  exact if_pos h

end

/-- `u` is `s` after the contending frame has failed, as far as the contest records and the transmit queue go: it counts a
retry, or its one record loses its BID or is freed. -/
structure State.Fails (s u : State) (i : Nat) (x : TxFrame) : Prop where
  counts : ¬x.spent s.values.bidRetryLimit →
    u.contests.records = s.contests.records ∧ u.port.tx = s.port.tx.set i { x with retries := x.retries + 1 }
  claiming {c : Contest} : x.spent s.values.bidRetryLimit → s.contests.records = [c] → c.bidFrame ≠ none →
    bidFrameOf s.own c = x.frame → c.state = .claiming →
    u.contests.records = [{ c with bidFrame := none }] ∧ u.port.tx = s.port.tx.eraseIdx i
  freed {c : Contest} : x.spent s.values.bidRetryLimit → s.contests.records = [c] → c.bidFrame ≠ none →
    bidFrameOf s.own c = x.frame → c.state ≠ .claiming → u.contests.records = []

theorem State.failContender_fails {s : State} {i : Nat} {x : TxFrame} (hi : s.contenderAt = some i)
    (hx : s.port.tx[i]? = some x) : s.Fails s.failContender i x where
  counts hmore := by
    rw [State.failContender_counts hi hx hmore]
    exact ⟨rfl, rfl⟩
  claiming {c} hspent hone hbid hframe hstate := by
    have hleft : c.dropped s.own x.frame = some { c with bidFrame := none } := by
      unfold Contest.dropped
      rw [if_pos ⟨Option.isSome_iff_ne_none.2 hbid, hframe⟩, if_pos hstate]
    have hdropped := State.dropBid_still (s := s.setPort { s.port with tx := s.port.tx.eraseIdx i }) (f := x.frame)
      fun d hd => .inl (by rw [State.setPort_contests, hone, List.mem_singleton] at hd; rw [hd, hstate])
    rw [State.failContender_givesUp hi hx hspent, hdropped]
    refine ⟨?_, rfl⟩
    change s.contests.records.filterMap (Contest.dropped s.own x.frame) = _
    simp [hone, hleft]
  freed {c} hspent hone hbid hframe hstate := by
    have hgone : c.dropped s.own x.frame = none := by
      unfold Contest.dropped
      rw [if_pos ⟨Option.isSome_iff_ne_none.2 hbid, hframe⟩, if_neg hstate]
    rw [State.failContender_givesUp hi hx hspent, State.dropBid_records]
    change s.contests.records.filterMap (Contest.dropped s.own x.frame) = _
    simp [hone, hgone]

/-! ### Counters that change no confinement state (R165, R166) -/

theorem State.transmitError_still {s : State}
    (h : confinementOf (min 160 (s.port.txErrors + 4)) s.port.rxErrors = s.port.confinement) :
    s.transmitError = s.setPort (s.port.withCounters (min 160 (s.port.txErrors + 4)) s.port.rxErrors) := if_pos h

/-- A failed frame and its transmit error, where the confinement state stays. -/
theorem State.failTransmit_fails {s : State} {i : Nat} {x : TxFrame} (hi : s.contenderAt = some i)
    (hx : s.port.tx[i]? = some x)
    (h : confinementOf (min 160 (s.port.txErrors + 4)) s.port.rxErrors = s.port.confinement) :
    s.Fails s.failContender.transmitError i x := by
  have hgauges := s.failContender_gauges
  have htx : s.failContender.port.txErrors = s.port.txErrors := congrArg Gauges.txErrors hgauges
  have hrx : s.failContender.port.rxErrors = s.port.rxErrors := congrArg Gauges.rxErrors hgauges
  have hstate : s.failContender.port.confinement = s.port.confinement := congrArg Gauges.confinement hgauges
  obtain ⟨hcounts, hclaiming, hfreed⟩ := State.failContender_fails hi hx
  rw [State.transmitError_still (by rw [htx, hrx, hstate]; exact h)]
  exact ⟨hcounts, hclaiming, hfreed⟩

/-- A sticky flag changes nothing else of the port. -/
theorem BusPort.stick_parts (p : BusPort) (kind : BusError) :
    p.stick kind = { p with
      stickyLevel := p.stickyLevel || decide (kind = .level), stickyForm := p.stickyForm || decide (kind = .form),
      stickyCheck := p.stickyCheck || decide (kind = .check), stickyAck := p.stickyAck || decide (kind = .ack) } := by
  cases kind <;> simp [BusPort.stick]

theorem State.busError_fails {s : State} {i : Nat} {x : TxFrame} (hi : s.contenderAt = some i)
    (hx : s.port.tx[i]? = some x)
    (h : confinementOf (min 160 (s.port.txErrors + 4)) s.port.rxErrors = s.port.confinement) (kind : BusError) :
    s.Fails (s.busError kind .transmitter) i x := by
  change s.Fails (s.setPort (s.port.stick kind)).failContender.transmitError i x
  rw [BusPort.stick_parts]
  obtain ⟨hcounts, hclaiming, hfreed⟩ := State.failTransmit_fails (s := s.setPort { s.port with
    stickyLevel := s.port.stickyLevel || decide (kind = .level), stickyForm := s.port.stickyForm || decide (kind = .form),
    stickyCheck := s.port.stickyCheck || decide (kind = .check), stickyAck := s.port.stickyAck || decide (kind = .ack) })
    hi hx h
  exact ⟨hcounts, hclaiming, hfreed⟩

/-! ### The commands -/

/-- A bus event of a running part on the bus. -/
theorem State.onBus_next {s : State} (hrun : s.isRunning = true) (hbus : s.onBus = true) (effect : State → State) :
    (s.during fun t => if t.onBus then effect t else t).goOn = .next (State.settle s (effect s)) := by
  rw [State.during_next hrun, if_pos hbus]

theorem frameHeld_next {s : State} (hrun : s.isRunning = true) (hbus : s.onBus = true) :
    exec (.frameHeld .transmitter) s = .next (State.settle s s.failContender) :=
  State.onBus_next hrun hbus fun t => t.held .transmitter

/-- The state a transmitter's failure command leaves before the end of its step. -/
theorem exec_fails {s : State} {cmd : Instr} {i : Nat} {x : TxFrame} (hrun : s.isRunning = true) (hbus : s.onBus = true)
    (hcmd : cmd = .frameHeld .transmitter ∨
      ((cmd = .errorMarkSeen .transmitter ∨ ∃ kind, cmd = .busError kind .transmitter) ∧
        confinementOf (min 160 (s.port.txErrors + 4)) s.port.rxErrors = s.port.confinement))
    (hi : s.contenderAt = some i) (hx : s.port.tx[i]? = some x) :
    ∃ u, exec cmd s = .next (State.settle s u) ∧ s.Fails u i x := by
  rcases hcmd with rfl | ⟨rfl | ⟨kind, rfl⟩, hstate⟩
  · exact ⟨_, frameHeld_next hrun hbus, State.failContender_fails hi hx⟩
  · exact ⟨_, State.onBus_next hrun hbus fun t => t.markSeen .transmitter, State.failTransmit_fails hi hx hstate⟩
  · exact ⟨_, State.onBus_next hrun hbus fun t => t.busError kind .transmitter, State.busError_fails hi hx hstate kind⟩

/-! ### What the port drives (R158, R159, R166 to R168) -/

section
variable {s : State} (hrun : s.isRunning = true)
include hrun

/-- With accepted straps and out of listen-only the port drives the bus but in OFF. -/
theorem State.drivesBus_active (hstraps : s.control.strapsAccepted = true) (hservice : s.control.service ≠ .joining)
    (hon : s.port.confinement ≠ .off) : s.drivesBus = true := by
  simp [State.drivesBus, State.onBus, State.listenOnly, hrun, hstraps, hservice, hon]

omit hrun in
theorem State.drivesBus_passive
    (h : s.control.strapsAccepted = false ∨ s.control.service = .joining ∨ s.port.confinement = .off) :
    s.drivesBus = false := by
  unfold State.drivesBus State.onBus State.listenOnly
  rcases h with hstraps | hjoining | hoff
  · simp [hstraps]
  · simp [hjoining]
  · simp [hoff]

/-- A port that drives the bus sends the error mark of its confinement state. -/
theorem State.errorMark_active (hstraps : s.control.strapsAccepted = true) (hservice : s.control.service ≠ .joining) :
    s.errorMark = s.port.confinement.errorMark := by
  unfold State.errorMark
  by_cases hoff : s.port.confinement = .off
  · rw [State.drivesBus_passive (.inr (.inr hoff)), hoff]
    rfl
  · rw [if_pos (State.drivesBus_active hrun hstraps hservice hoff)]

end

/-! ### The statement -/

/-- Settles O17: no step changes the marks of R159 but by the flag of the error (`busError_errorMarks`,
`settle_errorMarks`); a failed frame counts a retry or gives its BID up (`failContender_counts`, `failContender_givesUp`,
`exec_fails`), and the end of the step only appends to the transmit queue; the port drives in its confinement states as
`drivesBus_active` and `drivesBus_passive` say. -/
theorem errorsSetFlagsAndHoldsCountRetries : Obligations.ErrorsSetFlagsAndHoldsCountRetries := by
  refine ⟨fun s kind role hrun hbus hout => ?_,
    fun s hrun hbus => ⟨fun i x hi hx hmore => ?_, fun i x hi hx hbid hlimit => ?_, ?_⟩,
    fun s cmd i x hrun hbus hcmd hi hx => ?_,
    fun s role found f hrun => ⟨fun hstraps hservice => ?_, fun hpassive => ?_⟩⟩
  · have hmarks := s.busError_errorMarks kind role
    have hstands : (s.busError kind role).control.reportOut ≠ none := by
      rwa [show (s.busError kind role).control.reportOut = s.control.reportOut from congrArg ErrorMarks.reportOut hmarks]
    have hend := (State.settle_errorMarks hstands s).trans hmarks
    rw [BusPort.stick_parts] at hend
    exact ⟨_, State.onBus_next hrun hbus fun t => t.busError kind role, congrArg ErrorMarks.level hend,
      congrArg ErrorMarks.form hend, congrArg ErrorMarks.check hend, congrArg ErrorMarks.ack hend⟩
  · refine ⟨_, frameHeld_next hrun hbus, ?_⟩
    have htx := State.settle_tx s s.failContender
    rw [State.settle_kept, State.settle_records]
    rw [State.failContender_counts hi hx hmore] at htx ⊢
    exact ⟨rfl, rfl, htx⟩
  · refine ⟨_, frameHeld_next hrun hbus, ?_, fun c hc hframe => ?_, fun hclaims => ?_⟩
    · rw [State.settle_kept, State.failContender_givesUp hi hx ⟨hbid, hlimit⟩, State.dropBid_kept]
      rfl
    · rw [State.settle_records, State.failContender_givesUp hi hx ⟨hbid, hlimit⟩, State.dropBid_records] at hc
      obtain ⟨d, _, hd⟩ := List.mem_filterMap.1 hc
      exact Contest.dropped_bid hd hframe
    · have htx := State.settle_tx s s.failContender
      have hstill := State.dropBid_still (s := s.setPort { s.port with tx := s.port.tx.eraseIdx i }) (f := x.frame)
        fun c hc => .inr (hclaims c hc)
      rw [State.failContender_givesUp hi hx ⟨hbid, hlimit⟩, hstill] at htx ⊢
      exact htx
  · exact ⟨_, State.onBus_next hrun hbus fun t => t.held .receiver, State.settle_kept _ _, State.settle_records _ _,
      State.settle_tx _ _⟩
  · obtain ⟨u, hnext, hfails⟩ := exec_fails hrun hbus hcmd hi hx
    have hrecords := State.settle_records s u
    have htx := State.settle_tx s u
    refine ⟨_, hnext, fun hmore => ?_, fun c hbid hlimit hone hout hframe => ⟨fun hstate => ?_, fun hstate => ?_⟩⟩
    · obtain ⟨hsame, hcounted⟩ := hfails.counts hmore
      exact ⟨hrecords.trans hsame, hcounted ▸ htx⟩
    · obtain ⟨hleft, hgone⟩ := hfails.claiming ⟨hbid, hlimit⟩ hone hout hframe hstate
      exact ⟨hrecords.trans hleft, hgone ▸ htx⟩
    · exact hrecords.trans (hfails.freed ⟨hbid, hlimit⟩ hone hout hframe hstate)
  · have hmark := State.errorMark_active hrun hstraps hservice
    refine ⟨fun hactive => ?_, fun hquiet => ?_, fun hon => ?_⟩
    · rw [hmark, hactive]
      rfl
    · rw [hmark, hquiet]
      rfl
    · unfold State.acknowledges State.drivesHold
      rw [State.drivesBus_active hrun hstraps hservice hon]
      exact ⟨rfl, rfl⟩
  · unfold State.errorMark State.acknowledges State.drivesHold
    rw [State.drivesBus_passive hpassive]
    exact ⟨rfl, rfl, rfl⟩

end Sys2Proof.Machine
end

section
/-! SUPPORT. The slots of an own claim (R110, R111): one slot asked for, and slots taken one after the other, said once for pick
and store claims; and what a claim leaves until the slots are taken and after. -/

namespace Sys2Proof.Machine

/-! ### Records read and written -/

/-- A canonical table lists no position beyond the 512 (R1). -/
theorem Memory.get_beyond {table : List (Nat × Cell)} {low n : Nat} (h : Memory.wfFrom low table = true)
    (hn : maxPositions ≤ n) : Memory.get table n = Cell.unverified := by
  induction table generalizing low with
  | nil => rfl
  | cons e rest ih =>
    obtain ⟨k, c⟩ := e
    simp only [Memory.wfFrom, Bool.and_eq_true, decide_eq_true_eq] at h
    obtain ⟨⟨⟨_, hk⟩, _⟩, hrest⟩ := h
    rw [Memory.get, if_neg (by omega)]
    exact ih hrest

theorem State.recordAt_beyond {s : State} (h : s.tableOk = true) {n : Nat} (hn : maxPositions ≤ n) :
    s.recordAt n = SlotRecord.suspect .unverified := congrArg Cell.record (Memory.get_beyond h hn)

/-- A slot fit for a pick or a store is one of the 512. -/
theorem State.lt_of_pickFit {s : State} (h : s.tableOk = true) {l : OrderLine} {n : Nat} (hfit : s.pickFit l n = true) :
    n < maxPositions := by
  by_contra hn
  rw [State.pickFit_unverified (State.recordAt_beyond h (Nat.not_lt.1 hn))] at hfit
  cases hfit

theorem State.lt_of_storeFit {s : State} (h : s.tableOk = true) {size n : Nat} (hfit : s.storeFit size n = true) :
    n < maxPositions := by
  by_contra hn
  rw [State.storeFit_unverified (State.recordAt_beyond h (Nat.not_lt.1 hn))] at hfit
  cases hfit

section
variable {s : State} {slot : Nat}

theorem State.recordAt_writeRecord_self (h : s.tableOk = true) (hslot : slot < maxPositions) (r : SlotRecord) :
    (s.writeRecord slot r).recordAt slot = r := by
  unfold State.writeRecord State.recordAt
  rw [if_pos hslot]
  exact congrArg Cell.record (Memory.get_set_self _ 0 _ _ h)

theorem State.recordAt_writeRecord (h : s.tableOk = true) (hslot : slot < maxPositions) (r : SlotRecord) (n : Nat) :
    (s.writeRecord slot r).recordAt n = if n = slot then r else s.recordAt n := by
  split
  · rename_i hn
    rw [hn, State.recordAt_writeRecord_self h hslot]
  · rename_i hn
    exact State.recordAt_writeRecord_other r hn

/-- A record just written reads intact. -/
theorem State.flipped_writeRecord (h : s.tableOk = true) (hslot : slot < maxPositions) (r : SlotRecord) :
    (Memory.get (s.writeRecord slot r).store.table slot).flipped = 0 := by
  unfold State.writeRecord
  rw [if_pos hslot]
  exact congrArg Cell.flipped (Memory.get_set_self _ 0 _ _ h)

/-- A record write changes the store alone. -/
theorem State.writeRecord_store (s : State) (slot : Nat) (r : SlotRecord) :
    s.writeRecord slot r = s.setStore (s.writeRecord slot r).store := by
  unfold State.writeRecord; split <;> rfl

theorem State.taskFits_writeRecord (s : State) (slot : Nat) (r : SlotRecord) (work : TaskWork) (n : Nat) :
    (s.writeRecord slot r).taskFits work n = s.taskFits work n := by rw [State.writeRecord_store]; rfl

variable (hread : (Memory.get s.store.table slot).flipped = 0)
include hread

/-- A read of a record without a flipped bit gives it and changes nothing (R9). -/
theorem State.readSlot_clean : s.readSlot slot = { record := s.recordAt slot, state := s, converted := false } := by
  simp [State.readSlot, hread, State.recordAt]

/-- A request that such a record meets writes the new record, and passes nothing on where that is not SUSPECT (R5, R6). -/
theorem State.request_clean {applies : SlotRecord → Bool} {new : SlotRecord → SlotRecord}
    (happlies : applies (s.recordAt slot) = true) (hnew : (new (s.recordAt slot)).state ≠ .suspect) :
    s.request slot applies new =
      { found := s.recordAt slot, applied := true, state := s.writeRecord slot (new (s.recordAt slot)) } := by
  unfold State.request
  rw [State.readSlot_clean hread]
  simp only [happlies, if_true]
  rw [if_neg fun h => hnew h.1]

end

/-! ### One slot of a pick claim (R110) -/

section
variable {s : State} {line : LineRef} {l : OrderLine} {slot : Nat} (hline : s.lineAt line = some l)
  (hread : (Memory.get s.store.table slot).flipped = 0)
include hline hread

/-- A slot no longer eligible is left. -/
theorem State.takePickSlot_unfit (h : s.pickFit l slot = false) : s.takePickSlot line slot = (s, false) := by
  unfold State.takePickSlot
  rw [State.readSlot_clean hread]
  simp only [hline, h]
  rfl

variable (hfit : s.pickFit l slot = true)
include hfit

omit hline in
/-- The request for an eligible slot is applied. -/
theorem State.request_pick : s.request slot (inStates [.occupied]) (SlotRecord.keeping .pickClaimed) =
    { found := s.recordAt slot, applied := true,
      state := s.writeRecord slot ((s.recordAt slot).keeping .pickClaimed) } := by
  obtain ⟨hstate, _⟩ := State.pickFit_iff.1 hfit
  exact State.request_clean hread (by simp [inStates, hstate]) (by simp [SlotRecord.keeping])

theorem State.takePickSlot_taken (htask : s.taskFits (.pick line) slot = true) : s.takePickSlot line slot =
    ((s.writeRecord slot ((s.recordAt slot).keeping .pickClaimed)).addTask (.pick line) slot, true) := by
  unfold State.takePickSlot
  rw [State.readSlot_clean hread]
  simp only [hline, hfit, if_true]
  rw [State.request_pick hread hfit]
  simp only [if_true]
  rw [if_pos ((State.taskFits_writeRecord _ _ _ _ _).trans htask)]

/-- A slot whose task is refused is asked back. -/
theorem State.takePickSlot_refused (h : s.tableOk = true) (htask : s.taskFits (.pick line) slot = false) :
    s.takePickSlot line slot = ((s.writeRecord slot ((s.recordAt slot).keeping .pickClaimed)).writeRecord slot
      ((s.recordAt slot).keeping .occupied), false) := by
  have hslot := State.lt_of_pickFit h hfit
  have hback := State.request_clean (applies := inStates [.pickClaimed]) (new := SlotRecord.keeping .occupied)
    (State.flipped_writeRecord h hslot ((s.recordAt slot).keeping .pickClaimed))
    (by rw [State.recordAt_writeRecord_self h hslot]; rfl) (by simp [SlotRecord.keeping])
  unfold State.takePickSlot
  rw [State.readSlot_clean hread]
  simp only [hline, hfit, if_true]
  rw [State.request_pick hread hfit]
  simp only [if_true]
  rw [if_neg (by rw [State.taskFits_writeRecord, htask]; exact Bool.false_ne_true), hback,
    State.recordAt_writeRecord_self h hslot]
  rfl

end

/-! ### One slot of a store claim (R111) -/

section
variable {s : State} {id : Nat} {tyre : StockData} {slot : Nat} (hread : (Memory.get s.store.table slot).flipped = 0)
include hread

theorem State.takeStoreSlot_unfit (h : s.storeFit tyre.size slot = false) :
    s.takeStoreSlot id tyre slot = (s, false) := by
  unfold State.takeStoreSlot
  rw [State.readSlot_clean hread]
  simp only [h]
  rfl

theorem State.takeStoreSlot_taken (hfit : s.storeFit tyre.size slot = true) (htask : s.taskFits (.load id) slot = true) :
    s.takeStoreSlot id tyre slot =
      ((s.writeRecord slot (SlotRecord.reserved id tyre)).addTask (.load id) slot, true) := by
  obtain ⟨hstate, _⟩ := State.storeFit_iff.1 hfit
  have hrequest := State.request_clean (applies := inStates [.empty]) (new := fun _ => SlotRecord.reserved id tyre) hread
    (by simp [inStates, hstate]) (by simp [SlotRecord.reserved])
  unfold State.takeStoreSlot
  rw [State.readSlot_clean hread]
  simp only [hfit, if_true]
  rw [hrequest]
  simp only [if_true]
  rw [if_pos ((State.taskFits_writeRecord _ _ _ _ _).trans htask)]

end

/-! ### Slots taken one after the other -/

/-- A state whose retained store and plan alone may differ. -/
def State.SameButBook (s t : State) : Prop := t = (s.setStore t.store).setPlanner t.planner

theorem State.SameButBook.refl (s : State) : s.SameButBook s := rfl

theorem State.SameButBook.trans {s t u : State} (h : s.SameButBook t) (g : t.SameButBook u) : s.SameButBook u := by
  unfold State.SameButBook at *
  rw [h] at g
  exact g

/-- What a take does with a slot: one that is fit and whose task the planner takes has its record written and its task added
(R110, R111), one that is not fit is left; and what is fit does not depend on other slots or on the queue. -/
structure TakesSlots (take : State → Nat → State × Bool) (fit : State → Nat → Prop) (work : TaskWork)
    (new : SlotRecord → SlotRecord) : Prop where
  ordinary : work.ordinary = true
  carried {s t : State} {n : Nat} : s.SameButBook t → t.recordAt n = s.recordAt n → fit s n → fit t n
  inTable {s : State} {n : Nat} : s.Sound → fit s n → n < maxPositions
  taken {s : State} {n : Nat} : s.Sound → fit s n → s.taskFits work n = true →
    take s n = ((s.writeRecord n (new (s.recordAt n))).addTask work n, true)
  left {s : State} {n : Nat} : s.Sound → ¬fit s n → take s n = (s, false)

/-- A pick claim takes slots that are eligible for its line (R110). -/
theorem takesSlots_pick (line : LineRef) : TakesSlots (fun t n => t.takePickSlot line n)
    (fun t n => ∃ l, t.lineAt line = some l ∧ t.pickFit l n = true) (.pick line) (SlotRecord.keeping .pickClaimed) where
  ordinary := rfl
  carried := by
    rintro s t n hsame hrecord ⟨l, hline, hfit⟩
    have hlanes : t.lanes = s.lanes := by rw [hsame]; rfl
    refine ⟨l, (State.lineAt_of_lanes hlanes line).trans hline, ?_⟩
    have hweek : t.control = s.control := by rw [hsame]; rfl
    have hmarks : t.audit = s.audit := by rw [hsame]; rfl
    unfold State.pickFit State.markOf State.values at hfit ⊢
    rwa [hrecord, hweek, hmarks]
  inTable := fun h ⟨_, _, hfit⟩ => State.lt_of_pickFit h.table hfit
  taken := fun h ⟨_, hline, hfit⟩ htask => State.takePickSlot_taken hline (h.intact _) hfit htask
  left := by
    intro s n h hunfit
    cases hline : s.lineAt line with
    | none =>
      unfold State.takePickSlot
      rw [State.readSlot_clean (h.intact n)]
      simp only [hline]
    | some l =>
      exact State.takePickSlot_unfit hline (h.intact n) (Bool.eq_false_iff.2 fun hfit => hunfit ⟨l, hline, hfit⟩)

/-- A store claim takes slots that are EMPTY and of a class large enough (R111). -/
theorem takesSlots_store (id : Nat) (tyre : StockData) : TakesSlots (fun t n => t.takeStoreSlot id tyre n)
    (fun t n => t.storeFit tyre.size n = true) (.load id) (fun _ => SlotRecord.reserved id tyre) where
  ordinary := rfl
  carried := by
    intro s t n hsame hrecord hfit
    have hcontrol : t.control = s.control := by rw [hsame]; rfl
    unfold State.storeFit State.values at hfit ⊢
    rwa [hrecord, hcontrol]
  inTable := fun h hfit => State.lt_of_storeFit h.table hfit
  taken := fun h hfit htask => State.takeStoreSlot_taken (h.intact _) hfit htask
  left := fun h hunfit => State.takeStoreSlot_unfit (h.intact _) (Bool.eq_false_iff.2 hunfit)

/-- `t` is `s` with the records of some slots written and a task for each at the tail of the queue. -/
structure State.Fills (s t : State) (work : TaskWork) (new : SlotRecord → SlotRecord) (slots : List Nat) : Prop where
  sound : t.Sound
  same : s.SameButBook t
  records (n : Nat) : t.recordAt n = if n ∈ slots then new (s.recordAt n) else s.recordAt n
  queue : t.planner.queue = s.planner.queue ++ slots.map fun n =>
    { work := work, slot := n, created := s.timer, deferrals := 0, state := .waiting }

theorem State.Fills.nil {s : State} (h : s.Sound) (work : TaskWork) (new : SlotRecord → SlotRecord) :
    s.Fills s work new [] := ⟨h, .refl s, fun n => by simp, by simp⟩

/-- One slot more, taken before the others. -/
theorem State.Fills.cons {s t : State} {work : TaskWork} {new : SlotRecord → SlotRecord} {n : Nat} {rest : List Nat}
    (hs : s.Sound) (hn : n < maxPositions) (hnew : n ∉ rest)
    (h : ((s.writeRecord n (new (s.recordAt n))).addTask work n).Fills t work new rest) :
    s.Fills t work new (n :: rest) := by
  have hput : s.SameButBook ((s.writeRecord n (new (s.recordAt n))).addTask work n) := by
    rw [State.writeRecord_store]; rfl
  have hqueue : ((s.writeRecord n (new (s.recordAt n))).addTask work n).planner.queue = s.planner.queue ++
      [{ work := work, slot := n, created := s.timer, deferrals := 0, state := .waiting }] := by
    rw [State.writeRecord_store]; rfl
  have htimer : ((s.writeRecord n (new (s.recordAt n))).addTask work n).timer = s.timer := by rw [hput]; rfl
  have hwritten (m : Nat) : ((s.writeRecord n (new (s.recordAt n))).addTask work n).recordAt m =
      if m = n then new (s.recordAt n) else s.recordAt m := State.recordAt_writeRecord hs.table hn _ m
  refine ⟨h.sound, hput.trans h.same, fun m => ?_, ?_⟩
  · rw [h.records, hwritten]
    by_cases hm : m = n
    · subst hm
      simp [hnew]
    · simp [hm]
  · rw [h.queue, hqueue, htimer, List.append_assoc]
    rfl

/-- Room for a task for each slot (R43). -/
structure State.HasRoomFor (s : State) (slots : List Nat) : Prop where
  queue : s.planner.queue.length + slots.length ≤ 24
  ordinary : ordinaryCount s.planner.queue + slots.length ≤ 22
  free : ∀ n ∈ slots, s.taskOn n = none

theorem State.HasRoomFor.taskFits {s : State} {n : Nat} {rest : List Nat} (h : s.HasRoomFor (n :: rest)) (work : TaskWork) :
    s.taskFits work n = true := by
  obtain ⟨hqueue, hordinary, hfree⟩ := h
  rw [List.length_cons] at hqueue hordinary
  have hfull : s.planner.queue.length < queueCapacity := by unfold queueCapacity; omega
  have hmost : ordinaryCount s.planner.queue < ordinaryCapacity := by unfold ordinaryCapacity; omega
  simp [State.taskFits, hfree n (List.mem_cons_self ..), hfull, hmost]

theorem State.HasRoomFor.added {s : State} {n : Nat} {rest : List Nat} (h : s.HasRoomFor (n :: rest)) (hnew : n ∉ rest)
    {work : TaskWork} (hwork : work.ordinary = true) (r : SlotRecord) :
    ((s.writeRecord n r).addTask work n).HasRoomFor rest := by
  obtain ⟨hqueue, hordinary, hfree⟩ := h
  have hadded : ((s.writeRecord n r).addTask work n).planner.queue = s.planner.queue ++
      [{ work := work, slot := n, created := s.timer, deferrals := 0, state := .waiting }] := by
    rw [State.writeRecord_store]; rfl
  refine ⟨?_, ?_, fun m hm => ?_⟩
  · rw [hadded, List.length_append]
    rw [List.length_cons] at hqueue
    simp only [List.length_singleton]
    omega
  · rw [hadded]
    rw [List.length_cons] at hordinary
    unfold ordinaryCount at hordinary ⊢
    simp only [List.filter_append, List.length_append, List.filter_cons, hwork, if_true, List.filter_nil,
      List.length_singleton]
    omega
  · have hm' := hfree m (List.mem_cons_of_mem _ hm)
    have hne : n ≠ m := fun h => hnew (h ▸ hm)
    unfold State.taskOn at hm' ⊢
    rw [hadded, List.find?_append, hm']
    simp [hne]

section
variable {take : State → Nat → State × Bool} {fit : State → Nat → Prop} {work : TaskWork} {new : SlotRecord → SlotRecord}
  (hT : TakesSlots take fit work new)
include hT

/-- Fit slots with room for their tasks are all taken. -/
theorem TakesSlots.fills {s : State} {slots : List Nat} (hs : s.Sound) (hnodup : slots.Nodup)
    (hfit : ∀ n ∈ slots, fit s n) (hroom : s.HasRoomFor slots) :
    ∃ t, State.takeSlots take s slots = (t, 0) ∧ s.Fills t work new slots := by
  induction slots generalizing s with
  | nil => exact ⟨s, rfl, .nil hs work new⟩
  | cons n rest ih =>
    obtain ⟨hnew, hrest⟩ := List.nodup_cons.1 hnodup
    have hn := hfit n (List.mem_cons_self ..)
    have hslot := hT.inTable hs hn
    have hput : s.SameButBook ((s.writeRecord n (new (s.recordAt n))).addTask work n) := by
      rw [State.writeRecord_store]; rfl
    obtain ⟨t, htake, hfills⟩ := ih (s := (s.writeRecord n (new (s.recordAt n))).addTask work n)
      ((hs.writeRecord n _).of_store rfl) hrest
      (fun m hm => hT.carried hput (State.recordAt_writeRecord_other _ fun h => hnew (h ▸ hm))
        (hfit m (List.mem_cons_of_mem _ hm)))
      (hroom.added hnew hT.ordinary _)
    refine ⟨t, ?_, hfills.cons hs hslot hnew⟩
    rw [State.takeSlots, hT.taken hs hn (hroom.taskFits work)]
    simp only [htake]
    rfl

/-- Where no slot is fit every one fails, and nothing changes. -/
theorem TakesSlots.unfit {s : State} (hs : s.Sound) {slots : List Nat} (h : ∀ n ∈ slots, ¬fit s n) :
    State.takeSlots take s slots = (s, slots.length) := by
  induction slots with
  | nil => rfl
  | cons n rest ih =>
    obtain ⟨hn, hrest⟩ := List.forall_mem_cons.1 h
    rw [State.takeSlots, hT.left hs hn]
    simp only [ih hrest]
    rfl

end

/-! ### A claim until its slots are taken (R108, R109) -/

/-- `t` is `s` but for the accounts of lines and offers, the contest records and the transmit queue. -/
structure State.Accounts (s t : State) : Prop where
  rest : t = ((s.setContests t.contests).setLanes t.lanes).setPort { s.port with tx := t.port.tx }
  relinquish : t.contests.relinquish = s.contests.relinquish

namespace State.Accounts

variable {s t u : State}

theorem trans (h : s.Accounts t) (g : t.Accounts u) : s.Accounts u where
  rest := by
    have hu := g.rest
    rw [h.rest] at hu
    exact hu
  relinquish := g.relinquish.trans h.relinquish

theorem store (h : s.Accounts t) : t.store = s.store := by rw [h.rest]; rfl
theorem planner (h : s.Accounts t) : t.planner = s.planner := by rw [h.rest]; rfl
theorem face (h : s.Accounts t) : t.face = s.face := by rw [h.rest]; rfl
theorem audit (h : s.Accounts t) : t.audit = s.audit := by rw [h.rest]; rfl
theorem control (h : s.Accounts t) : t.control = s.control := by rw [h.rest]; rfl
theorem timer (h : s.Accounts t) : t.timer = s.timer := by rw [h.rest]; rfl

theorem sound (h : s.Accounts t) (hs : s.Sound) : t.Sound := hs.of_store h.store

theorem recordAt (h : s.Accounts t) (n : Nat) : t.recordAt n = s.recordAt n := State.recordAt_of_store h.store n

theorem hasRoomFor (h : s.Accounts t) {slots : List Nat} (hs : s.HasRoomFor slots) : t.HasRoomFor slots := by
  obtain ⟨hqueue, hordinary, hfree⟩ := hs
  refine ⟨?_, ?_, fun n hn => ?_⟩
  · rwa [h.planner]
  · rwa [h.planner]
  · have hn' := hfree n hn
    unfold State.taskOn at hn' ⊢
    rwa [h.planner]

theorem pickFit (h : s.Accounts t) (l : OrderLine) (n : Nat) : t.pickFit l n = s.pickFit l n := by
  unfold State.pickFit State.markOf State.values
  rw [h.recordAt, h.control, h.audit]

theorem storeFit (h : s.Accounts t) (size n : Nat) : t.storeFit size n = s.storeFit size n := by
  unfold State.storeFit State.values
  rw [h.recordAt, h.control]

theorem taskFits (h : s.Accounts t) (work : TaskWork) (n : Nat) : t.taskFits work n = s.taskFits work n := by
  unfold State.taskFits State.taskOn
  rw [h.planner]

theorem taskList (h : s.Accounts t) : t.taskList = s.taskList := by
  unfold State.taskList
  rw [h.planner]

end State.Accounts

/-- The application of a CLAIM changes the accounts alone. -/
theorem State.appliedClaim_accounts (s : State) (f : Frame) : s.Accounts (s.appliedClaim f).state := by
  have hcontests := s.appliedClaim_contests f
  refine ⟨?_, by rw [hcontests]⟩
  cases href : refOf f.payload with
  | store id => rw [State.appliedClaim_store_parts href]; rfl
  | pick line =>
    cases hline : s.lineAt line with
    | none => rw [(State.appliedClaim_noLine href hline).1]; rfl
    | some l => rw [(State.appliedClaim_line href hline).1, State.updateLine_lanes]; rfl

theorem State.freeClaimed_accounts (s : State) (r : Contest) : s.Accounts (s.freeClaimed r) := by
  have hsame := s.withdrawBid_sameButTx r
  unfold State.freeClaimed
  rw [hsame]
  exact ⟨rfl, rfl⟩

/-- Freeing the record of a claim leaves the lines. -/
theorem State.freeClaimed_lineAt (s : State) (r : Contest) (line : LineRef) :
    (s.freeClaimed r).lineAt line = s.lineAt line := by
  refine State.lineAt_of_lanes ?_ line
  have hsame := s.withdrawBid_sameButTx r
  unfold State.freeClaimed
  rw [hsame]
  rfl

/-- The record of an own CLAIM heard, as R109 says it. -/
theorem claimOf_owns {payload : List Byte} {c : Contest} : (claimOf payload).owns c = true ↔
    c.ref = refOf payload ∧ c.round = byteAt payload 3 ∧ (c.state = .claiming ∨ c.state = .closed) ∧
      c.claimFrame.isSome = true := by
  unfold ClaimFields.owns Contest.named claimOf
  simp only [Bool.and_eq_true, Bool.or_eq_true, decide_eq_true_iff, and_assoc]

section
variable {s : State} {f : Frame} {stamp : Timer} (hown : f.key.station = s.own)
include hown

theorem State.tookClaim_own : s.tookClaim f stamp =
    (s.appliedClaim f).state.takeOwnClaim (claimOf f.payload) (s.appliedClaim f).quantity stamp := if_pos hown

/-- The state in which the slots of an own CLAIM are taken. -/
def State.claimFreed (s : State) (f : Frame) (c : Contest) : State := (s.appliedClaim f).state.freeClaimed c

omit hown in
theorem State.claimFreed_accounts (s : State) (f : Frame) (c : Contest) : s.Accounts (s.claimFreed f c) :=
  (s.appliedClaim_accounts f).trans (State.freeClaimed_accounts _ c)

variable {c : Contest} (hrecords : s.contests.records = [c]) (howns : (claimOf f.payload).owns c = true)
include hrecords howns

omit hown in
/-- The one record is that of the CLAIM. -/
theorem State.claimOwner_one : (s.appliedClaim f).state.claimOwner (claimOf f.payload) = some c := by
  have hsame : (s.appliedClaim f).state.contests.records = [c] :=
    (congrArg ContestEngine.records (s.appliedClaim_contests f)).trans hrecords
  change (s.appliedClaim f).state.contests.records.find? (claimOf f.payload).owns = some c
  rw [hsame, List.find?_cons_of_pos howns]

/-- A pick claim with its record takes the first slots of it; none where nothing is applied. -/
theorem State.tookClaim_pick {line : LineRef} (href : c.ref = .pick line) : s.tookClaim f stamp =
    (s.claimFreed f c).takePick line (c.slots.take (s.appliedClaim f).quantity) := by
  rw [State.tookClaim_own hown]
  unfold State.takeOwnClaim
  simp only [State.claimOwner_one hrecords howns, href]
  split
  · rename_i hzero
    rw [hzero]
    rfl
  · rfl

theorem State.tookClaim_store {id : Nat} {tyre : StockData} (href : c.ref = .store id) (htyre : c.offered = some tyre)
    (hsome : (s.appliedClaim f).quantity ≠ 0) : s.tookClaim f stamp =
      (s.claimFreed f c).takeStore id tyre (c.slots.take (s.appliedClaim f).quantity) stamp := by
  rw [State.tookClaim_own hown]
  unfold State.takeOwnClaim
  simp only [State.claimOwner_one hrecords howns, href, htyre]
  exact if_neg hsome

/-- An own CLAIM frees its record, which leaves none here. -/
theorem State.hearClaim_frees (b : State) : (State.settle b (s.hearClaim f stamp).inHand).contests.records = [] := by
  have htook := (s.tookClaim_records f stamp).records
  have hgone : removeFirst (ownedClaim s.own f) [c] = [] := by
    rw [ownedClaim_own hown]
    simp [removeFirst, howns]
  rw [congrArg ContestEngine.records (s.appliedClaim_contests f), show _ = [c] from hrecords, hgone] at htook
  have hended := (s.hearClaim_roundsOpen f stamp).records
  rw [htook] at hended
  exact (State.settle_records _ _).trans hended

end

/-! ### An orphan claim (R112) -/

section
variable {s : State} {f : Frame} {stamp : Timer} (hown : f.key.station = s.own)
  (hnone : ∀ c ∈ s.contests.records, ¬(claimOf f.payload).owns c = true)
include hnone

theorem State.claimOwner_none : (s.appliedClaim f).state.claimOwner (claimOf f.payload) = none := by
  have hsame : (s.appliedClaim f).state.contests.records = s.contests.records :=
    (congrArg ContestEngine.records (s.appliedClaim_contests f)).trans rfl
  change (s.appliedClaim f).state.contests.records.find? (claimOf f.payload).owns = none
  rw [hsame]
  exact List.find?_eq_none.2 hnone

include hown

/-- Without a record all that a pick claim has been given fails. -/
theorem State.tookClaim_orphanPick {line : LineRef} (href : refOf f.payload = .pick line) :
    s.tookClaim f stamp = (s.appliedClaim f).state.relinquishSome line (s.appliedClaim f).quantity := by
  have hclaim : (claimOf f.payload).ref = .pick line := href
  rw [State.tookClaim_own hown]
  unfold State.takeOwnClaim
  simp only [State.claimOwner_none hnone, hclaim]

theorem State.tookClaim_orphanStore {id : Nat} (href : refOf f.payload = .store id) :
    s.tookClaim f stamp = (s.appliedClaim f).state.reportFailed id (s.appliedClaim f).quantity := by
  have hclaim : (claimOf f.payload).ref = .store id := href
  rw [State.tookClaim_own hown]
  unfold State.takeOwnClaim
  simp only [State.claimOwner_none hnone, hclaim]

end

/-! ### The rest of the step -/

/-- With nothing handed over and every record intact, the rest of the step leaves what taking the claim has left of the book,
the work and the accounts. -/
theorem State.hearClaim_work {s : State} {f : Frame} {stamp : Timer} (hi : (s.tookClaim f stamp).intact)
    (hr : (s.tookClaim f stamp).audit.relocations = []) (b : State) :
    ∃ computing considering, (State.settle b (s.hearClaim f stamp).inHand).work =
      { (s.tookClaim f stamp).work with computing := computing, considering := considering } := by
  have hopen := s.hearClaim_roundsOpen f stamp
  have hintact : (s.hearClaim f stamp).inHand.intact := by
    intro n
    have hn := hi n
    rw [← hopen.store] at hn
    exact hn
  obtain ⟨computing, considering, hconsidered⟩ := State.considerRounds_intact hintact
    ((congrArg AuditUnit.relocations hopen.audit).trans hr)
  refine ⟨computing, considering, ?_⟩
  rw [State.settle_work_noted, hconsidered]
  have hlist := hopen.relinquish
  have hrest := hopen.rest
  generalize s.hearClaim f stamp = u at hlist hrest ⊢
  generalize s.tookClaim f stamp = v at hlist hrest ⊢
  rw [hrest]
  unfold State.work
  simp only [← hlist]
  rfl

theorem State.lineAt_of_laneRecords {s t : State} (h : t.lanes.lanes = s.lanes.lanes) (line : LineRef) :
    t.lineAt line = s.lineAt line := by
  unfold State.lineAt State.openBay State.lane
  rw [h]

end Sys2Proof.Machine
end

section
/-! SUPPORT. What this station's own pick claim takes and gives back (R109, R110, R112), and the proof of the statement about
it. -/

namespace Sys2Proof.Machine

/-! ### The line of an own claim (R122, R124) -/

/-- The line once an own CLAIM of `k` has been applied and its remainder judged. -/
def OrderLine.ownClaimed (l : OrderLine) (k : Nat) : OrderLine := (l.claim k true).judge.1

/-- What a slot must be for the line is the same before and after. -/
theorem State.pickFit_ownClaimed (s : State) (l : OrderLine) (k n : Nat) : s.pickFit (l.ownClaimed k) n = s.pickFit l n := by
  rw [OrderLine.ownClaimed, OrderLine.judge_line]
  rfl

theorem OrderLine.ownClaimed_ownClaim (l : OrderLine) (k : Nat) :
    (l.ownClaimed k).ownClaim = l.ownClaim + min k (l.quantity - l.claimed) := by
  rw [OrderLine.ownClaimed, OrderLine.judge_line]
  rfl

section
variable {s : State} {f : Frame} {line : LineRef} {l : OrderLine} (href : refOf f.payload = .pick line)
  (hline : s.lineAt line = some l)
include href hline

theorem State.appliedClaim_quantity_pick :
    (s.appliedClaim f).quantity = min (byteAt f.payload 4) (l.quantity - l.claimed) := by
  rw [State.appliedClaim_pick href]
  unfold State.applyClaim
  simp only [hline]
  rfl

theorem State.appliedClaim_lineAt (hown : f.key.station = s.own) :
    (s.appliedClaim f).state.lineAt line = some (l.ownClaimed (byteAt f.payload 4)) := by
  obtain ⟨hstate, _⟩ := State.appliedClaim_line href hline
  rw [hstate, State.lineAt_updateLine hline, decide_eq_true hown]
  rfl

theorem State.claimFreed_lineAt (hown : f.key.station = s.own) (c : Contest) :
    (s.claimFreed f c).lineAt line = some (l.ownClaimed (byteAt f.payload 4)) :=
  (State.freeClaimed_lineAt _ c line).trans (State.appliedClaim_lineAt href hline hown)

/-- A slot is fit for an own claim exactly where it was before the claim was applied. -/
theorem State.claimFreed_fit (hown : f.key.station = s.own) (c : Contest) (n : Nat) :
    (∃ x, (s.claimFreed f c).lineAt line = some x ∧ (s.claimFreed f c).pickFit x n = true) ↔ s.pickFit l n = true := by
  rw [State.claimFreed_lineAt href hline hown]
  simp [(s.claimFreed_accounts f c).pickFit, State.pickFit_ownClaimed]

end

/-! ### Failures given back (R113) -/

section
variable {s : State} {line : LineRef} (m : Nat)

theorem State.relinquishSome_book (s : State) (line : LineRef) : (s.relinquishSome line m).store = s.store ∧
    (s.relinquishSome line m).planner = s.planner ∧ (s.relinquishSome line m).audit = s.audit := by
  unfold State.relinquishSome
  split
  · exact ⟨rfl, rfl, rfl⟩
  · unfold State.addRelinquish
    rw [State.updateLine_lanes]
    simp only
    split
    · exact ⟨rfl, rfl, rfl⟩
    · split <;> exact ⟨rfl, rfl, rfl⟩

/-- The failures join the list as one relinquish. -/
theorem State.relinquishSome_givenBack (hroom : s.contests.relinquish.length < 32) :
    (s.relinquishSome line m).givenBack = s.givenBack ++ (if m = 0 then [] else [(line, m)]) := by
  unfold State.relinquishSome
  split
  · exact (List.append_nil _).symm
  · rw [State.addRelinquish_joins hroom]
    exact List.map_append

/-- The own claim falls by them. -/
theorem State.relinquishSome_ownClaim {l : OrderLine} (hline : s.lineAt line = some l) :
    ((s.relinquishSome line m).lineAt line).map OrderLine.ownClaim = some (l.ownClaim - m) := by
  unfold State.relinquishSome
  split
  · rename_i hzero
    rw [hline, hzero]
    rfl
  · rw [State.lineAt_of_lanes (s.addRelinquish_lanes line m), State.lineAt_updateLine hline]
    rfl

end

/-- A slot asked back alone (R110). -/
theorem State.takePickSlot_back {s : State} (hs : s.Sound) {line : LineRef} {l : OrderLine} {n : Nat}
    (hline : s.lineAt line = some l) (hfit : s.pickFit l n = true) (htask : s.taskFits (.pick line) n = false) :
    ∃ u, State.takeSlots (fun t n => t.takePickSlot line n) s [n] = (u, 1) ∧ u.Sound ∧ s.SameButBook u ∧
      u.planner = s.planner ∧ ∀ m, u.recordAt m = if m = n then (s.recordAt n).keeping .occupied else s.recordAt m := by
  have hslot := State.lt_of_pickFit hs.table hfit
  have hclaimed := hs.writeRecord n ((s.recordAt n).keeping .pickClaimed)
  refine ⟨(s.writeRecord n ((s.recordAt n).keeping .pickClaimed)).writeRecord n ((s.recordAt n).keeping .occupied), ?_,
    hclaimed.writeRecord n _, ?_, ?_, fun m => ?_⟩
  · simp only [State.takeSlots, State.takePickSlot_refused hline (hs.intact n) hfit hs.table htask]
    rfl
  · rw [State.writeRecord_store, State.writeRecord_store s]
    rfl
  · rw [State.writeRecord_store, State.writeRecord_store s]
    rfl
  · rw [State.recordAt_writeRecord hclaimed.table hslot, State.recordAt_writeRecord hs.table hslot]
    split <;> rfl

/-! ### What the step leaves -/

/-- `t` is what a pick claim of a line leaves that has taken slots as `u` says and has given back `m`, of an own claim of
`own`. -/
structure State.PickLeaves (s u t : State) (line : LineRef) (m own : Nat) : Prop where
  store : t.store = u.store
  tasks : t.taskList = u.taskList
  givenBack : t.givenBack = s.givenBack ++ (if m = 0 then [] else [(line, m)])
  ownClaim : (t.lineAt line).map OrderLine.ownClaim = some (own - m)

theorem State.tookClaim_leaves {s u : State} {f : Frame} {stamp : Timer} {line : LineRef} {l : OrderLine} {m : Nat}
    (htook : s.tookClaim f stamp = u.relinquishSome line m) (hs : u.Sound) (hr : u.audit.relocations = [])
    (hlist : u.contests.relinquish = s.contests.relinquish) (hroom : s.contests.relinquish.length < 32)
    (hline : u.lineAt line = some l) (b : State) :
    s.PickLeaves u (State.settle b (s.hearClaim f stamp).inHand) line m l.ownClaim := by
  obtain ⟨hstore, hplanner, haudit⟩ := u.relinquishSome_book m line
  have hgiven := State.relinquishSome_givenBack (line := line) m (hlist.symm ▸ hroom)
  have hown := State.relinquishSome_ownClaim m hline
  obtain ⟨computing, considering, hwork⟩ := State.hearClaim_work (s := s) (f := f) (stamp := stamp)
    (by rw [htook]; exact (hs.of_store hstore).intact) (by rw [htook, haudit]; exact hr) b
  rw [htook] at hwork
  refine ⟨(congrArg Work.store hwork).trans hstore, (congrArg Work.tasks hwork).trans ?_,
    (congrArg Work.relinquish hwork).trans (hgiven.trans ?_), ?_⟩
  · exact congrArg (fun p : Planner => p.queue.map fun t => (t.work, t.slot, t.created, t.deferrals)) hplanner
  · unfold State.givenBack
    rw [hlist]
  · rw [State.lineAt_of_laneRecords (congrArg Work.lanes hwork)]
    exact hown

section
variable {s : State} {f : Frame} {stamp : Timer} {line : LineRef} {l : OrderLine} (hown : f.key.station = s.own)
  (href : refOf f.payload = .pick line) (hline : s.lineAt line = some l) (hq : s.quiet) (hs : s.Sound)
  (hroom : s.contests.relinquish.length < 32)
include hown href hline hq hs hroom

/-- An orphan claim gives all of it back (R112). -/
theorem State.orphanPick_leaves (hnone : ∀ c ∈ s.contests.records, ¬(claimOf f.payload).owns c = true) (b : State) :
    s.PickLeaves s (State.settle b (s.hearClaim f stamp).inHand) line (min (byteAt f.payload 4) (l.quantity - l.claimed))
      (l.ownClaim + min (byteAt f.payload 4) (l.quantity - l.claimed)) := by
  have haccounts := s.appliedClaim_accounts f
  have hleaves := State.tookClaim_leaves (State.tookClaim_orphanPick (stamp := stamp) hown hnone href)
    (haccounts.sound hs) ((congrArg AuditUnit.relocations haccounts.audit).trans hq.1) haccounts.relinquish hroom
    (State.appliedClaim_lineAt href hline hown) b
  rw [State.appliedClaim_quantity_pick href hline, OrderLine.ownClaimed_ownClaim] at hleaves
  exact { hleaves with store := hleaves.store.trans haccounts.store, tasks := hleaves.tasks.trans haccounts.taskList }

variable {c : Contest} (hrecords : s.contests.records = [c]) (howns : (claimOf f.payload).owns c = true)
include hrecords howns

omit hs in
/-- A claim with its record leaves what taking its slots, one after the other, leaves (R110). -/
theorem State.ownPick_leaves {u : State} {m : Nat}
    (htake : State.takeSlots (fun t n => t.takePickSlot line n) (s.claimFreed f c)
      (c.slots.take (min (byteAt f.payload 4) (l.quantity - l.claimed))) = (u, m))
    (hu : u.Sound) (hsame : (s.claimFreed f c).SameButBook u) (b : State) :
    s.PickLeaves u (State.settle b (s.hearClaim f stamp).inHand) line m
      (l.ownClaim + min (byteAt f.payload 4) (l.quantity - l.claimed)) := by
  obtain ⟨hcref, _⟩ := claimOf_owns.1 howns
  have haccounts := s.claimFreed_accounts f c
  have htook := State.tookClaim_pick (stamp := stamp) hown hrecords howns (hcref.trans href)
  rw [State.appliedClaim_quantity_pick href hline] at htook
  unfold State.takePick at htook
  simp only [htake] at htook
  have haudit : u.audit = (s.claimFreed f c).audit := by rw [hsame]; rfl
  have hcontests : u.contests = (s.claimFreed f c).contests := by rw [hsame]; rfl
  have hlanes : u.lanes = (s.claimFreed f c).lanes := by rw [hsame]; rfl
  have hleft : u.lineAt line = some (l.ownClaimed (byteAt f.payload 4)) := by
    rw [State.lineAt_of_lanes hlanes, State.claimFreed_lineAt href hline hown]
  rw [← OrderLine.ownClaimed_ownClaim]
  exact State.tookClaim_leaves htook hu
    ((congrArg AuditUnit.relocations (haudit.trans haccounts.audit)).trans hq.1)
    ((congrArg ContestEngine.relinquish hcontests).trans haccounts.relinquish) hroom hleft b

end

/-! ### The statement -/

/-- Settles O38: one slot is taken, asked back or left (`takePickSlot_taken`, `takePickSlot_refused`, `takePickSlot_unfit`);
the slots of the record are taken one after the other (`TakesSlots.fills`, `TakesSlots.unfit`), and what failed is given back
as one relinquish (`ownPick_leaves`), as an orphan claim is whole (`orphanPick_leaves`). -/
theorem ownPickClaimTakesItsSlots : Obligations.OwnPickClaimTakesItsSlots := by
  refine ⟨fun s line l slot hline hslot hread => ⟨State.takePickSlot_unfit hline hread,
    State.takePickSlot_taken hline hread, fun hfit htask htable => ?_⟩, ?_⟩
  · have hwf : (s.writeRecord slot ((s.recordAt slot).keeping .pickClaimed)).tableOk = true :=
      State.writeRecord_wf s slot _ htable
    rw [State.takePickSlot_refused hline hread hfit htable htask]
    refine ⟨rfl, ?_, State.recordAt_writeRecord_self hwf hslot _, fun n hn => ?_⟩
    · rw [State.writeRecord_store, State.writeRecord_store s]
      rfl
    · exact (State.recordAt_writeRecord_other _ hn).trans (State.recordAt_writeRecord_other _ hn)
  · intro s h line l hh hservice hown href hline hq hi htable hroom k owned
    have hs : s.Sound := ⟨hi, htable⟩
    have hnext := State.handed_next hh (kind := FrameKind.isClaim) rfl hservice fun h u => u.hearClaim h.frame h.stamp
    have howns (c : Contest) : (claimOf h.frame.payload).owns c = true ↔ owned c := by
      rw [claimOf_owns, href]
    refine ⟨_, hnext, fun c hrecords hc => ?_, fun hnone => ?_⟩
    · intro slots
      have hc := (howns c).2 hc
      have haccounts := s.claimFreed_accounts h.frame c
      have hfreed := haccounts.sound hs
      have hfitted := State.claimFreed_fit href hline hown c
      have hleaves {u : State} {m : Nat} := State.ownPick_leaves (stamp := h.stamp) (u := u) (m := m) hown href hline hq
        hroom hrecords hc
      refine ⟨State.hearClaim_frees hown hrecords hc s, fun hnodup hfit hqueue hordinary => ?_, fun hsome hfit => ?_,
        fun n hone hfit htask => ?_⟩
      · obtain ⟨u, htake, hfills⟩ := (takesSlots_pick line).fills hfreed hnodup (fun n hn => (hfitted n).2 (hfit n hn).1)
          (haccounts.hasRoomFor ⟨hqueue, hordinary, fun n hn => (hfit n hn).2⟩)
        obtain ⟨hstore, htasks, hgiven, hclaim⟩ := hleaves htake hfills.sound hfills.same s
        refine ⟨fun n => ?_, ?_, hgiven.trans (List.append_nil _), hclaim⟩
        · rw [State.recordAt_of_store hstore, hfills.records, haccounts.recordAt]
        · rw [htasks, State.taskList, hfills.queue, haccounts.planner, haccounts.timer]
          simp [State.taskList]
      · have hunfit : ∀ n ∈ slots, ¬∃ x, (s.claimFreed h.frame c).lineAt line = some x ∧
            (s.claimFreed h.frame c).pickFit x n = true := fun n hn hfits =>
          absurd ((hfitted n).1 hfits) (Bool.eq_false_iff.1 (hfit n hn))
        obtain ⟨hstore, htasks, hgiven, hclaim⟩ := hleaves ((takesSlots_pick line).unfit hfreed hunfit) hfreed (.refl _) s
        rw [if_neg (mt List.length_eq_zero_iff.1 hsome)] at hgiven
        exact ⟨congrArg StockStore.table (hstore.trans haccounts.store), htasks.trans haccounts.taskList, hgiven, hclaim⟩
      · obtain ⟨x, hleft, hfits⟩ := (hfitted n).2 hfit
        obtain ⟨u, htake, hu, hsame, hplanner, hbooked⟩ := State.takePickSlot_back hfreed hleft hfits
          ((haccounts.taskFits _ n).trans htask)
        rw [← hone] at htake
        obtain ⟨hstore, htasks, hgiven, hclaim⟩ := hleaves htake hu hsame s
        refine ⟨fun m => ?_, htasks.trans ?_, hgiven, hclaim⟩
        · rw [State.recordAt_of_store hstore, hbooked, haccounts.recordAt, haccounts.recordAt]
        · rw [State.taskList, hplanner]
          exact haccounts.taskList
    · obtain ⟨hstore, htasks, hgiven, hclaim⟩ := State.orphanPick_leaves (stamp := h.stamp) hown href hline hq hs hroom
        (fun c hc => mt (howns c).1 (hnone c hc)) s
      exact ⟨congrArg StockStore.table hstore, htasks, hgiven, hclaim.trans (by rw [Nat.add_sub_cancel])⟩

end Sys2Proof.Machine
end

section
/-! SUPPORT. What this station's own store claim takes, counts and reports (R109, R111, R112), and the proof of the statement
about it. -/

namespace Sys2Proof.Machine

/-! ### The tasks counted to their batch (R76) -/

section
variable {s : State} {id created : Nat} {stamp : Timer}

/-- A batch without a record joins the list, where it has room. -/
theorem State.askReceiving_joins (hknown : s.receivingOf id = none) (hroom : s.face.receiving.length < 4) :
    s.askReceiving id created stamp = s.setFace { s.face with receiving := s.face.receiving ++
      [{ inboundId := id, claimed := created, arrived := 0, loaded := 0,
         deadline := stamp + BitVec.ofNat 32 (s.values.inboundTimeout * 1000) }] } := by
  unfold State.askReceiving
  simp only [hknown]
  exact if_pos hroom

/-- The record of a batch counts the tasks, and has the deadline of this claim. -/
theorem State.askReceiving_counts {before : List Receiving} {r : Receiving} {after : List Receiving}
    (hlist : s.face.receiving = before ++ r :: after) (hid : r.inboundId = id)
    (hothers : ∀ x ∈ before ++ after, x.inboundId ≠ id) :
    s.askReceiving id created stamp = s.setFace { s.face with receiving := before ++ { r with
      claimed := r.claimed + created, deadline := stamp + BitVec.ofNat 32 (s.values.inboundTimeout * 1000) } :: after } := by
  have hknown : s.receivingOf id = some r := by
    have hbefore : before.find? (fun x => decide (x.inboundId = id)) = none :=
      List.find?_eq_none.2 fun x hx => by simpa using hothers x (List.mem_append_left _ hx)
    rw [State.receivingOf, hlist, List.find?_append, hbefore]
    simp [hid]
  have hstay (g : Receiving → Receiving) (xs : List Receiving) (hxs : ∀ x ∈ xs, x.inboundId ≠ id) :
      (xs.map fun x => if x.inboundId = id then g x else x) = xs :=
    (List.map_congr_left fun x hx => if_neg (hxs x hx)).trans (List.map_id' xs)
  unfold State.askReceiving
  simp only [hknown]
  rw [hlist, List.map_append, List.map_cons, if_pos hid, hstay _ before fun x hx => hothers x (List.mem_append_left _ hx),
    hstay _ after fun x hx => hothers x (List.mem_append_right _ hx)]
  rfl

theorem State.askReceiving_book (s : State) (id created : Nat) (stamp : Timer) :
    (s.askReceiving id created stamp).store = s.store ∧ (s.askReceiving id created stamp).planner = s.planner ∧
      (s.askReceiving id created stamp).audit = s.audit ∧ (s.askReceiving id created stamp).control = s.control := by
  unfold State.askReceiving
  simp only
  split
  · exact ⟨rfl, rfl, rfl, rfl⟩
  · split <;> exact ⟨rfl, rfl, rfl, rfl⟩

/-- The receiving list that counting leaves depends on the list and the setup values alone. -/
theorem State.askReceiving_congr {u : State} (hface : u.face = s.face) (hcontrol : u.control = s.control) :
    (u.askReceiving id created stamp).face.receiving = (s.askReceiving id created stamp).face.receiving := by
  have hknown : u.receivingOf id = s.receivingOf id := by
    unfold State.receivingOf
    rw [hface]
  unfold State.askReceiving State.values
  rw [hknown, hface, hcontrol]
  cases s.receivingOf id with
  | some _ => rfl
  | none =>
    simp only
    split
    · rfl
    · rw [hface]

end

/-! ### Failures reported (R80) -/

/-- The INBOUND_SHORT of cause CLAIM that reports so many failed slots of a batch. -/
def State.claimShortage (s : State) (id failed : Nat) : Report :=
  { body := .inboundShort id failed .claim (((s.receivingOf id).map Receiving.claimed).getD 0)
      (((s.receivingOf id).map Receiving.arrived).getD 0) (((s.receivingOf id).map Receiving.loaded).getD 0),
    week := s.control.week, timer := s.timer }

/-- With room in the log, failures are one record of it. -/
theorem State.reportFailed_eq {s : State} (h : s.control.log.length < 16) (id failed : Nat) : s.reportFailed id failed =
    s.setControl { s.control with
      log := s.control.log ++ (if failed = 0 then [] else [s.claimShortage id failed]) } := by
  unfold State.reportFailed State.claimShortage
  split
  · rw [List.append_nil]
    rfl
  · unfold State.reportShort
    cases s.receivingOf id with
    | none => exact if_pos h
    | some r => exact if_pos h

/-! ### The slots of a store claim (R111) -/

theorem State.Accounts.receivingRoom {s t : State} (h : s.Accounts t) (id : Nat) :
    t.receivingRoom id = s.receivingRoom id := by
  unfold State.receivingRoom State.receivingOf
  rw [h.face]

section
variable {s : State} {id : Nat} {tyre : StockData} {slots : List Nat} {stamp : Timer}

/-- Without room in the receiving list, and where no slot is fit, all fail. -/
theorem State.takeStore_short (hs : s.Sound)
    (h : s.receivingRoom id = false ∨ ∀ n ∈ slots, s.storeFit tyre.size n = false) :
    s.takeStore id tyre slots stamp = s.reportFailed id slots.length := by
  unfold State.takeStore
  split
  · rename_i hroom
    have hunfit := h.resolve_left (by simp [hroom])
    have htake := (takesSlots_store id tyre).unfit hs (slots := slots)
      fun n hn hfits => absurd hfits (Bool.eq_false_iff.1 (hunfit n hn))
    simp only [htake, Nat.sub_self, if_true]
  · rfl

/-- Slots that are all taken are counted to the batch. -/
theorem State.takeStore_taken {u : State} (hroom : s.receivingRoom id = true) (hsome : slots ≠ [])
    (htake : State.takeSlots (fun t n => t.takeStoreSlot id tyre n) s slots = (u, 0)) :
    s.takeStore id tyre slots stamp = u.askReceiving id slots.length stamp := by
  unfold State.takeStore
  rw [if_pos hroom]
  simp only [htake, Nat.sub_zero]
  rw [if_neg (mt List.length_eq_zero_iff.1 hsome)]
  rfl

end

/-! ### What the step leaves -/

/-- `t` leaves of `u` the table, the tasks, the receiving list and the report log. -/
structure State.StoreLeaves (u t : State) : Prop where
  store : t.store = u.store
  tasks : t.taskList = u.taskList
  receiving : t.face.receiving = u.face.receiving
  log : t.control.log = u.control.log

theorem State.tookClaim_storeLeaves {s u : State} {f : Frame} {stamp : Timer} (htook : s.tookClaim f stamp = u)
    (hs : u.Sound) (hr : u.audit.relocations = []) (b : State) :
    u.StoreLeaves (State.settle b (s.hearClaim f stamp).inHand) := by
  obtain ⟨computing, considering, hwork⟩ := State.hearClaim_work (s := s) (f := f) (stamp := stamp)
    (by rw [htook]; exact hs.intact) (by rw [htook]; exact hr) b
  rw [htook] at hwork
  exact ⟨congrArg Work.store hwork, congrArg Work.tasks hwork, congrArg Work.receiving hwork, congrArg Work.log hwork⟩

theorem State.appliedClaim_quantity_store {s : State} {f : Frame} {id : Nat} {o : Offer} (href : refOf f.payload = .store id)
    (hoffer : s.contests.offers.find? (fun x => decide (x.inboundId = id)) = some o) :
    (s.appliedClaim f).quantity = min (byteAt f.payload 4) (o.quantity - o.claimed) := by
  rw [State.appliedClaim_store href]
  unfold State.applyOfferClaim
  simp only [hoffer]

/-- A step that has left the accounts of `u` and reported so many failures, where the log has room. -/
theorem State.failed_storeLeaves {s u : State} {f : Frame} {stamp : Timer} {id failed : Nat}
    (htook : s.tookClaim f stamp = u.reportFailed id failed) (haccounts : s.Accounts u) (hs : s.Sound) (hq : s.quiet)
    (hlog : s.control.log.length < 16) (b : State) :
    let t := State.settle b (s.hearClaim f stamp).inHand
    t.store.table = s.store.table ∧ t.taskList = s.taskList ∧ t.face.receiving = s.face.receiving ∧
      t.control.log = s.control.log ++ (if failed = 0 then [] else [s.claimShortage id failed]) := by
  have hcontrol := haccounts.control
  have hshort : u.claimShortage id failed = s.claimShortage id failed := by
    unfold State.claimShortage State.receivingOf
    rw [hcontrol, haccounts.face, haccounts.timer]
  rw [State.reportFailed_eq (hcontrol ▸ hlog), hshort, hcontrol] at htook
  obtain ⟨hstore, htasks, hreceiving, hlogged⟩ := State.tookClaim_storeLeaves htook
    ((haccounts.sound hs).of_store rfl) ((congrArg AuditUnit.relocations haccounts.audit).trans hq.1) b
  exact ⟨congrArg StockStore.table (hstore.trans haccounts.store), htasks.trans haccounts.taskList,
    hreceiving.trans (congrArg FaceUnit.receiving haccounts.face), hlogged⟩

/-- A step whose claim has taken its slots as `u` says and counted them to their batch. -/
theorem State.taken_storeLeaves {s v u : State} {f : Frame} {stamp : Timer} {id : Nat} {new : SlotRecord → SlotRecord}
    {slots : List Nat} (htook : s.tookClaim f stamp = u.askReceiving id slots.length stamp) (haccounts : s.Accounts v)
    (hfills : v.Fills u (.load id) new slots) (hq : s.quiet) (b : State) :
    let t := State.settle b (s.hearClaim f stamp).inHand
    (∀ n, t.recordAt n = if n ∈ slots then new (s.recordAt n) else s.recordAt n) ∧
      t.taskList = s.taskList ++ slots.map (fun n => (.load id, n, s.timer, 0)) ∧ t.control.log = s.control.log ∧
      t.face.receiving = (s.askReceiving id slots.length stamp).face.receiving := by
  obtain ⟨hbook, hplanner, haudit, hcontrol⟩ := u.askReceiving_book id slots.length stamp
  have hsame := hfills.same
  have huaudit : u.audit = s.audit := by rw [hsame]; exact haccounts.audit
  have hucontrol : u.control = s.control := by rw [hsame]; exact haccounts.control
  have huface : u.face = s.face := by rw [hsame]; exact haccounts.face
  obtain ⟨hstore, htasks, hreceiving, hlogged⟩ := State.tookClaim_storeLeaves htook (hfills.sound.of_store hbook)
    ((congrArg AuditUnit.relocations (haudit.trans huaudit)).trans hq.1) b
  refine ⟨fun n => ?_, htasks.trans ?_, hlogged.trans (congrArg StationControl.log (hcontrol.trans hucontrol)),
    hreceiving.trans (State.askReceiving_congr huface hucontrol)⟩
  · rw [State.recordAt_of_store (hstore.trans hbook), hfills.records, haccounts.recordAt]
  · rw [State.taskList, hplanner, hfills.queue, haccounts.planner, haccounts.timer]
    simp [State.taskList]

/-! ### The statement -/

/-- Settles O39: fit slots with room are all taken (`TakesSlots.fills`) and counted to their batch (`taken_storeLeaves`,
`askReceiving_joins`, `askReceiving_counts`); otherwise all fail (`takeStore_short`), as those of an orphan claim do,
with one report (`failed_storeLeaves`). -/
theorem ownStoreClaimTakesItsSlots : Obligations.OwnStoreClaimTakesItsSlots := by
  intro s h id o hh hservice hown href hoffer hq hi htable k owned known deadline shortage
  have hs : s.Sound := ⟨hi, htable⟩
  have hnext := State.handed_next hh (kind := FrameKind.isClaim) rfl hservice fun h u => u.hearClaim h.frame h.stamp
  have howns (c : Contest) : (claimOf h.frame.payload).owns c = true ↔ owned c := by
    rw [claimOf_owns, href]
  have hquantity := State.appliedClaim_quantity_store href hoffer
  refine ⟨_, hnext, fun c tyre hrecords hc htyre => ?_, fun hnone hlog => ?_⟩
  · intro slots
    have hcref : c.ref = .store id := hc.1
    have hc := (howns c).2 hc
    have haccounts := s.claimFreed_accounts h.frame c
    have hfreed := haccounts.sound hs
    have htook (hsome : slots ≠ []) : s.tookClaim h.frame h.stamp =
        (s.claimFreed h.frame c).takeStore id tyre slots h.stamp := by
      have hzero : (s.appliedClaim h.frame).quantity ≠ 0 := by
        rw [hquantity]
        exact fun hzero => hsome (by simp only [slots, k, hzero, List.take_zero])
      have hstore := State.tookClaim_store (stamp := h.stamp) hown hrecords hc hcref htyre hzero
      rwa [hquantity] at hstore
    refine ⟨State.hearClaim_frees hown hrecords hc s, fun hsome hroom hnodup hfit hqueue hordinary => ?_,
      fun hsome hlog hshort => ?_⟩
    · have hface : (s.claimFreed h.frame c).receivingRoom id = true := by
        rw [haccounts.receivingRoom, State.receivingRoom, Bool.or_eq_true, decide_eq_true_iff]
        exact hroom
      obtain ⟨u, htake, hfills⟩ := (takesSlots_store id tyre).fills hfreed hnodup
        (fun n hn => (haccounts.storeFit _ n).trans (hfit n hn).1)
        (haccounts.hasRoomFor ⟨hqueue, hordinary, fun n hn => (hfit n hn).2⟩)
      obtain ⟨hbooked, htasks, hlog, hreceiving⟩ := State.taken_storeLeaves
        ((htook hsome).trans (State.takeStore_taken hface hsome htake)) haccounts hfills hq s
      refine ⟨hbooked, htasks, hlog, fun hnew => ?_, fun before r after hlist hid hothers => ?_⟩
      · rw [hreceiving, State.askReceiving_joins hnew (hroom.resolve_left (by simp [hnew]))]
        rfl
      · rw [hreceiving, State.askReceiving_counts hlist hid hothers]
        rfl
    · have hfails : (s.claimFreed h.frame c).receivingRoom id = false ∨
          ∀ n ∈ slots, (s.claimFreed h.frame c).storeFit tyre.size n = false := by
        refine hshort.imp (fun ⟨hnew, hfull⟩ => ?_) fun hunfit n hn => (haccounts.storeFit _ n).trans (hunfit n hn)
        have hnone : s.receivingOf id = none := hnew
        rw [haccounts.receivingRoom, State.receivingRoom, hnone]
        exact decide_eq_false (Nat.not_lt.2 hfull)
      have hleft := State.failed_storeLeaves ((htook hsome).trans (State.takeStore_short hfreed hfails)) haccounts hs hq
        hlog s
      rwa [if_neg (mt List.length_eq_zero_iff.1 hsome)] at hleft
  · have htook := State.tookClaim_orphanStore (stamp := h.stamp) hown (fun c hc => mt (howns c).1 (hnone c hc)) href
    rw [hquantity] at htook
    exact State.failed_storeLeaves htook (s.appliedClaim_accounts h.frame) hs hq hlog s

end Sys2Proof.Machine
end

section
/-! SUPPORT. The frame an idle bus starts (R157, R162): which place of the transmit queue contends, what its owner is told
(R97, R137), and that the end of the step leaves the entries of the pockets where they are. -/

namespace Sys2Proof.Machine

/-! ### The contending frame (R162) -/

/-- The least element chosen is the first of its measure. -/
theorem leastBy_first {α : Type} {measure : α → Nat} {xs : List α} {x : α} (h : leastBy measure xs = some x) :
    ∃ as bs, xs = as ++ x :: bs ∧ ∀ y ∈ as, measure x < measure y := by
  induction xs generalizing x with
  | nil => cases h
  | cons z rest ih =>
    unfold leastBy at h
    cases hrest : leastBy measure rest with
    | none =>
      rw [hrest] at h
      obtain rfl := Option.some.inj h
      exact ⟨[], rest, rfl, by simp⟩
    | some w =>
      simp only [hrest] at h
      split at h
      · obtain rfl := Option.some.inj h
        exact ⟨[], rest, rfl, by simp⟩
      · rename_i hlt
        obtain rfl := Option.some.inj h
        obtain ⟨as, bs, hsplit, hfirst⟩ := ih hrest
        exact ⟨z :: as, bs, by rw [hsplit]; rfl, List.forall_mem_cons.2 ⟨Nat.lt_of_not_le hlt, hfirst⟩⟩

theorem contenderPlace_sending {policy : TxPolicy} {tx : List TxFrame} {i : Nat} {x : TxFrame} (hx : tx[i]? = some x)
    (hsending : x.state = .sending) (hbefore : ∀ j y, j < i → tx[j]? = some y → y.state = .queued) :
    contenderPlace policy tx = some i := by
  obtain ⟨hi, rfl⟩ := List.getElem?_eq_some_iff.1 hx
  have hfound : (tx.findIdx? fun t => decide (t.state = .sending)) = some i := by
    refine List.findIdx?_eq_some_iff_getElem.2 ⟨hi, decide_eq_true hsending, fun j hj => ?_⟩
    simp [hbefore j _ hj (List.getElem?_eq_getElem (hj.trans hi))]
  unfold contenderPlace
  rw [hfound]

section
variable {tx : List TxFrame} (hqueued : ∀ y ∈ tx, y.state = .queued)
include hqueued

theorem findIdx?_sending_eq_none : (tx.findIdx? fun t => decide (t.state = .sending)) = none :=
  List.findIdx?_eq_none_iff.2 fun y hy => by simp [hqueued y hy]

theorem contenderPlace_entry (hne : tx ≠ []) : contenderPlace .entry tx = some 0 := by
  unfold contenderPlace
  rw [findIdx?_sending_eq_none hqueued]
  exact if_neg hne

/-- Under KEY the lowest key contends, the one queued first among equals. -/
theorem contenderPlace_key (hne : tx ≠ []) : ∃ i x, contenderPlace .key tx = some i ∧ tx[i]? = some x ∧
    ∀ j y, tx[j]? = some y → keyValue x.frame.key ≤ keyValue y.frame.key ∧
      (keyValue x.frame.key = keyValue y.frame.key → i ≤ j) := by
  obtain ⟨⟨x, i⟩, hleast, hmem, hbelow⟩ :=
    exists_leastBy (fun x : TxFrame × Nat => keyValue x.1.frame.key) (xs := tx.zipIdx) (by simpa using hne)
  obtain ⟨as, bs, hsplit, hfirst⟩ := leastBy_first hleast
  have hplaced : ∀ {j : Nat} {y : TxFrame}, tx[j]? = some y → tx.zipIdx[j]? = some (y, j) := by
    intro j y hy
    simp [List.getElem?_zipIdx, hy]
  have hx : tx[i]? = some x := List.mk_mem_zipIdx_iff_getElem?.1 hmem
  have hplace : i = as.length := by
    have hlast : tx.zipIdx[as.length]? = some (x, i) := by simp [hsplit]
    rw [List.getElem?_zipIdx, Option.map_eq_some_iff] at hlast
    obtain ⟨y, _, hy⟩ := hlast
    simpa using (congrArg Prod.snd hy).symm
  refine ⟨i, x, ?_, hx, fun j y hy => ⟨hbelow (y, j) (List.mem_of_getElem? (hplaced hy)), fun hequal => ?_⟩⟩
  · unfold contenderPlace
    simp only [findIdx?_sending_eq_none hqueued, hleast, Option.map_some]
  · by_contra hlater
    have hbefore : (y, j) ∈ as := by
      have hat := hplaced hy
      rw [hsplit, List.getElem?_append_left (by omega)] at hat
      exact List.mem_of_getElem? hat
    exact absurd (hfirst _ hbefore) (by simp [hequal])

end

/-! ### Its owner (R97, R137) -/

section
variable {s : State} {i : Nat} {x : TxFrame} (hi : s.contenderAt = some i) (hx : s.port.tx[i]? = some x)
include hi hx

theorem State.contender_at : s.contender = some x := by
  unfold State.contender
  rw [hi]
  exact hx

theorem State.changeContender_at (f : TxFrame → TxFrame) :
    s.changeContender f = s.setPort { s.port with tx := s.port.tx.set i (f x) } := by
  unfold State.changeContender
  simp only [hi, hx]

/-- A lower key wins over the contending frame: nothing happens. -/
theorem State.contend_loses {k : Key} (hk : keyValue k < keyValue x.frame.key) : s.contend (some k) = s := by
  unfold State.contend
  simp [State.contender_at hi hx, hk]

theorem State.contend_continues {rival : Option Key} (hsending : x.state = .sending) : s.contend rival = s := by
  unfold State.contend
  simp [State.contender_at hi hx, hsending]

theorem State.contend_starts {rival : Option Key} (hwon : ∀ k, rival = some k → keyValue x.frame.key ≤ keyValue k)
    (hqueued : x.state = .queued) : s.contend rival =
      (s.setPort { s.port with tx := s.port.tx.set i { x with state := .sending } }).tellStarted x.frame := by
  unfold State.contend
  cases rival with
  | none => simp [State.contender_at hi hx, State.changeContender_at hi hx, hqueued]
  | some k =>
    simp [State.contender_at hi hx, State.changeContender_at hi hx, hqueued, Nat.not_lt.2 (hwon k rfl)]

end

/-- The state once the records know of a frame that has started. -/
def State.recordsTold (s : State) (f : Frame) : State :=
  s.setContests { s.contests with records := s.contests.records.map (Contest.onBus s.own f) }

theorem State.walkRecords_onBus (s : State) (f : Frame) :
    (s.walkRecords fun u c => (u, some (c.onBus s.own f))) = s.recordsTold f := by
  obtain ⟨u, rfl, hwalk⟩ := State.walkRecords_filterMap (P := (· = s)) (g := fun c => some (c.onBus s.own f)) rfl
    (visit := fun u c => (u, some (c.onBus s.own f))) fun t ht c _ => ⟨ht, rfl⟩
  rw [hwalk, State.recordsTold, ← List.filterMap_eq_map]
  rfl

theorem State.tellStarted_intent {s : State} {f : Frame} {lane : Fin 8} (h : frameKind f.key = some (.intent lane)) :
    s.tellStarted f = (s.recordsTold f).intentStarted (intentLineOf lane f.payload) := by
  unfold State.tellStarted
  simp only [h, State.walkRecords_onBus]

theorem State.tellStarted_cases (s : State) (f : Frame) :
    s.tellStarted f = s.recordsTold f ∨ ∃ p e, s.tellStarted f = (s.recordsTold f).setEntry p e := by
  unfold State.tellStarted
  simp only [State.walkRecords_onBus]
  split
  · unfold State.intentStarted
    split
    · exact .inl rfl
    · exact .inr ⟨_, _, rfl⟩
  · exact .inl rfl

/-- Of the records and the transmit queue, a frame that has started changes what the records know of it. -/
theorem State.tellStarted_parts (s : State) (f : Frame) : (s.tellStarted f).kept = s.kept ∧
    (s.tellStarted f).port = s.port ∧
    (s.tellStarted f).contests.records = s.contests.records.map (Contest.onBus s.own f) := by
  obtain h | ⟨p, e, h⟩ := s.tellStarted_cases f <;> rw [h] <;> exact ⟨rfl, rfl, rfl⟩

theorem State.entriesWith_of_lanes {s t : State} (h : t.lanes = s.lanes) (line : LineRef) (status : IntentStatus) :
    t.entriesWith line status = s.entriesWith line status := by
  unfold State.entriesWith State.pocket
  rw [h]

/-- The INTENT queued first that a frame could be is ON_BUS; the port and the records do not tell which it is. -/
theorem State.tellStarted_first {s u : State} {f : Frame} {lane : Fin 8} {p : Fin 2} {e : PocketEntry}
    {rest : List (Fin 2 × PocketEntry)} (hkind : frameKind f.key = some (.intent lane))
    (hfirst : s.entriesWith (intentLineOf lane f.payload) .queued = (p, e) :: rest) (hlanes : u.lanes = s.lanes) :
    u.tellStarted f = (u.recordsTold f).setEntry p { e with intent := .onBus } := by
  have hfirst' : (u.recordsTold f).entriesWith (intentLineOf lane f.payload) .queued = (p, e) :: rest :=
    (State.entriesWith_of_lanes hlanes _ _).trans hfirst
  rw [State.tellStarted_intent hkind, State.intentStarted]
  simp only [hfirst']

/-! ### The entries at the end of a step -/

/-- Asking for a due task puts nothing in the place of an entry (R66, R134). -/
theorem State.lightOne_entry {s : State} {p : Fin 2} {e : PocketEntry} (h : s.pocket p = .entry e) (d : Due) :
    (s.lightOne d).1.pocket p = .entry e := by
  obtain hsame | ⟨t, l, q, _, _, _, hq, hgiven⟩ := s.lightOne_cases d
  · rw [hsame, h]
  · have hfree := Pocket.isFree_iff.1 (s.pocketFor_free l q hq)
    have hne : q ≠ p := by
      rintro rfl
      cases h.symm.trans hfree
    rw [hgiven, State.pocket_assignPocket, if_neg hne, h]

theorem State.lightAll_entry {s : State} {p : Fin 2} {e : PocketEntry} (h : s.pocket p = .entry e) (due : List Due) :
    (s.lightAll due).1.pocket p = .entry e := by
  induction due using List.reverseRecOn with
  | nil => exact h
  | append_singleton xs x ih => rw [State.lightAll_append]; exact State.lightOne_entry ih x

theorem State.refreshDwell_entry {s : State} {p : Fin 2} {e : PocketEntry} (h : s.pocket p = .entry e) :
    s.refreshDwell.pocket p = .entry e := by
  have hjoined : s.joinDue.pocket p = .entry e := by
    rw [State.pocket, s.joinDue_outerParts.2.2.2]
    exact h
  unfold State.refreshDwell State.lightDue
  split
  · exact hjoined
  · split
    · exact State.lightAll_entry hjoined _
    · exact hjoined

@[simp] theorem State.testCompletion_lanes (s : State) : s.testCompletion.lanes = s.lanes := by
  unfold State.testCompletion
  split
  · rfl
  · split <;> rfl

/-- With nothing handed over, the end of a step leaves every entry in its pocket. -/
theorem State.settle_entry {b s : State} (hq : s.quiet) {p : Fin 2} {e : PocketEntry} (h : s.pocket p = .entry e) :
    (State.settle b s).pocket p = .entry e := by
  have hlanes : (State.settle b s).lanes = s.refreshDwell.lanes := by
    rw [(State.settle_planned b s).2.2.2, (State.plan_parts b s.faced).2.2, State.faced, State.testCompletion_lanes,
      State.relocateAll_quiet s hq.1, State.considerRounds_quiet s hq.2]
  rw [State.pocket, hlanes]
  exact State.refreshDwell_entry h

/-! ### The statement -/

/-- A conditional operation leaves the kept part as `k` when both its outcomes do. -/
theorem ite_kept {c : Prop} [Decidable c] {t u : State} {k : Kept} (ht : t.kept = k) (hu : u.kept = k) :
    (if c then t else u).kept = k := by split <;> assumption

/-- A frame that contends changes nothing of the kept part. -/
theorem State.contend_kept (s : State) (rival : Option Key) : (s.contend rival).kept = s.kept := by
  have hchange : ∀ f, (s.changeContender f).kept = s.kept := by
    intro f
    unfold State.changeContender
    split
    · rfl
    · split <;> rfl
  unfold State.contend
  split
  · rfl
  · refine ite_kept rfl (ite_kept rfl ?_)
    exact (State.tellStarted_parts _ _).1.trans (hchange _)

theorem idleBusContend_next {s : State} (hrun : s.isRunning = true) (hbus : s.onBus = true)
    (hlisten : s.listenOnly = false) (rival : Option Key) :
    exec (.idleBusContend rival) s = .next (State.settle s (s.contend rival)) := by
  change (s.during fun t => if t.drivesBus then t.contend rival else t).goOn = _
  rw [State.during_next hrun, if_pos (by simp [State.drivesBus, hrun, hbus, hlisten])]

/-- Settles O18: the place that contends is the first SENDING frame, the least key (`contenderPlace_key`) or the first; a
frame that starts is told to its records and its pocket entry (`tellStarted_parts`, `tellStarted_first`), and the end of
the step only appends to the transmit queue and leaves the entries (`settle_entry`). -/
theorem idleBusStartsTheChosenFrame : Obligations.IdleBusStartsTheChosenFrame := by
  refine ⟨fun policy tx i x hx hsending hbefore => contenderPlace_sending hx hsending hbefore,
    fun tx hne hqueued => ⟨contenderPlace_entry hqueued hne, contenderPlace_key hqueued hne⟩,
    fun policy => by cases policy <;> rfl, fun s rival i x hrun hbus hlisten hi hx => ?_⟩
  have htx := State.settle_tx s (s.contend rival)
  refine ⟨_, idleBusContend_next hrun hbus hlisten rival, ?_, ?_, fun hwon => ⟨?_, fun hqueued => ?_, ?_⟩⟩
  · rw [State.settle_kept, State.contend_kept]
  · rintro ⟨k, rfl, hlower⟩
    rw [State.settle_records]
    rw [State.contend_loses hi hx hlower] at htx ⊢
    exact ⟨htx, rfl⟩
  · cases hstate : x.state with
    | sending =>
      have hsame : s.port.tx.set i { x with state := .sending } = s.port.tx := by
        obtain ⟨hlt, rfl⟩ := List.getElem?_eq_some_iff.1 hx
        rw [← hstate]
        exact List.set_getElem_self hlt
      rw [State.contend_continues hi hx hstate] at htx ⊢
      rwa [hsame]
    | queued =>
      rw [State.contend_starts hi hx hwon hstate, (State.tellStarted_parts _ _).2.1] at htx
      rwa [State.contend_starts hi hx hwon hstate]
  · rw [State.settle_records, State.contend_starts hi hx hwon hqueued, (State.tellStarted_parts _ _).2.2]
    rfl
  · intro lane p e rest hqueued hkind hquiet hfirst
    rw [State.contend_starts hi hx hwon hqueued, State.tellStarted_first hkind hfirst (by rfl)]
    refine State.settle_entry ?_ (by rw [State.setEntry, State.pocket_setPocket, if_pos rfl])
    exact hquiet

end Sys2Proof.Machine
end

section
/-! SUPPORT. The floor of a state: what R124, R133 and R134 speak of, with the law of it that holds between the operations of
a step too. A claim may be owed or paid in advance meanwhile (`debt`), and the lines of a bay being given up may stand outside
the law (`gone`). -/

namespace Sys2Proof.Machine

/-! ### The floor and its law -/

/-- Which lines have an OPEN bay of a SYNCED lane, and the anchor of their lane; what this station has claimed and delivered
of a line; the pockets; and the work of the tasks with their slots. -/
structure Floor where
  opens : LineRef → Bool
  anchor : LineRef → Bool
  own : LineRef → Option (Nat × Nat)
  pocket : Fin 2 → Pocket
  tasks : List (TaskWork × Nat)

/-- The floor of a state. -/
def State.floor (s : State) : Floor :=
  { opens := fun l => (s.openBay l).isSome, anchor := s.isAnchor,
    own := fun l => (s.lineAt l).map fun x => (x.ownClaim, x.ownDelivered), pocket := s.pocket,
    tasks := s.planner.queue.map Task.place }

/-- Whether a pocket holds a tyre of a line: an entry in CARRIED, LOADED, GRANTED or JAMMED (R124). -/
def Pocket.carries (x : Pocket) (l : LineRef) : Bool :=
  x.entryOf.any fun e => decide (e.line = some l) && decide (e.state ≠ .assigned) && decide (e.state ≠ .restore)

/-- How many of some tasks are PICK tasks of a line. -/
def pickCount (tasks : List (TaskWork × Nat)) (l : LineRef) : Nat := tasks.countP fun t => decide (t.1 = .pick l)

/-- How many of the pockets hold a tyre of a line. -/
def carriedCount (pocket : Fin 2 → Pocket) (l : LineRef) : Nat :=
  ((pocket 0).carries l).toNat + ((pocket 1).carries l).toNat

/-- The laws of R124, R133, R134 and R135. `c` says whether the own claims count; lines that are `gone` have no bay, no anchor
and no claim to answer for; and `debt` is what the own claim of a line stands above the rest of its account. -/
structure Floor.Law (f : Floor) (c : Prop) (gone : LineRef → Prop) (debt : LineRef → Int) : Prop where
  slots : (f.tasks.map Prod.snd).Nodup
  shaped {p : Fin 2} {e : PocketEntry} : f.pocket p = .entry e → e.shaped = true
  bay {p : Fin 2} {e : PocketEntry} {l : LineRef} :
    f.pocket p = .entry e → e.live = true → e.line = some l → ¬gone l → f.opens l = true
  task {p : Fin 2} {e : PocketEntry} :
    f.pocket p = .entry e → e.state = .assigned → ∃ l, e.line = some l ∧ (.pick l, e.slot) ∈ f.tasks
  anchored {p q : Fin 2} {d e : PocketEntry} {k l : LineRef} : p ≠ q → f.pocket p = .entry d → f.pocket q = .entry e →
    d.live = true → e.live = true → d.line = some k → e.line = some l → ¬gone k → ¬gone l →
    f.anchor k = true ∨ f.anchor l = true
  apart {p q : Fin 2} {d e : PocketEntry} : p ≠ q → f.pocket p = .entry d → f.pocket q = .entry e →
    d.state = .assigned → e.state = .assigned → d.slot ≠ e.slot
  account {l : LineRef} {own delivered : Nat} : c → ¬gone l → f.own l = some (own, delivered) →
    (own : Int) = pickCount f.tasks l + carriedCount f.pocket l + delivered + debt l ∧ 0 ≤ delivered + debt l
  line {l : LineRef} {n : Nat} : c → ¬gone l → (.pick l, n) ∈ f.tasks → (f.own l).isSome = true

/-! ### Entries -/

theorem Pocket.entryOf_eq_some {x : Pocket} {e : PocketEntry} : x.entryOf = some e ↔ x = .entry e := by
  cases x <;> simp [Pocket.entryOf]

/-- A pocket whose entry goes on from the entry of another: it is shaped, it waits for its grant only where that one did, and
for its pick only where that one did. -/
def Pocket.Follows (y x : Pocket) : Prop := ∀ e, y = .entry e → e.shaped = true ∧
  (e.live = true → ∃ d, x = .entry d ∧ d.live = true ∧ d.line = e.line) ∧
  (e.state = .assigned → ∃ d, x = .entry d ∧ d.state = .assigned ∧ d.slot = e.slot ∧ d.line = e.line)

theorem Pocket.free_follows (x : Pocket) : Pocket.free.Follows x := fun _ he => by cases he

theorem Pocket.foreign_follows (x : Pocket) : Pocket.foreign.Follows x := fun _ he => by cases he

/-- An entry that keeps its line, is not ASSIGNED and waits for its grant only where it did. -/
theorem Pocket.entry_follows {d e : PocketEntry} (hshaped : e.shaped = true) (hstate : e.state ≠ .assigned)
    (hlive : e.live = true → d.live = true ∧ d.line = e.line) : (Pocket.entry e).Follows (.entry d) := by
  rintro _ ⟨⟩
  exact ⟨hshaped, fun he => ⟨d, rfl, hlive he⟩, fun he => absurd he hstate⟩

theorem Pocket.follows_self {x : Pocket} (h : ∀ e, x = .entry e → e.shaped = true) : x.Follows x :=
  fun e he => ⟨h e he, fun hlive => ⟨e, he, hlive, rfl⟩, fun hstate => ⟨e, he, hstate, rfl, rfl⟩⟩

/-! ### Counts -/

theorem carriedCount_update (pocket : Fin 2 → Pocket) (p : Fin 2) (x : Pocket) (l : LineRef) :
    (carriedCount (Function.update pocket p x) l : Int) =
      carriedCount pocket l + (x.carries l).toNat - ((pocket p).carries l).toNat := by
  unfold carriedCount
  fin_cases p <;> simp [Function.update] <;> omega

/-- Lists of tasks on different slots with the same PICK tasks of a line have as many of them. -/
theorem pickCount_congr {ts us : List (TaskWork × Nat)} (ht : (ts.map Prod.snd).Nodup) (hu : (us.map Prod.snd).Nodup)
    {l : LineRef} (h : ∀ n, (TaskWork.pick l, n) ∈ us ↔ (TaskWork.pick l, n) ∈ ts) :
    pickCount us l = pickCount ts l := by
  rw [pickCount, pickCount, List.countP_eq_length_filter, List.countP_eq_length_filter]
  refine ((List.perm_ext_iff_of_nodup (ht.of_map _ |>.filter _) (hu.of_map _ |>.filter _)).2 ?_).length_eq.symm
  rintro ⟨w, n⟩
  simp only [List.mem_filter, decide_eq_true_eq]
  constructor <;> rintro ⟨hmem, rfl⟩
  · exact ⟨(h n).2 hmem, rfl⟩
  · exact ⟨(h n).1 hmem, rfl⟩

/-- A list of tasks on different slots without the PICK task of one slot has one fewer of its line. -/
theorem pickCount_drop {ts us : List (TaskWork × Nat)} (ht : (ts.map Prod.snd).Nodup) (hu : (us.map Prod.snd).Nodup)
    {l : LineRef} {slot : Nat} (hmem : (TaskWork.pick l, slot) ∈ ts)
    (h : ∀ n, (TaskWork.pick l, n) ∈ us ↔ (TaskWork.pick l, n) ∈ ts ∧ n ≠ slot) :
    pickCount ts l = pickCount us l + 1 := by
  have hnew : (TaskWork.pick l, slot) ∉ us := fun hin => ((h slot).1 hin).2 rfl
  have hperm : (ts.filter fun t => decide (t.1 = .pick l)).Perm
      ((.pick l, slot) :: us.filter fun t => decide (t.1 = .pick l)) := by
    refine (List.perm_ext_iff_of_nodup (ht.of_map _ |>.filter _) ?_).2 ?_
    · exact List.nodup_cons.2 ⟨fun hin => hnew (List.mem_of_mem_filter hin), (hu.of_map _).filter _⟩
    · rintro ⟨w, n⟩
      simp only [List.mem_filter, List.mem_cons, decide_eq_true_eq, Prod.mk.injEq]
      constructor
      · rintro ⟨hin, rfl⟩
        by_cases hn : n = slot
        · exact .inl ⟨rfl, hn⟩
        · exact .inr ⟨(h n).2 ⟨hin, hn⟩, rfl⟩
      · rintro (⟨rfl, rfl⟩ | ⟨hin, rfl⟩)
        · exact ⟨hmem, rfl⟩
        · exact ⟨((h n).1 hin).1, rfl⟩
  rw [pickCount, pickCount, List.countP_eq_length_filter, List.countP_eq_length_filter, hperm.length_eq, List.length_cons]

theorem pickCount_le {ts us : List (TaskWork × Nat)} (hu : (us.map Prod.snd).Nodup) {l : LineRef}
    (h : ∀ n, (TaskWork.pick l, n) ∈ us → (TaskWork.pick l, n) ∈ ts) :
    pickCount us l ≤ pickCount ts l := by
  rw [pickCount, pickCount, List.countP_eq_length_filter, List.countP_eq_length_filter]
  refine (((hu.of_map _).filter _).subperm ?_).length_le
  rintro ⟨w, n⟩ hin
  simp only [List.mem_filter, decide_eq_true_eq] at hin ⊢
  obtain ⟨hin, rfl⟩ := hin
  exact ⟨h n hin, rfl⟩

/-! ### Changes that keep the law -/

section
variable {f : Floor} {c : Prop} {gone : LineRef → Prop} {debt : LineRef → Int}

/-- At most one pocket is ASSIGNED to a slot. -/
theorem Floor.Law.assigned_unique (h : f.Law c gone debt) {p q : Fin 2} {d e : PocketEntry} (hp : f.pocket p = .entry d)
    (hq : f.pocket q = .entry e) (hd : d.state = .assigned) (he : e.state = .assigned) (hslot : d.slot = e.slot) : p = q :=
  by_contra fun hne => h.apart hne hp hq hd he hslot

/-- The pockets, perhaps the one for the other, and the tasks become others, and the debt is what the counts make it. -/
theorem Floor.Law.change (h : f.Law c gone debt) {pocket : Fin 2 → Pocket} {tasks : List (TaskWork × Nat)}
    {debt' : LineRef → Int} {from_ : Fin 2 → Fin 2} (hfrom : from_.Injective)
    (hpockets : ∀ p, (pocket p).Follows (f.pocket (from_ p))) (hslots : (tasks.map Prod.snd).Nodup)
    (hpicks : ∀ l n, (.pick l, n) ∈ tasks → (.pick l, n) ∈ f.tasks)
    (hassigned : ∀ p e l, pocket p = .entry e → e.state = .assigned → (.pick l, e.slot) ∈ f.tasks →
      (.pick l, e.slot) ∈ tasks)
    (hdebt : ∀ l, ¬gone l → debt l ≤ debt' l ∧
      (pickCount tasks l : Int) + carriedCount pocket l + debt' l =
        pickCount f.tasks l + carriedCount f.pocket l + debt l) :
    ({ f with pocket := pocket, tasks := tasks } : Floor).Law c gone debt' where
  slots := hslots
  shaped he := (hpockets _ _ he).1
  bay he hlive hl hgone := by
    obtain ⟨d, hd, hdlive, hline⟩ := (hpockets _ _ he).2.1 hlive
    exact h.bay hd hdlive (hline.trans hl) hgone
  task he hstate := by
    obtain ⟨d, hd, hdstate, hslot, hline⟩ := (hpockets _ _ he).2.2 hstate
    obtain ⟨l, hl, hmem⟩ := h.task hd hdstate
    exact ⟨l, hline.symm.trans hl, hassigned _ _ _ he hstate (hslot ▸ hmem)⟩
  anchored hne hp hq hdl hel hk hl hgk hgl := by
    obtain ⟨d, hd, hdlive, hdline⟩ := (hpockets _ _ hp).2.1 hdl
    obtain ⟨e, he, helive, heline⟩ := (hpockets _ _ hq).2.1 hel
    exact h.anchored (hfrom.ne hne) hd he hdlive helive (hdline.trans hk) (heline.trans hl) hgk hgl
  apart hne hp hq hda hea := by
    obtain ⟨d, hd, hdstate, hdslot, _⟩ := (hpockets _ _ hp).2.2 hda
    obtain ⟨e, he, hestate, heslot, _⟩ := (hpockets _ _ hq).2.2 hea
    rw [← hdslot, ← heslot]
    exact h.apart (hfrom.ne hne) hd he hdstate hestate
  account hc hgone hown := by
    obtain ⟨haccount, howed⟩ := h.account hc hgone hown
    obtain ⟨hle, heq⟩ := hdebt _ hgone
    exact ⟨by dsimp only; omega, by omega⟩
  line hc hgone hmem := h.line hc hgone (hpicks _ _ hmem)

/-- The tasks become others on different slots, with the same PICK tasks. -/
theorem Floor.Law.retask (h : f.Law c gone debt) {tasks : List (TaskWork × Nat)} (hslots : (tasks.map Prod.snd).Nodup)
    (hpicks : ∀ l n, (.pick l, n) ∈ tasks ↔ (.pick l, n) ∈ f.tasks) : ({ f with tasks := tasks } : Floor).Law c gone debt :=
  h.change Function.injective_id (fun _ => Pocket.follows_self fun _ => h.shaped) hslots (fun l n => (hpicks l n).1)
    (fun _ _ _ _ _ => (hpicks _ _).2) fun l _ =>
      ⟨le_refl _, by rw [pickCount_congr h.slots hslots (hpicks l)]⟩

/-- One pocket becomes another. -/
theorem Floor.Law.setPocket (h : f.Law c gone debt) {p : Fin 2} {x : Pocket} {debt' : LineRef → Int}
    (hx : x.Follows (f.pocket p))
    (hdebt : ∀ l, ¬gone l → debt l ≤ debt' l ∧
      ((x.carries l).toNat : Int) + debt' l = ((f.pocket p).carries l).toNat + debt l) :
    ({ f with pocket := Function.update f.pocket p x } : Floor).Law c gone debt' := by
  refine h.change Function.injective_id (fun q => ?_) h.slots (fun _ _ => id) (fun _ _ _ _ _ => id) fun l hgone => ?_
  · by_cases hq : q = p
    · subst hq
      rwa [Function.update_self]
    · rw [Function.update_of_ne hq]
      exact Pocket.follows_self fun _ => h.shaped
  · obtain ⟨hle, heq⟩ := hdebt l hgone
    have hcarried := carriedCount_update f.pocket p x l
    exact ⟨hle, by omega⟩

/-- One pocket becomes another that holds a tyre of the same lines. -/
theorem Floor.Law.setLike (h : f.Law c gone debt) {p : Fin 2} {x : Pocket} (hx : x.Follows (f.pocket p))
    (hcarries : ∀ l, ¬gone l → x.carries l = (f.pocket p).carries l) :
    ({ f with pocket := Function.update f.pocket p x } : Floor).Law c gone debt :=
  h.setPocket hx fun l hgone => ⟨le_refl _, by rw [hcarries l hgone]⟩

/-- The debt of a line counts only where its account does. -/
theorem Floor.Law.redebt (h : f.Law c gone debt) {debt' : LineRef → Int}
    (hdebt : ∀ l, c → ¬gone l → (f.own l).isSome = true → debt' l = debt l) : f.Law c gone debt' :=
  { h with
    account := fun hc hgone hown => by
      rw [hdebt _ hc hgone (by rw [hown]; rfl)]
      exact h.account hc hgone hown }

/-- What this station has claimed and delivered of one line becomes another, and the debt by as much. -/
theorem Floor.Law.reown (h : f.Law c gone debt) {l : LineRef} {g : Nat × Nat → Nat × Nat} {change : Int}
    (hg : ∀ x, c → ¬gone l → f.own l = some x → 0 ≤ x.2 + debt l → (x.2 : Int) + debt l ≤ x.1 →
      ((g x).1 : Int) - (g x).2 = x.1 - x.2 + change ∧ 0 ≤ (g x).2 + debt l + change) :
    ({ f with own := Function.update f.own l ((f.own l).map g) } : Floor).Law c gone
      (Function.update debt l (debt l + change)) :=
  { h with
    account := fun {m} {a d} hc hgone hown => by
      by_cases hm : m = l
      · subst hm
        dsimp only at hown ⊢
        rw [Function.update_self] at hown ⊢
        obtain ⟨⟨a', d'⟩, heq, hchange⟩ := Option.map_eq_some_iff.1 hown
        obtain ⟨haccount, howed⟩ := h.account hc hgone heq
        obtain ⟨heven, hpaid⟩ := hg _ hc hgone heq howed (by omega)
        rw [hchange] at heven hpaid
        exact ⟨by omega, by omega⟩
      · dsimp only at hown ⊢
        rw [Function.update_of_ne hm] at hown ⊢
        exact h.account hc hgone hown
    line := fun {m} {n} hc hgone hmem => by
      have hsome := h.line hc hgone hmem
      by_cases hm : m = l
      · subst hm
        simpa using hsome
      · simpa [Function.update_of_ne hm] using hsome }

/-- The lanes change only where they are gone. -/
theorem Floor.Law.relane (h : f.Law c gone debt) {gone' : LineRef → Prop} {opens anchor : LineRef → Bool}
    {own : LineRef → Option (Nat × Nat)} (hgone : ∀ l, gone l → gone' l)
    (hopens : ∀ l, ¬gone' l → f.opens l = true → opens l = true)
    (hanchor : ∀ l, ¬gone' l → f.anchor l = true → anchor l = true) (hown : ∀ l, ¬gone' l → own l = f.own l) :
    ({ f with opens := opens, anchor := anchor, own := own } : Floor).Law c gone' debt :=
  { h with
    bay := fun he hlive hl hg => hopens _ hg (h.bay he hlive hl (mt (hgone _) hg))
    anchored := fun hne hp hq hd he hk hl hgk hgl =>
      (h.anchored hne hp hq hd he hk hl (mt (hgone _) hgk) (mt (hgone _) hgl)).imp (hanchor _ hgk) (hanchor _ hgl)
    account := fun hc hg heq => h.account hc (mt (hgone _) hg) ((hown _ hg).symm.trans heq)
    line := fun hc hg hmem => (congrArg Option.isSome (hown _ hg)).trans (h.line hc (mt (hgone _) hg) hmem) }

/-- Nothing is gone any more, where of the lines that were gone none is picked or waits in a pocket and the claims are in
order. -/
theorem Floor.Law.readmit (h : f.Law c gone debt) (hown : ∀ l own delivered, c → gone l → f.own l = some (own, delivered) →
      (own : Int) = carriedCount f.pocket l + delivered + debt l ∧ 0 ≤ delivered + debt l)
    (hpicks : ∀ l n, c → gone l → (.pick l, n) ∉ f.tasks)
    (hlive : ∀ p e l, f.pocket p = .entry e → e.live = true → e.line = some l → ¬gone l) :
    f.Law c (fun _ => False) debt :=
  { h with
    bay := fun he hl hline _ => h.bay he hl hline (hlive _ _ _ he hl hline)
    anchored := fun hne hp hq hd he hk hl _ _ =>
      h.anchored hne hp hq hd he hk hl (hlive _ _ _ hp hd hk) (hlive _ _ _ hq he hl)
    account := fun {l own delivered} hc _ heq => by
      by_cases hgone : gone l
      · have hnone : pickCount f.tasks l = 0 := List.countP_eq_zero.2 fun t ht hw => by
          obtain ⟨w, n⟩ := t
          obtain rfl : w = .pick l := of_decide_eq_true hw
          exact hpicks l n hc hgone ht
        obtain ⟨haccount, howed⟩ := hown l own delivered hc hgone heq
        exact ⟨by omega, howed⟩
      · exact h.account hc hgone heq
    line := fun hc _ hmem => h.line hc (fun hgone => hpicks _ _ hc hgone hmem) hmem }

/-- Nothing is gone any more, where no line that was gone is claimed, is picked or waits in a pocket. -/
theorem Floor.Law.regain (h : f.Law c gone debt) (hown : ∀ l, gone l → f.own l = none)
    (hpicks : ∀ l n, gone l → (.pick l, n) ∉ f.tasks)
    (hlive : ∀ p e l, f.pocket p = .entry e → e.live = true → e.line = some l → ¬gone l) :
    f.Law c (fun _ => False) debt :=
  h.readmit (fun l _ _ _ hgone heq => by rw [hown l hgone] at heq; cases heq) (fun l n _ => hpicks l n) hlive

end

end Sys2Proof.Machine
end

section
/-! SUPPORT. The statements' laws of pockets, own claims and tasks as the law of the floor (R124, R133, R134). -/

namespace Sys2Proof.Machine

/-! ### Counts and entries -/

theorem State.picksOf_eq (s : State) (l : LineRef) : s.picksOf l = pickCount s.floor.tasks l := by
  unfold State.picksOf pickCount State.floor
  rw [List.countP_map, List.countP_eq_length_filter]
  rfl

theorem State.carriedOf_eq (s : State) (l : LineRef) : s.carriedOf l = carriedCount s.floor.pocket l := by
  have hfilter : s.carriedOf l = (bothPockets.filter fun p => (s.pocket p).carries l).length := rfl
  have hcount : carriedCount s.floor.pocket l = ((s.pocket 0).carries l).toNat + ((s.pocket 1).carries l).toNat := rfl
  rw [hfilter, hcount]
  cases h0 : (s.pocket 0).carries l <;> cases h1 : (s.pocket 1).carries l <;> simp [bothPockets, h0, h1]

theorem State.mem_tasks {s : State} {w : TaskWork} {n : Nat} :
    (w, n) ∈ s.floor.tasks ↔ ∃ t ∈ s.planner.queue, t.work = w ∧ t.slot = n := by
  simp [State.floor, Task.place]

theorem mem_bothPockets (p : Fin 2) : p ∈ bothPockets := by fin_cases p <;> simp [bothPockets]

/-- The law of one entry (R133, R135). -/
theorem State.entryOk_iff {s : State} {e : PocketEntry} : s.entryOk e = true ↔ e.shaped = true ∧
    (e.live = true → ∃ l, e.line = some l ∧ (s.openBay l).isSome = true) ∧
    (e.state = .assigned → ∃ l, e.line = some l ∧ (.pick l, e.slot) ∈ s.floor.tasks) := by
  have htask : (s.planner.queue.any fun t => decide (t.slot = e.slot) && decide (some t.work = e.line.map TaskWork.pick)) =
      true ↔ ∃ l, e.line = some l ∧ (.pick l, e.slot) ∈ s.floor.tasks := by
    simp only [List.any_eq_true, Bool.and_eq_true, decide_eq_true_eq, State.mem_tasks]
    constructor
    · rintro ⟨t, ht, hslot, hwork⟩
      obtain ⟨l, hl, hpick⟩ := Option.map_eq_some_iff.1 hwork.symm
      exact ⟨l, hl, t, ht, hpick.symm, hslot⟩
    · rintro ⟨l, hl, t, ht, hwork, hslot⟩
      exact ⟨t, ht, hslot, by rw [hl, hwork]; rfl⟩
  have hopen : (e.line.any fun l => (s.openBay l).isSome) = true ↔ ∃ l, e.line = some l ∧ (s.openBay l).isSome = true := by
    cases e.line <;> simp
  unfold State.entryOk
  rw [Bool.and_eq_true, Bool.and_eq_true, Bool.or_eq_true, Bool.or_eq_true, htask, hopen, and_assoc]
  refine and_congr_right fun _ => and_congr ?_ ?_
  · cases e.live <;> simp
  · by_cases hstate : e.state = .assigned <;> simp [hstate]

theorem State.entryIn_eq_some {s : State} {p : Fin 2} {state : EntryState} {e : PocketEntry} :
    s.entryIn p state = some e ↔ s.pocket p = .entry e ∧ e.state = state := by
  unfold State.entryIn
  cases hp : s.pocket p with
  | free | foreign => simp [Pocket.entryOf]
  | entry d =>
    by_cases hd : d.state = state
    · simp only [Pocket.entryOf, if_pos hd, Option.some.injEq, Pocket.entry.injEq]
      exact ⟨fun h => ⟨h, h ▸ hd⟩, And.left⟩
    · simp only [Pocket.entryOf, if_neg hd, Pocket.entry.injEq]
      exact ⟨fun h => (by cases h), fun ⟨h, hs⟩ => absurd (h ▸ hs) hd⟩

theorem State.waitsBehindAnchor_iff {s : State} {p : Fin 2} : s.waitsBehindAnchor p = true ↔
    ∃ e l, s.pocket p = .entry e ∧ e.live = true ∧ e.line = some l ∧ s.isAnchor l = false := by
  unfold State.waitsBehindAnchor
  cases hp : s.pocket p with
  | free | foreign => simp [Pocket.entryOf]
  | entry d => cases hl : d.line <;> simp [Pocket.entryOf, hl]

/-! ### From the statements' laws to the law of the floor -/

/-- A line with a record is one of the lines of its lane's OPEN bays, which the age list names. -/
theorem State.mem_lineRefs {s : State} (hlanes : s.lanesOk = true) {l : LineRef} {x : OrderLine} (h : s.lineAt l = some x) :
    (s.lane l.lane).synced = true ∧ l ∈ (s.lane l.lane).lineRefs l.lane := by
  obtain ⟨b, hb, hline, _⟩ := State.lineAt_bay h
  obtain ⟨hsynced, d, hd, horder⟩ := State.openBay_isSome.1 (Option.isSome_of_eq_some hb)
  have hbay : b = d := by
    unfold State.openBay at hb
    rw [if_pos hsynced, hd] at hb
    simpa [horder] using hb.symm
  subst hbay
  have hlane := (List.all_eq_true.1 hlanes) l.lane (List.mem_finRange _)
  simp only [Lane.ok, Bool.and_eq_true, List.all_eq_true] at hlane
  obtain ⟨⟨⟨⟨⟨⟨⟨_, hlisted⟩, _⟩, _⟩, _⟩, _⟩, _⟩, _⟩ := hlane
  have hmem : l.bay ∈ (s.lane l.lane).ageList := by
    have hage := of_decide_eq_true (hlisted l.bay (List.mem_finRange _))
    rw [hd] at hage
    simpa using hage
  obtain ⟨hlt, _⟩ := List.getElem?_eq_some_iff.1 hline
  refine ⟨hsynced, List.mem_flatMap.2 ⟨l.bay, hmem, ?_⟩⟩
  rw [hd]
  exact List.mem_map.2 ⟨l.line, List.mem_range.2 hlt, by rw [horder]⟩

theorem State.law_of_ok {s : State} {c : Prop} (hlanes : s.lanesOk = true) (hqueue : s.queueOk = true)
    (hpockets : s.pocketsOk = true) (hc : c → s.ownClaimsOk = true) :
    s.floor.Law c (fun _ => False) fun _ => 0 := by
  simp only [State.pocketsOk, Bool.and_eq_true, Bool.not_eq_true', Bool.and_eq_false_iff] at hpockets
  obtain ⟨⟨hentries, hanchors⟩, happart⟩ := hpockets
  have hentry : ∀ {p e}, s.floor.pocket p = .entry e → s.entryOk e = true := by
    intro p e he
    have hp := List.all_eq_true.1 hentries p (mem_bothPockets p)
    rw [show s.pocket p = .entry e from he] at hp
    exact hp
  have hslots : (s.floor.tasks.map Prod.snd).Nodup := by
    simp only [State.queueOk, Bool.and_eq_true, decide_eq_true_eq, taskSlots_eq] at hqueue
    exact hqueue.2
  have hboth : ∀ {p q d e k l}, p ≠ q → s.pocket p = .entry d → s.pocket q = .entry e → d.live = true → e.live = true →
      d.line = some k → e.line = some l → s.isAnchor k = true ∨ s.isAnchor l = true := by
    intro p q d e k l hne hp hq hd he hk hl
    by_contra hnone
    simp only [not_or, Bool.not_eq_true] at hnone
    have hwp := State.waitsBehindAnchor_iff.2 ⟨d, k, hp, hd, hk, hnone.1⟩
    have hwq := State.waitsBehindAnchor_iff.2 ⟨e, l, hq, he, hl, hnone.2⟩
    fin_cases p <;> fin_cases q <;> simp_all
  refine ⟨hslots, fun he => (State.entryOk_iff.1 (hentry he)).1, fun he hlive hl _ => ?_,
    fun he hstate => (State.entryOk_iff.1 (hentry he)).2.2 hstate,
    fun hne hp hq hd he hk hl _ _ => hboth hne hp hq hd he hk hl, fun {p q d e} hne hp hq hd he => ?_,
    fun {l own delivered} hcount _ hown => ?_, fun {l n} hcount _ hmem => ?_⟩
  · obtain ⟨k, hk, hopen⟩ := (State.entryOk_iff.1 (hentry he)).2.1 hlive
    rw [hl] at hk
    obtain rfl := Option.some.inj hk
    exact hopen
  · have hpd := State.entryIn_eq_some.2 ⟨hp, hd⟩
    have hqe := State.entryIn_eq_some.2 ⟨hq, he⟩
    fin_cases p <;> fin_cases q
    · exact absurd rfl hne
    · simp only [Fin.zero_eta, Fin.mk_one] at hpd hqe
      rw [hpd, hqe] at happart
      exact of_decide_eq_true happart
    · simp only [Fin.zero_eta, Fin.mk_one] at hpd hqe
      rw [hpd, hqe] at happart
      exact (of_decide_eq_true happart).symm
    · exact absurd rfl hne
  · obtain ⟨x, hx, hcounts⟩ := Option.map_eq_some_iff.1 hown
    obtain ⟨hsynced, hline⟩ := State.mem_lineRefs hlanes hx
    have hclaims := hc hcount
    simp only [State.ownClaimsOk, Bool.and_eq_true, List.all_eq_true] at hclaims
    have hlane := hclaims.1 l.lane (List.mem_finRange _)
    rw [hsynced] at hlane
    have hlaw := List.all_eq_true.1 (by simpa using hlane) l hline
    rw [hx] at hlaw
    have heq := of_decide_eq_true hlaw
    rw [State.picksOf_eq, State.carriedOf_eq] at heq
    obtain ⟨rfl, rfl⟩ := Prod.mk.inj hcounts
    exact ⟨by omega, by omega⟩
  · obtain ⟨t, ht, hwork, _⟩ := State.mem_tasks.1 hmem
    have hclaims := hc hcount
    simp only [State.ownClaimsOk, Bool.and_eq_true, List.all_eq_true] at hclaims
    have htask := hclaims.2 t ht
    rw [hwork] at htask
    rwa [State.floor, Option.isSome_map]

/-! ### And back -/

theorem State.pocketsOk_of_law {s : State} {c : Prop} {debt : LineRef → Int} (h : s.floor.Law c (fun _ => False) debt) :
    s.pocketsOk = true := by
  simp only [State.pocketsOk, Bool.and_eq_true, Bool.not_eq_true', Bool.and_eq_false_iff]
  refine ⟨⟨List.all_eq_true.2 fun p _ => ?_, ?_⟩, ?_⟩
  · cases hp : s.pocket p with
    | free | foreign => rfl
    | entry e =>
      refine State.entryOk_iff.2 ⟨h.shaped hp, fun hlive => ?_, h.task hp⟩
      have hline : e.line.isSome = true := by
        have hshape := h.shaped hp
        unfold PocketEntry.shaped at hshape
        unfold PocketEntry.live at hlive
        cases hl : e.line <;> cases hs : e.state <;> simp_all
      obtain ⟨l, hl⟩ := Option.isSome_iff_exists.1 hline
      exact ⟨l, hl, h.bay hp hlive hl id⟩
  · by_contra hboth
    simp only [not_or, Bool.not_eq_false] at hboth
    obtain ⟨d, k, hd, hdl, hk, hkanchor⟩ := State.waitsBehindAnchor_iff.1 hboth.1
    obtain ⟨e, l, he, hel, hl, hlanchor⟩ := State.waitsBehindAnchor_iff.1 hboth.2
    rcases h.anchored (by decide) hd he hdl hel hk hl id id with hanchor | hanchor
    · exact absurd (show s.isAnchor k = true from hanchor) (by simp [hkanchor])
    · exact absurd (show s.isAnchor l = true from hanchor) (by simp [hlanchor])
  · split
    · rename_i hp hq
      obtain ⟨hp, hpstate⟩ := State.entryIn_eq_some.1 hp
      obtain ⟨hq, hqstate⟩ := State.entryIn_eq_some.1 hq
      exact decide_eq_true (h.apart (by decide) hp hq hpstate hqstate)
    · rfl

theorem State.ownClaimsOk_of_law {s : State} {c : Prop} (h : s.floor.Law c (fun _ => False) fun _ => 0) (hc : c) :
    s.ownClaimsOk = true := by
  simp only [State.ownClaimsOk, Bool.and_eq_true, List.all_eq_true, Bool.or_eq_true]
  refine ⟨fun lane _ => .inr fun l _ => ?_, fun t ht => ?_⟩
  · cases hx : s.lineAt l with
    | none => rfl
    | some x =>
      obtain ⟨heq, _⟩ := h.account (l := l) hc id
        (show (s.lineAt l).map (fun x => (x.ownClaim, x.ownDelivered)) = some (x.ownClaim, x.ownDelivered) by rw [hx]; rfl)
      refine decide_eq_true ?_
      rw [State.picksOf_eq, State.carriedOf_eq]
      omega
  · cases hw : t.work with
    | load | restore => rfl
    | pick l =>
      have hmem : (.pick l, t.slot) ∈ s.floor.tasks := State.mem_tasks.2 ⟨t, ht, hw, rfl⟩
      simpa [State.floor] using h.line hc id hmem

end Sys2Proof.Machine
end

section
/-! SUPPORT. Which operations leave the floor alone: reports, frames, contest records, the drive, the dwell's own record and the
planner's stop choice. -/

namespace Sys2Proof.Machine

/-- The floor is that of the lanes, the pockets and the places of the tasks. -/
theorem State.floor_of {s t : State} (hlanes : t.lanes.lanes = s.lanes.lanes) (hpockets : t.lanes.pockets = s.lanes.pockets)
    (htasks : t.planner.queue.map Task.place = s.planner.queue.map Task.place) : t.floor = s.floor := by
  unfold State.floor State.lineAt State.isAnchor State.openBay State.lane State.pocket
  rw [hlanes, hpockets, htasks]

/-- A fold of operations that leave the floor alone leaves it alone. -/
theorem foldl_floor {α : Type} {f : State → α → State} (h : ∀ s x, (f s x).floor = s.floor) (xs : List α) (s : State) :
    (xs.foldl f s).floor = s.floor := by
  induction xs generalizing s with
  | nil => rfl
  | cons x rest ih => exact (ih (f s x)).trans (h s x)

/-- A conditional operation leaves the floor as `f` when both its outcomes do. -/
theorem ite_floor {c : Prop} [Decidable c] {t u : State} {f : Floor} (ht : t.floor = f) (hu : u.floor = f) :
    (if c then t else u).floor = f := by split <;> assumption

section
variable (s : State)

/-! ### Setters -/

@[simp] theorem State.setStore_floor (x : StockStore) : (s.setStore x).floor = s.floor := rfl
@[simp] theorem State.setControl_floor (x : StationControl) : (s.setControl x).floor = s.floor := rfl
@[simp] theorem State.setPort_floor (x : BusPort) : (s.setPort x).floor = s.floor := rfl
@[simp] theorem State.setDrive_floor (x : Drive) : (s.setDrive x).floor = s.floor := rfl
@[simp] theorem State.setFace_floor (x : FaceUnit) : (s.setFace x).floor = s.floor := rfl
@[simp] theorem State.setContests_floor (x : ContestEngine) : (s.setContests x).floor = s.floor := rfl
@[simp] theorem State.setAudit_floor (x : AuditUnit) : (s.setAudit x).floor = s.floor := rfl
@[simp] theorem State.setDwell_floor (d : Option Dwell) : (s.setDwell d).floor = s.floor := rfl

/-! ### Reports, frames and the dwell's record -/

@[simp] theorem State.writeReport_floor (b : ReportBody) : (s.writeReport b).floor = s.floor := ite_floor rfl rfl

@[simp] theorem State.reportShort_floor (id n : Nat) (c : ShortCause) (r : Option Receiving) :
    (s.reportShort id n c r).floor = s.floor := by unfold State.reportShort; split <;> simp

@[simp] theorem State.withdrawNth_floor (f : Frame) (n : Nat) : (s.withdrawNth f n).floor = s.floor := rfl

@[simp] theorem State.queueFrame_floor (f : Frame) : (s.queueFrame f).floor = s.floor := rfl

@[simp] theorem State.dropDue_floor (slot : Nat) : (s.dropDue slot).floor = s.floor := by
  unfold State.dropDue; split <;> rfl

@[simp] theorem State.testCompletion_floor : s.testCompletion.floor = s.floor := by
  unfold State.testCompletion
  split
  · rfl
  · exact ite_floor rfl rfl

@[simp] theorem State.addWrong_floor (slot : Nat) (b : Bool) : (s.addWrong slot b).floor = s.floor := by
  unfold State.addWrong; split <;> rfl

@[simp] theorem State.dropWrong_floor (slot : Nat) : (s.dropWrong slot).floor = s.floor := by
  unfold State.dropWrong; split <;> rfl

@[simp] theorem State.updateReceiving_floor (id : Nat) (f : Receiving → Receiving) :
    (s.updateReceiving id f).floor = s.floor := rfl

@[simp] theorem State.freeReceived_floor : s.freeReceived.floor = s.floor := rfl

@[simp] theorem State.askReceiving_floor (id n : Nat) (stamp : Timer) : (s.askReceiving id n stamp).floor = s.floor := by
  unfold State.askReceiving
  simp only
  split
  · rfl
  · exact ite_floor rfl rfl

@[simp] theorem State.reportFailed_floor (id n : Nat) : (s.reportFailed id n).floor = s.floor :=
  ite_floor rfl (s.reportShort_floor _ _ _ _)

@[simp] theorem State.writeRecord_floor (slot : Nat) (r : SlotRecord) : (s.writeRecord slot r).floor = s.floor :=
  ite_floor rfl rfl

/-! ### Contest records (R97 to R107) -/

/-- A walk whose visits leave the floor alone leaves it alone. -/
theorem State.walkRecords_floor {visit : State → Contest → State × Option Contest}
    (h : ∀ t c, (visit t c).1.floor = t.floor) : (s.walkRecords visit).floor = s.floor := by
  have hfold : ∀ (cs : List Contest) (acc : State × List Contest),
      (cs.foldl (fun acc c => ((visit acc.1 c).1, acc.2 ++ (visit acc.1 c).2.toList)) acc).1.floor = acc.1.floor := by
    intro cs
    induction cs with
    | nil => intro acc; rfl
    | cons c rest ih => intro acc; exact (ih _).trans (h acc.1 c)
  exact hfold s.contests.records (s, [])

@[simp] theorem State.withdrawBid_floor (c : Contest) : (s.withdrawBid c).floor = s.floor := ite_floor rfl rfl

@[simp] theorem State.withdrawClaim_floor (c : Contest) : (s.withdrawClaim c).floor = s.floor := ite_floor rfl rfl

@[simp] theorem State.withdrawOwn_floor (c : Contest) : (s.withdrawOwn c).floor = s.floor := by
  simp [State.withdrawOwn]

@[simp] theorem State.endRecords_floor (test : Contest → Bool) : (s.endRecords test).floor = s.floor := by
  refine s.walkRecords_floor fun t c => ?_
  unfold State.endRecord
  split_ifs <;> simp

@[simp] theorem State.freeRecords_floor (test : Contest → Bool) : (s.freeRecords test).floor = s.floor := by
  refine s.walkRecords_floor fun t c => ?_
  split <;> simp

@[simp] theorem State.discardComputation_floor (test : Ref → Bool) : (s.discardComputation test).floor = s.floor := by
  unfold State.discardComputation
  split
  · rfl
  · exact ite_floor rfl rfl

@[simp] theorem State.contestExit_floor : s.contestExit.floor = s.floor := by simp [State.contestExit]

@[simp] theorem State.claimRecord_floor (c : Contest) : (s.claimRecord c).1.floor = s.floor := by
  unfold State.claimRecord; split_ifs <;> rfl

@[simp] theorem State.decideRecord_floor (c : Contest) : (s.decideRecord c).1.floor = s.floor := by
  unfold State.decideRecord
  split
  · simp
  · split <;> simp

@[simp] theorem State.windowEnds_floor : (s.walkRecords State.windowEnd).floor = s.floor := by
  refine s.walkRecords_floor fun t c => ?_
  unfold State.windowEnd
  split_ifs <;> simp

@[simp] theorem State.secondChances_floor : s.secondChances.floor = s.floor := by
  refine s.walkRecords_floor fun t c => ?_
  unfold State.secondChance
  split_ifs <;> simp

@[simp] theorem State.outbid_floor (c : Contest) : (s.outbid c).1.floor = s.floor := by
  unfold State.outbid
  split
  case h_3 => split <;> simp
  all_goals simp

@[simp] theorem State.hearBid_floor (f : Frame) : (s.hearBid f).floor = s.floor := by
  refine ite_floor (s.walkRecords_floor fun t c => ?_) (s.walkRecords_floor fun t c => ?_)
  · unfold State.hearOwnBid
    split
    · simp only
      split <;> simp
    · rfl
  · unfold State.trackBid
    split
    · simp only
      split <;> simp
    · rfl

@[simp] theorem State.dropBid_floor (f : Frame) : (s.dropBid f).floor = s.floor := by
  refine s.walkRecords_floor fun t c => ?_
  split_ifs <;> simp

@[simp] theorem State.openRound_floor (o : RoundOpen) : (s.openRound o).floor = s.floor := s.endRecords_floor _

@[simp] theorem State.openNext_floor (ref : Ref) (round : Option Nat) (stamp : Timer) :
    (s.openNext ref round stamp).floor = s.floor := by unfold State.openNext; split <;> simp

@[simp] theorem State.takeResult_floor : s.takeResult.floor = s.floor := by
  unfold State.takeResult
  split
  · rfl
  · simp only
    split
    · rfl
    · exact ite_floor rfl rfl

@[simp] theorem State.takeInbound_floor (f : InboundFields) (stamp : Timer) : (s.takeInbound f stamp).floor = s.floor := by
  have hknown : ∀ known : Bool, (if known then s.freeOffer f.inboundId else s).floor = s.floor :=
    fun known => ite_floor (s.endRecords_floor _) rfl
  unfold State.takeInbound
  simp only
  refine ite_floor (ite_floor ?_ (hknown _)) rfl
  rw [State.openRound_floor]
  exact hknown _

@[simp] theorem State.freeClaimed_floor (c : Contest) : (s.freeClaimed c).floor = s.floor := s.withdrawBid_floor c

theorem State.applyOfferClaim_floor (id k : Nat) : (s.applyOfferClaim id k).state.floor = s.floor := by
  unfold State.applyOfferClaim; split <;> rfl

/-! ### The bus port (R157 to R168, R175) -/

@[simp] theorem State.changeContender_floor (f : TxFrame → TxFrame) : (s.changeContender f).floor = s.floor := by
  unfold State.changeContender
  split
  · rfl
  · split <;> rfl

@[simp] theorem State.failContender_floor : s.failContender.floor = s.floor := by
  have hremoved : s.removeContender.floor = s.floor := by
    unfold State.removeContender
    split <;> rfl
  unfold State.failContender
  split
  · rfl
  · exact ite_floor ((State.dropBid_floor _ _).trans hremoved) (s.changeContender_floor _)

@[simp] theorem State.recover_floor (n : Nat) : (s.recover n).floor = s.floor := ite_floor rfl rfl

@[simp] theorem State.enqueue_floor (f : Frame) : (s.enqueue f).floor = s.floor := ite_floor rfl rfl

@[simp] theorem State.queueRelinquish_floor : s.queueRelinquish.floor = s.floor := by
  unfold State.queueRelinquish
  split
  · rfl
  · exact ite_floor rfl (ite_floor rfl rfl)

@[simp] theorem State.offerReport_floor : s.offerReport.floor = s.floor := by
  refine ite_floor (ite_floor rfl ?_) rfl
  split <;> rfl

@[simp] theorem State.relinquishGone_floor : s.relinquishGone.floor = s.floor := by
  unfold State.relinquishGone
  split
  · rfl
  · exact ite_floor rfl rfl

/-! ### The drive (R22 to R40) -/

@[simp] theorem State.startHoming_floor : s.startHoming.floor = s.floor := by
  refine ite_floor ?_ rfl
  simp only
  split <;> rfl

@[simp] theorem State.holdIfTurning_floor : s.holdIfTurning.floor = s.floor := by
  refine ite_floor ?_ rfl
  split
  case h_2 => split <;> rfl
  all_goals rfl

@[simp] theorem State.tryResume_floor : s.tryResume.floor = s.floor := by
  have hresume : s.resumeMove.floor = s.floor := ite_floor rfl (ite_floor rfl rfl)
  refine ite_floor ?_ rfl
  split
  · exact hresume
  all_goals rfl

@[simp] theorem State.driveCount_floor (dir : Direction) : (s.driveCount dir).1.floor = s.floor := by
  unfold State.driveCount
  split
  case h_3 => split <;> rfl
  case h_7 => split <;> rfl
  all_goals rfl

@[simp] theorem State.driveEdge_floor (flag : Bool) : (s.driveEdge flag).1.floor = s.floor := by
  unfold State.driveEdge State.edgeKnown State.edgeHoming
  simp only
  split_ifs <;> rfl

@[simp] theorem State.supplyLevel_floor (l : SupplyLevel) (n : Nat) : (s.supplyLevel l n).floor = s.floor := by
  have hwarn : ∀ (t : State) b, (t.warnLevel b).floor = t.floor := fun t b => ite_floor rfl (ite_floor rfl rfl)
  have hcut : ∀ (t : State) b, (t.cutLevel b).floor = t.floor := by
    intro t b
    refine ite_floor rfl (ite_floor ?_ rfl)
    rw [State.holdIfTurning_floor]
    exact ite_floor rfl rfl
  refine ite_floor ?_ rfl
  unfold State.liveLevel
  split
  · exact hwarn _ _
  · exact hcut _ _

@[simp] theorem State.stopLevel_floor (b : Bool) : (s.stopLevel b).floor = s.floor :=
  ite_floor (State.holdIfTurning_floor _) (State.tryResume_floor _)

@[simp] theorem State.curtainLevel_floor (b : Bool) : (s.curtainLevel b).floor = s.floor :=
  ite_floor rfl (ite_floor (State.holdIfTurning_floor _) rfl)

@[simp] theorem State.outOfService_floor : s.outOfService.floor = s.floor := by
  unfold State.outOfService
  split
  case h_5 => exact State.contestExit_floor _
  all_goals rfl

@[simp] theorem State.homed_floor : s.homed.floor = s.floor := by
  unfold State.homed
  simp only
  split <;> rfl

/-! ### Tasks that keep their work and their slot (R44, R52) -/

/-- A change of a task that keeps its work and its slot. -/
theorem State.updateTask_floor (slot : Nat) {f : Task → Task} (hf : ∀ t, (f t).place = t.place) :
    (s.updateTask slot f).floor = s.floor :=
  State.floor_of rfl rfl (congrArg Bench.tasks (s.updateTask_bench slot hf))

@[simp] theorem State.joinDue_floor : s.joinDue.floor = s.floor := by
  unfold State.joinDue
  split
  · rfl
  · exact foldl_floor (fun t (x : Task) => t.updateTask_floor x.slot (f := Task.atFace) fun _ => rfl) _ s

@[simp] theorem State.deferDue_floor (due : List Due) : (s.deferDue due).floor = s.floor := by
  refine foldl_floor (fun t x => ?_) _ s
  have hdeferred := t.updateTask_floor x.slot (f := Task.deferred) fun _ => rfl
  exact ite_floor ((State.writeReport_floor _ _).trans hdeferred) hdeferred

@[simp] theorem State.dropMoved_floor (due : List Due) : (s.dropMoved due).floor = s.floor := by
  unfold State.dropMoved
  split
  · rfl
  · exact foldl_floor (fun t (x : Due) =>
      (State.dropDue_floor _ _).trans (t.updateTask_floor x.slot (f := Task.waits) fun _ => rfl)) _ s

/-! ### The planner, the face and the end of a step -/

@[simp] theorem State.settledAt_floor (c : Nat) : (s.settledAt c).floor = s.floor := State.joinDue_floor _

@[simp] theorem State.plan_floor (b : State) : (State.plan b s).floor = s.floor := by
  have hlanes := (State.plan_parts b s).2.2
  have htasks := congrArg Work.tasks (State.plan_work b s)
  have hplaces : ∀ q : List Task, q.map Task.place =
      (q.map fun t => (t.work, t.slot, t.created, t.deferrals)).map fun x => (x.1, x.2.1) := by
    intro q
    rw [List.map_map]
    rfl
  refine State.floor_of (by rw [hlanes]) (by rw [hlanes]) ?_
  rw [hplaces, hplaces]
  exact congrArg _ htasks

/-- After the dwell has been refreshed and tested, the end of a step leaves the floor alone. -/
theorem State.settle_floor (b : State) : (State.settle b s).floor = s.faced.floor := by
  have hsuspend : ∀ t : State, t.suspendScan.floor = t.floor := fun _ => ite_floor rfl rfl
  have hnews : ∀ t : State, (State.noteNews b t).floor = t.floor := fun _ => ite_floor rfl rfl
  have hhead : ∀ t : State, t.releaseHead.floor = t.floor := fun _ => ite_floor rfl rfl
  have hrest : ∀ t : State, t.offerRest.floor = t.floor := fun t => ite_floor rfl (by simp)
  have hlamps : ∀ t : State, (State.takeLamps b t).floor = t.floor := fun _ => rfl
  unfold State.settle
  simp only
  rw [hrest, hhead, hnews, hlamps, hsuspend, State.plan_floor]
  rfl

@[simp] theorem State.settleCycle_floor (pin : BitVec 16) : (s.settleCycle pin).floor = s.floor := by
  unfold State.settleCycle
  split
  · rfl
  · exact ite_floor rfl rfl

@[simp] theorem State.arrivalLevel_floor (b : Bool) : (s.arrivalLevel b).floor = s.floor := by
  refine ite_floor ?_ rfl
  unfold State.delivered
  split
  · rfl
  · exact State.writeReport_floor _ _

@[simp] theorem State.tick_floor : s.tick.floor = s.floor := by
  unfold State.tick
  simp only
  split
  · rfl
  · exact ite_floor rfl rfl

theorem State.weigh_floor (scan : Scan) (unknown : Bool) : (s.weigh scan unknown).1.floor = s.floor := by
  unfold State.weigh
  simp only
  split_ifs
  · rfl
  · exact State.writeReport_floor _ _
  · exact State.writeReport_floor _ _
  · rfl

@[simp] theorem State.sweepOff_floor (carrier found : Nat) : (s.sweepOff carrier found).floor = s.floor :=
  ite_floor (State.writeReport_floor _ _) rfl

end

end Sys2Proof.Machine
end

section
/-! SUPPORT. What the shared operations on lines, pockets and tasks make of the floor, and which of them keep its law
(R113, R124, R133 to R137, R140). -/

namespace Sys2Proof.Machine

/-! ### Lanes and lines -/

theorem State.lane_setLane (s : State) (i j : Fin 8) (x : Lane) : (s.setLane i x).lane j = if i = j then x else s.lane j := by
  unfold State.setLane State.lane
  simp only [State.setLanes, Fin.getElem_fin, Vector.getElem_set, Fin.ext_iff]

theorem State.openBay_eq_some {s : State} {l : LineRef} {b : OpenBay} : s.openBay l = some b ↔
    (s.lane l.lane).synced = true ∧ (s.lane l.lane).bays[l.bay] = some b ∧ b.order = l.order := by
  unfold State.openBay
  cases (s.lane l.lane).synced with
  | false => simp
  | true =>
    cases (s.lane l.lane).bays[l.bay] with
    | none => simp
    | some d =>
      by_cases hd : d.order = l.order
      · simp only [if_true, if_pos hd, Option.some.injEq, true_and]
        exact ⟨fun h => ⟨h, h ▸ hd⟩, And.left⟩
      · simp only [if_true, if_neg hd, Option.some.injEq, true_and]
        exact ⟨fun h => (by cases h), fun ⟨h, ho⟩ => absurd (h ▸ ho) hd⟩

theorem State.lineAt_eq (s : State) (l : LineRef) : s.lineAt l = (s.openBay l).bind fun b => b.lines[l.line]? := by
  unfold State.lineAt
  cases s.openBay l <;> rfl

section
variable {s : State} {l : LineRef} {b c : OpenBay} (hb : s.openBay l = some b) (hc : c.order = b.order)
include hb hc

/-- The OPEN bays where the bay of a line takes another record of its order. -/
theorem State.openBay_withBay (m : LineRef) : (s.withBay l c).openBay m =
    if m.lane = l.lane ∧ m.bay = l.bay then (s.openBay m).map fun _ => c else s.openBay m := by
  obtain ⟨hsynced, hbay, horder⟩ := State.openBay_eq_some.1 hb
  obtain ⟨lane, bay, line, order⟩ := m
  unfold State.openBay State.withBay
  simp only [State.lane_setLane]
  by_cases hlane : l.lane = lane
  · subst hlane
    by_cases hsame : bay = l.bay
    · subst hsame
      simp only [if_true, hsynced, and_self, hbay, hc, Fin.getElem_fin, Vector.getElem_set_self]
      split <;> rfl
    · have hne : l.bay.val ≠ bay.val := fun h => hsame (Fin.ext h.symm)
      simp [hsynced, hsame, Vector.getElem_set_ne, hne]
  · simp [hlane, Ne.symm hlane]

theorem State.opens_withBay (m : LineRef) : ((s.withBay l c).openBay m).isSome = (s.openBay m).isSome := by
  rw [State.openBay_withBay hb hc]
  split <;> simp

theorem State.isAnchor_withBay : (s.withBay l c).isAnchor = s.isAnchor := by
  funext m
  have hage : ((s.withBay l c).lane m.lane).ageList = (s.lane m.lane).ageList := by
    rw [State.withBay, State.lane_setLane]
    split
    · rename_i hlane
      rw [← hlane]
    · rfl
  rw [Bool.eq_iff_iff, State.isAnchor_iff, State.isAnchor_iff, hage, State.opens_withBay hb hc]

/-- Every other line keeps its record where only one line of the bay has changed. -/
theorem State.lineAt_withBay {m : LineRef} (hm : m ≠ l)
    (hlines : ∀ n, n ≠ l.line → c.lines[n]? = b.lines[n]?) : (s.withBay l c).lineAt m = s.lineAt m := by
  rw [State.lineAt_eq, State.lineAt_eq, State.openBay_withBay hb hc]
  by_cases hplace : m.lane = l.lane ∧ m.bay = l.bay
  · rw [if_pos hplace]
    cases hd : s.openBay m with
    | none => rfl
    | some d =>
      obtain ⟨_, hbay, horder⟩ := State.openBay_eq_some.1 hb
      obtain ⟨_, hdbay, hdorder⟩ := State.openBay_eq_some.1 hd
      simp only [hplace.1, hplace.2, hbay, Option.some.injEq] at hdbay
      subst hdbay
      have hline : m.line ≠ l.line := by
        intro hline
        refine hm ?_
        obtain ⟨lane, bay, line, order⟩ := m
        obtain ⟨lane', bay', line', order'⟩ := l
        simp_all
      exact hlines _ hline
  · rw [if_neg hplace]

end

/-- A change of a line is a change of what this station has claimed and delivered of it. -/
theorem State.updateLine_floor (s : State) (l : LineRef) (f : OrderLine → OrderLine) :
    (s.updateLine l f).floor = { s.floor with
      own := Function.update s.floor.own l ((s.lineAt l).map fun x => ((f x).ownClaim, (f x).ownDelivered)) } := by
  cases hx : s.lineAt l with
  | none =>
    have hown : s.floor.own l = none := by simp [State.floor, hx]
    rw [State.updateLine_unknown hx, Option.map_none, ← hown, Function.update_eq_self]
  | some x =>
    obtain ⟨b, hb, _, hupdate⟩ := State.lineAt_bay hx
    have hown : (fun m => ((s.updateLine l f).lineAt m).map fun x => (x.ownClaim, x.ownDelivered)) =
        Function.update s.floor.own l (some ((f x).ownClaim, (f x).ownDelivered)) := by
      funext m
      by_cases hm : m = l
      · subst hm
        simp [State.lineAt_updateLine hx]
      · rw [Function.update_of_ne hm, hupdate,
          State.lineAt_withBay (c := { b with lines := b.lines.set l.line (f x) }) hb rfl hm
            fun n hn => List.getElem?_set_ne (Ne.symm hn)]
        rfl
    rw [hupdate] at hown ⊢
    unfold State.floor at hown ⊢
    rw [hown]
    simp only [Option.map_some, Floor.mk.injEq, true_and]
    exact ⟨funext (State.opens_withBay hb rfl), State.isAnchor_withBay hb rfl, rfl, rfl⟩

/-- A change of a line that leaves what this station has claimed and delivered. -/
theorem State.updateLine_floor_same (s : State) (l : LineRef) {f : OrderLine → OrderLine}
    (hf : ∀ x, (f x).ownClaim = x.ownClaim ∧ (f x).ownDelivered = x.ownDelivered) :
    (s.updateLine l f).floor = s.floor := by
  have hsame : ((s.lineAt l).map fun x => ((f x).ownClaim, (f x).ownDelivered)) = s.floor.own l := by
    unfold State.floor
    simp only [(hf _).1, (hf _).2]
  rw [State.updateLine_floor, hsame, Function.update_eq_self]

end Sys2Proof.Machine
end

section
/-! SUPPORT. What the shared operations on pockets and tasks make of the floor (R43, R134, R135), and which changes of a pocket
entry keep its law (R126, R127, R133, R136 to R140). -/

namespace Sys2Proof.Machine

/-! ### Operations that keep the law -/

/-- Every law of the floor of one state is a law of the other's. -/
def State.Keeps (s t : State) : Prop :=
  ∀ ⦃c : Prop⦄ ⦃gone : LineRef → Prop⦄ ⦃debt : LineRef → Int⦄, s.floor.Law c gone debt → t.floor.Law c gone debt

theorem State.Keeps.of_floor {s t : State} (h : t.floor = s.floor) : s.Keeps t := fun _ _ _ hs => h ▸ hs

theorem State.Keeps.refl (s : State) : s.Keeps s := .of_floor rfl

theorem State.Keeps.trans {s t u : State} (h : s.Keeps t) (g : t.Keeps u) : s.Keeps u := fun _ _ _ hs => g (h hs)

/-- What leaves the floor alone may follow. -/
theorem State.Keeps.floor {s t u : State} (h : s.Keeps t) (g : u.floor = t.floor) : s.Keeps u := h.trans (.of_floor g)

theorem State.Keeps.ite {c : Prop} [Decidable c] {s t u : State} (ht : s.Keeps t) (hu : s.Keeps u) :
    s.Keeps (if c then t else u) := by split <;> assumption

theorem foldl_keeps {α : Type} {f : State → α → State} (h : ∀ (s : State) (x : α), s.Keeps (f s x)) (xs : List α) (s : State) :
    s.Keeps (xs.foldl f s) := by
  induction xs generalizing s with
  | nil => exact .refl s
  | cons x rest ih => exact (h s x).trans (ih (f s x))

/-! ### Pockets -/

theorem State.setPocket_floor (s : State) (p : Fin 2) (x : Pocket) :
    (s.setPocket p x).floor = { s.floor with pocket := Function.update s.floor.pocket p x } := by
  have hpocket : (s.setPocket p x).pocket = Function.update s.pocket p x := by
    funext q
    rw [State.pocket_setPocket]
    by_cases hq : p = q
    · subst hq
      rw [if_pos rfl, Function.update_self]
    · rw [if_neg hq, Function.update_of_ne (Ne.symm hq)]
  unfold State.floor
  rw [hpocket]
  rfl

/-- A pocket takes another content that holds a tyre of the same lines. -/
theorem State.setPocket_keeps {s : State} {p : Fin 2} {x : Pocket}
    (hx : (∀ e, s.pocket p = .entry e → e.shaped = true) → x.Follows (s.pocket p))
    (hcarries : ∀ l, x.carries l = (s.pocket p).carries l) : s.Keeps (s.setPocket p x) := by
  intro c gone debt h
  rw [State.setPocket_floor]
  exact h.setLike (hx fun _ => h.shaped) fun l _ => hcarries l

/-- A pocket without a tyre of a line, ASSIGNED or with a RESTORE entry, is freed. -/
theorem State.setFree_keeps {s : State} {p : Fin 2} (h : ∀ l, (s.pocket p).carries l = false) :
    s.Keeps (s.setPocket p .free) := State.setPocket_keeps (fun _ => Pocket.free_follows _) fun l => (h l).symm

theorem State.becomeForeign_keeps {s : State} {p : Fin 2} (h : ∀ l, (s.pocket p).carries l = false) :
    s.Keeps (s.becomeForeign p) :=
  (State.setPocket_keeps (fun _ => Pocket.foreign_follows _) fun l => (h l).symm).floor (State.writeReport_floor _ _)

theorem PocketEntry.carries_assigned {e : PocketEntry} (h : e.state = .assigned) (l : LineRef) :
    (Pocket.entry e).carries l = false := by simp [Pocket.carries, Pocket.entryOf, h]

theorem PocketEntry.carries_restore {e : PocketEntry} (h : e.state = .restore) (l : LineRef) :
    (Pocket.entry e).carries l = false := by simp [Pocket.carries, Pocket.entryOf, h]

/-- A tyre in or on its way to a pocket counts for its line (R124). -/
theorem PocketEntry.carries_iff {e : PocketEntry} (ha : e.state ≠ .assigned) (hr : e.state ≠ .restore) (l : LineRef) :
    (Pocket.entry e).carries l = decide (e.line = some l) := by simp [Pocket.carries, Pocket.entryOf, ha, hr]

theorem PocketEntry.shaped_iff {e : PocketEntry} : e.shaped = true ↔
    (e.line.isSome = true ↔ e.state ≠ .restore) ∧
    (e.grantedAt.isSome = true ↔ e.state = .granted ∨ e.state = .jammed) ∧
    (e.intent = .none ∨ e.state = .carried ∨ e.state = .loaded) := by
  unfold PocketEntry.shaped
  rw [Bool.and_eq_true, Bool.and_eq_true, decide_eq_true_eq, decide_eq_true_eq,
    Bool.eq_iff_iff (b := decide _), Bool.eq_iff_iff (a := e.grantedAt.isSome)]
  simp only [Bool.or_eq_true, decide_eq_true_eq, or_assoc, and_assoc]

theorem PocketEntry.live_iff {e : PocketEntry} :
    e.live = true ↔ e.state = .assigned ∨ e.state = .carried ∨ e.state = .loaded := by
  simp [PocketEntry.live, or_assoc]

/-- An entry with an INTENT is CARRIED or LOADED. -/
theorem PocketEntry.state_of_intent {e : PocketEntry} (h : e.shaped = true) (hi : e.intent ≠ .none) :
    e.state = .carried ∨ e.state = .loaded := (PocketEntry.shaped_iff.1 h).2.2.resolve_left hi

/-- An entry of a tyre that is in its pocket or on its way goes on to such a state with its line. -/
theorem State.setEntry_keeps {s : State} {p : Fin 2} {d e : PocketEntry} (hp : s.pocket p = .entry d)
    (hd : d.shaped = true → d.state ≠ .assigned ∧ d.state ≠ .restore) (he : e.state ≠ .assigned ∧ e.state ≠ .restore)
    (hline : e.line = d.line) (hshaped : d.shaped = true → e.shaped = true)
    (hlive : d.shaped = true → e.live = true → d.live = true) : s.Keeps (s.setEntry p e) := by
  intro c gone debt h
  have hshape := h.shaped (show s.floor.pocket p = .entry d from hp)
  obtain ⟨hda, hdr⟩ := hd hshape
  refine State.setPocket_keeps (fun _ => ?_) (fun l => ?_) h
  · rw [hp]
    exact Pocket.entry_follows (hshaped hshape) he.1 fun hl => ⟨hlive hshape hl, hline.symm⟩
  · rw [hp, PocketEntry.carries_iff he.1 he.2, PocketEntry.carries_iff hda hdr, hline]

/-- The INTENT of an entry changes, which is CARRIED or LOADED where an INTENT is left. -/
theorem State.setIntent_keeps {s : State} {p : Fin 2} {e : PocketEntry} {i : IntentStatus} {n : Nat}
    (hp : s.pocket p = .entry e) (hi : e.shaped = true → e.state = .carried ∨ e.state = .loaded) :
    s.Keeps (s.setEntry p { e with intent := i, number := n }) := by
  intro c gone debt h
  have hstate := hi (h.shaped (show s.floor.pocket p = .entry e from hp))
  have hne : e.state ≠ .assigned ∧ e.state ≠ .restore := by rcases hstate with hs | hs <;> simp [hs]
  refine State.setEntry_keeps (e := { e with intent := i, number := n }) hp (fun _ => hne) hne rfl (fun hshape => ?_)
    (fun _ hl => hl) h
  obtain ⟨hline, hgranted, _⟩ := PocketEntry.shaped_iff.1 hshape
  exact PocketEntry.shaped_iff.2 ⟨hline, hgranted, .inr hstate⟩

theorem State.withdrawIntent_keeps (s : State) (p : Fin 2) : s.Keeps (s.withdrawIntent p) := by
  unfold State.withdrawIntent
  split
  · exact .refl s
  · exact .refl s
  · rename_i e hp
    split
    · exact .refl s
    · split
      · rename_i hqueued
        exact State.Keeps.trans (.of_floor (s.withdrawNth_floor _ _)) (State.setIntent_keeps (s := s.withdrawNth _ _)
          (n := e.number) hp fun hshape => PocketEntry.state_of_intent hshape (by simp [hqueued]))
      · exact .refl s

theorem State.intentWaiting_entry {s : State} {p : Fin 2} {e : PocketEntry} (hp : s.pocket p = .entry e)
    (h : s.intentWaiting p = true) : e.state = .loaded := by
  unfold State.intentWaiting at h
  rw [hp] at h
  simp only [Bool.and_eq_true, decide_eq_true_eq] at h
  exact h.1.1.1

theorem State.queueIntent_keeps (s : State) (p : Fin 2) : s.Keeps (s.queueIntent p) := by
  unfold State.queueIntent
  split
  · exact .refl s
  · exact .refl s
  · rename_i e hp
    split
    · exact .refl s
    · split
      · rename_i hwaits
        refine State.Keeps.floor (State.Keeps.trans (.of_floor (s.queueFrame_floor _)) (State.setIntent_keeps
          (s := s.queueFrame _) (i := .queued) (n := s.lanes.intentCount) hp
          fun _ => .inr (State.intentWaiting_entry hp hwaits.1))) (State.floor_of rfl rfl rfl)
      · exact .refl s

theorem State.loadEntry_keeps {s : State} {p : Fin 2} {e : PocketEntry} (hp : s.pocket p = .entry e)
    (hstate : e.state = .carried) : s.Keeps (s.loadEntry p e) := by
  refine State.Keeps.trans (State.setEntry_keeps (e := { e with state := .loaded }) hp (fun _ => by simp [hstate]) (by simp) rfl
    (fun hshape => ?_) fun _ _ => PocketEntry.live_iff.2 (.inr (.inl hstate))) (State.queueIntent_keeps _ p)
  obtain ⟨hline, hgranted, hintent⟩ := PocketEntry.shaped_iff.1 hshape
  exact PocketEntry.shaped_iff.2 ⟨by simpa [hstate] using hline, by simpa [hstate] using hgranted, .inr (.inr rfl)⟩

theorem State.jamPocket_keeps (s : State) (p : Fin 2) : s.Keeps (s.jamPocket p) := by
  unfold State.jamPocket
  split
  · rename_i hdue
    cases hg : s.entryIn p .granted with
    | none => simp [State.jamDue, hg] at hdue
    | some e =>
      obtain ⟨hp, hstate⟩ := State.entryIn_eq_some.1 hg
      rw [hp]
      refine State.setEntry_keeps hp (fun _ => by simp [hstate]) (by simp) rfl (fun hshape => ?_)
        fun _ hlive => by simp [PocketEntry.live] at hlive
      obtain ⟨hline, hgranted, hintent⟩ := PocketEntry.shaped_iff.1 hshape
      exact PocketEntry.shaped_iff.2
        ⟨by simpa [hstate] using hline, by simpa [hstate] using hgranted, by simpa [hstate] using hintent⟩
  · exact .refl s

/-- An entry found by its line and INTENT stands in its pocket. -/
theorem State.pocket_of_entriesWith {s : State} {line : LineRef} {status : IntentStatus} {p : Fin 2} {e : PocketEntry}
    {rest : List (Fin 2 × PocketEntry)} (h : s.entriesWith line status = (p, e) :: rest) :
    s.pocket p = .entry e ∧ e.line = some line ∧ e.intent = status := by
  have hmem : (p, e) ∈ s.entriesWith line status := h ▸ List.mem_cons_self ..
  obtain ⟨q, _, hq⟩ := List.mem_filterMap.1 (mem_sortBy hmem)
  split at hq
  · cases hq
  · rename_i d hd
    split at hq
    · rename_i hmatch
      cases hq
      exact ⟨Pocket.entryOf_eq_some.1 hd, hmatch⟩
    · cases hq

theorem State.intentStarted_keeps (s : State) (line : LineRef) : s.Keeps (s.intentStarted line) := by
  unfold State.intentStarted
  split
  · exact .refl s
  · rename_i p e rest hfound
    obtain ⟨hp, _, hintent⟩ := State.pocket_of_entriesWith hfound
    exact State.setIntent_keeps (n := e.number) hp fun hshape =>
      PocketEntry.state_of_intent hshape (by simp [hintent])

theorem State.tellStarted_keeps (s : State) (f : Frame) : s.Keeps (s.tellStarted f) := by
  unfold State.tellStarted
  simp only [State.walkRecords_onBus]
  have htold : s.Keeps (s.recordsTold f) := .of_floor rfl
  split
  · exact htold.trans (State.intentStarted_keeps _ _)
  · exact htold

theorem State.contend_keeps (s : State) (rival : Option Key) : s.Keeps (s.contend rival) := by
  unfold State.contend
  split
  · exact .refl s
  · exact .ite (.refl s) (.ite (.refl s)
      ((State.Keeps.of_floor (s.changeContender_floor _)).trans (State.tellStarted_keeps _ _)))

theorem State.dropIntents_keeps (s : State) : s.Keeps s.dropIntents := by
  refine foldl_keeps (fun (t : State) (p : Fin 2) => ?_) _ s
  split
  · exact .refl t
  · rename_i e hp
    split
    · rename_i hintent
      exact State.setIntent_keeps (n := e.number) (Pocket.entryOf_eq_some.1 hp) fun hshape =>
        PocketEntry.state_of_intent hshape (by rcases hintent with hi | hi <;> simp [hi])
    · exact .refl t

theorem State.resendRefused_keeps (s : State) (lane : Fin 8) : s.Keeps (s.resendRefused lane) := by
  refine foldl_keeps (fun (t : State) (p : Fin 2) => ?_) _ s
  split
  · exact .refl t
  · rename_i e hp
    split
    · exact .refl t
    · split
      · rename_i hrefused
        exact State.Keeps.trans (State.setIntent_keeps (n := e.number) (Pocket.entryOf_eq_some.1 hp) fun hshape =>
          PocketEntry.state_of_intent hshape (by simp [hrefused.1])) (State.queueIntent_keeps _ p)
      · exact .refl t

theorem State.refuseEntry_keeps {s : State} {p : Fin 2} {e : PocketEntry} (hp : s.pocket p = .entry e)
    (hintent : e.intent ≠ .none) : s.Keeps (s.refuseEntry p e) :=
  State.setIntent_keeps (n := e.number) hp fun hshape => PocketEntry.state_of_intent hshape hintent

theorem State.freeRestore_keeps (s : State) (p : Fin 2) : s.Keeps (s.freeRestore p) := by
  unfold State.freeRestore
  split
  · exact .refl s
  · rename_i e he
    obtain ⟨hp, hstate⟩ := State.entryIn_eq_some.1 he
    have hnone : ∀ l, (s.pocket p).carries l = false := fun l => by rw [hp, PocketEntry.carries_restore hstate]
    exact .ite (State.becomeForeign_keeps hnone) (State.setFree_keeps hnone)

/-- The ASSIGNED pocket of a slot. -/
theorem State.pocket_of_assignedPocket {s : State} {slot : Nat} {p : Fin 2} (h : s.assignedPocket slot = some p) :
    ∃ e, s.pocket p = .entry e ∧ e.state = .assigned ∧ e.slot = slot := by
  have htest := List.find?_some h
  cases hp : s.pocket p with
  | entry e =>
    simp only [hp, Bool.and_eq_true, decide_eq_true_eq] at htest
    exact ⟨e, rfl, htest⟩
  | free | foreign => simp [hp] at htest

theorem State.freeAssigned_keeps (s : State) (slot : Nat) : s.Keeps (s.freeAssigned slot) := by
  unfold State.freeAssigned
  split
  · exact .refl s
  · rename_i p hp
    obtain ⟨e, he, hstate, _⟩ := State.pocket_of_assignedPocket hp
    exact State.setFree_keeps fun l => by rw [he, PocketEntry.carries_assigned hstate]

/-! ### Asking for a due task (R66, R134) -/

/-- The entry of a pocket set aside for a pick. -/
def PocketEntry.pickOf (slot : Nat) (l : LineRef) : PocketEntry :=
  { state := .assigned, slot := slot, line := some l, intent := .none, grantedAt := none, number := 0 }

/-- A free pocket is set aside for a pick, which no pocket is yet, of an anchor or while both pockets are free. -/
theorem Floor.Law.assign {f : Floor} {c : Prop} {gone : LineRef → Prop} {debt : LineRef → Int} (h : f.Law c gone debt)
    {p : Fin 2} {slot : Nat} {l : LineRef} (hp : f.pocket p = .free) (hopens : f.opens l = true)
    (hanchor : f.anchor l = true ∨ ∀ q, f.pocket q = .free) (htask : (.pick l, slot) ∈ f.tasks)
    (hnew : ∀ q e, f.pocket q = .entry e → e.state = .assigned → e.slot ≠ slot) :
    ({ f with pocket := Function.update f.pocket p (.entry (.pickOf slot l)) } : Floor).Law c gone debt := by
  have hcases : ∀ {q e}, Function.update f.pocket p (.entry (.pickOf slot l)) q = .entry e →
      (q = p ∧ e = .pickOf slot l) ∨ f.pocket q = .entry e := by
    intro q e he
    by_cases hq : q = p
    · subst hq
      rw [Function.update_self] at he
      exact .inl ⟨rfl, (Pocket.entry.inj he).symm⟩
    · rw [Function.update_of_ne hq] at he
      exact .inr he
  have hother : ∀ {q e} {b : Prop}, f.pocket q = .entry e → f.anchor l = true ∨ b := by
    intro q e b he
    refine .inl (hanchor.resolve_right fun hfree => ?_)
    rw [hfree q] at he
    cases he
  refine ⟨h.slots, fun he => ?_, fun he hlive hk hgone => ?_, fun he hstate => ?_,
    fun hne hq hr hd he hk hm hgk hgm => ?_, fun hne hq hr hd he => ?_, fun {k own done} hc hgone hown => ?_, h.line⟩
  · obtain ⟨_, rfl⟩ | he := hcases he
    · rfl
    · exact h.shaped he
  · obtain ⟨_, rfl⟩ | he := hcases he
    · obtain rfl := Option.some.inj hk
      exact hopens
    · exact h.bay he hlive hk hgone
  · obtain ⟨_, rfl⟩ | he := hcases he
    · exact ⟨l, rfl, htask⟩
    · exact h.task he hstate
  · obtain ⟨rfl, rfl⟩ | hq := hcases hq
    · obtain rfl := Option.some.inj hk
      obtain ⟨rfl, _⟩ | hr := hcases hr
      · exact absurd rfl hne
      · exact hother hr
    · obtain ⟨_, rfl⟩ | hr := hcases hr
      · obtain rfl := Option.some.inj hm
        exact (hother hq).symm
      · exact h.anchored hne hq hr hd he hk hm hgk hgm
  · obtain ⟨rfl, rfl⟩ | hq := hcases hq
    · obtain ⟨rfl, _⟩ | hr := hcases hr
      · exact absurd rfl hne
      · exact (hnew _ _ hr he).symm
    · obtain ⟨_, rfl⟩ | hr := hcases hr
      · exact hnew _ _ hq hd
      · exact h.apart hne hq hr hd he
  · have hcount := carriedCount_update f.pocket p (.entry (.pickOf slot l)) k
    rw [hp, PocketEntry.carries_assigned rfl] at hcount
    obtain ⟨haccount, howed⟩ := h.account hc hgone hown
    have hfree : (Pocket.free.carries k).toNat = 0 := rfl
    exact ⟨by dsimp only [Bool.toNat_false] at *; omega, howed⟩

/-- The pocket rule sets a free pocket aside, of the anchor or while both pockets are free (R134). -/
theorem State.assignPocket_keeps {s : State} {p : Fin 2} {slot : Nat} {l : LineRef} {t : Task}
    (ht : s.taskOn slot = some t) (hw : t.work = .pick l) (hfree : (s.assignedPocket slot).isSome = false)
    (hp : s.pocketFor l = some p) : s.Keeps (s.assignPocket p slot l) := by
  intro c gone debt h
  have hrule : s.pocketRule l = true := by
    by_contra hno
    rw [State.pocketFor_eq_none.2 (Bool.eq_false_iff.2 hno)] at hp
    cases hp
  obtain ⟨hopens, hpockets⟩ := Bool.and_eq_true_iff.1 hrule
  have hset : s.assignPocket p slot l = s.setPocket p (.entry (.pickOf slot l)) := rfl
  rw [hset, State.setPocket_floor]
  refine h.assign (Pocket.isFree_iff.1 (s.pocketFor_free l p hp)) hopens ?_
    (State.mem_tasks.2 ⟨t, List.mem_of_find?_eq_some ht, hw, by simpa using List.find?_some ht⟩)
    fun q e he hstate hslot => ?_
  · by_cases ha : s.isAnchor l = true
    · exact .inl ha
    · rw [if_neg ha, Bool.and_eq_true, Pocket.isFree_iff, Pocket.isFree_iff] at hpockets
      exact .inr fun q => by fin_cases q; exacts [hpockets.1, hpockets.2]
  · rw [State.assignedPocket_isSome.2 ⟨q, e, he, hstate, hslot⟩] at hfree
    cases hfree

theorem State.lightOne_keeps (s : State) (d : Due) : s.Keeps (s.lightOne d).1 := by
  obtain hsame | ⟨t, l, p, ht, hw, hfree, hp, hgiven⟩ := s.lightOne_cases d
  · rw [hsame]
    exact .refl s
  · rw [hgiven]
    exact State.assignPocket_keeps ht hw hfree hp

theorem State.lightAll_keeps (s : State) (due : List Due) : s.Keeps (s.lightAll due).1 := by
  induction due using List.reverseRecOn with
  | nil => exact .refl s
  | append_singleton xs x ih => rw [State.lightAll_append]; exact ih.trans (State.lightOne_keeps _ x)

theorem State.refreshDwell_keeps (s : State) : s.Keeps s.refreshDwell := by
  have hlight : ∀ t : State, t.Keeps t.lightDue := by
    intro t
    unfold State.lightDue
    split
    · exact .refl t
    · exact .ite ((t.lightAll_keeps _).floor rfl) (.refl t)
  exact (State.Keeps.of_floor s.joinDue_floor).trans (hlight _)

end Sys2Proof.Machine
end

section
/-! SUPPORT. Tasks that leave the queue, and reads and requests (R5, R6, R11, R42, R43, R56, R57): what they make of the floor,
and that reads and requests keep its law. -/

namespace Sys2Proof.Machine

/-! ### The queue (R42, R43) -/

theorem State.slots_nodup {s : State} : (s.floor.tasks.map Prod.snd).Nodup ↔ (s.planner.queue.map Task.slot).Nodup := by
  rw [State.floor, List.map_map]
  rfl

/-- With the tasks on different slots, the first task on a slot is the only one. -/
theorem mem_removeFirst_slot {queue : List Task} (h : (queue.map Task.slot).Nodup) {slot : Nat} {t : Task} :
    t ∈ removeFirst (fun t => decide (t.slot = slot)) queue ↔ t ∈ queue ∧ t.slot ≠ slot := by
  induction queue with
  | nil => simp [removeFirst]
  | cons x rest ih =>
    obtain ⟨hx, hrest⟩ := List.nodup_cons.1 h
    have hne : ∀ y ∈ rest, y.slot ≠ x.slot := fun y hy hslot => hx (hslot ▸ List.mem_map_of_mem hy)
    by_cases hslot : x.slot = slot
    · subst hslot
      rw [removeFirst, if_pos (decide_eq_true rfl)]
      constructor
      · exact fun ht => ⟨List.mem_cons_of_mem _ ht, hne t ht⟩
      · rintro ⟨ht, hts⟩
        exact (List.mem_cons.1 ht).resolve_left (by rintro rfl; exact hts rfl)
    · rw [removeFirst, if_neg (by simpa using hslot), List.mem_cons, List.mem_cons, ih hrest]
      constructor
      · rintro (rfl | ⟨ht, hts⟩)
        · exact ⟨.inl rfl, hslot⟩
        · exact ⟨.inr ht, hts⟩
      · rintro ⟨rfl | ht, hts⟩
        · exact .inl rfl
        · exact .inr ⟨ht, hts⟩

theorem State.mem_of_taskOn {s : State} {slot : Nat} {t : Task} (h : s.taskOn slot = some t) :
    (t.work, slot) ∈ s.floor.tasks :=
  State.mem_tasks.2 ⟨t, List.mem_of_find?_eq_some h, rfl, by simpa using List.find?_some h⟩

theorem State.taskOn_none {s : State} {slot : Nat} : s.taskOn slot = none ↔ slot ∉ s.floor.tasks.map Prod.snd :=
  State.taskOn_eq_none

theorem State.addTask_floor (s : State) (w : TaskWork) (slot : Nat) :
    (s.addTask w slot).floor = { s.floor with tasks := s.floor.tasks ++ [(w, slot)] } := by
  have htasks : (s.addTask w slot).planner.queue.map Task.place = s.planner.queue.map Task.place ++ [(w, slot)] :=
    List.map_append
  unfold State.floor
  rw [htasks]
  rfl

/-- Tasks of the same lanes and pockets: those of PICK stay but for the slots of `P`. -/
structure State.Retasks (s t : State) (P : Nat → Prop) : Prop where
  floor : t.floor = { s.floor with tasks := t.floor.tasks }
  slots : (t.floor.tasks.map Prod.snd).Nodup
  picks : ∀ l n, (.pick l, n) ∈ t.floor.tasks ↔ (.pick l, n) ∈ s.floor.tasks ∧ ¬P n

/-- A task on a slot without one, not a PICK. -/
theorem State.Retasks.addTask {s t : State} {P : Nat → Prop} (h : s.Retasks t P) {w : TaskWork} {slot : Nat}
    (hnew : t.taskOn slot = none) (hw : ∀ l, w ≠ .pick l) : s.Retasks (t.addTask w slot) P where
  floor := by rw [State.addTask_floor, h.floor]
  slots := by
    rw [State.addTask_floor, List.map_append]
    exact h.slots.append (List.nodup_singleton _) (List.disjoint_singleton.2 (State.taskOn_none.1 hnew))
  picks l n := by
    have hne : (TaskWork.pick l, n) ≠ (w, slot) := fun he => hw l (congrArg Prod.fst he).symm
    rw [State.addTask_floor]
    simp [hne, h.picks]

theorem State.taskOn_of_fits {s : State} {w : TaskWork} {slot : Nat} (h : s.taskFits w slot = true) :
    s.taskOn slot = none := by
  simp only [State.taskFits, Bool.and_eq_true, Option.isNone_iff_eq_none] at h
  exact h.1.1

theorem State.Retasks.requestRestore {s t : State} {P : Nat → Prop} (h : s.Retasks t P) (p : Fin 2) :
    s.Retasks (t.requestRestore p) P := by
  unfold State.requestRestore
  split
  · exact h
  · split
    · rename_i hfits
      exact h.addTask (State.taskOn_of_fits hfits) (by simp)
    · exact h

theorem State.Retasks.refl {s : State} (h : (s.floor.tasks.map Prod.snd).Nodup) : s.Retasks s fun _ => False :=
  ⟨rfl, h, fun _ _ => by simp⟩

/-- The task on a slot leaves the queue (R42). -/
theorem State.dropTask_retasks {s : State} (h : (s.floor.tasks.map Prod.snd).Nodup) (slot : Nat) :
    s.Retasks (s.dropTask slot) (· = slot) := by
  unfold State.dropTask
  split
  · have hqueue : s.Retasks (s.setQueue (removeFirst (fun t => decide (t.slot = slot)) s.planner.queue)) (· = slot) := by
      refine ⟨rfl, State.slots_nodup.2 ?_, fun l n => ?_⟩
      · exact (State.slots_nodup.1 h).sublist ((removeFirst_sublist _ _).map _)
      · simp only [State.mem_tasks, State.setQueue, State.setPlanner_planner, mem_removeFirst_slot (State.slots_nodup.1 h)]
        constructor
        · rintro ⟨t, ⟨ht, hne⟩, hw, rfl⟩
          exact ⟨⟨t, ht, hw, rfl⟩, hne⟩
        · rintro ⟨⟨t, ht, hw, rfl⟩, hne⟩
          exact ⟨t, ⟨ht, hne⟩, hw, rfl⟩
    exact (hqueue.requestRestore 0).requestRestore 1
  · rename_i hnone
    refine ⟨rfl, h, fun l n => ⟨fun hmem => ⟨hmem, ?_⟩, And.left⟩⟩
    rintro rfl
    exact State.taskOn_none.1 (by simpa using hnone) (List.mem_map_of_mem hmem)

theorem State.Retasks.law {s t : State} {P : Nat → Prop} (h : s.Retasks t P) {c : Prop} {gone : LineRef → Prop}
    {debt : LineRef → Int} (hs : s.floor.Law c gone debt) (hP : ∀ l n, (.pick l, n) ∈ s.floor.tasks → ¬P n) :
    t.floor.Law c gone debt := by
  rw [h.floor]
  exact hs.retask h.slots fun l n => (h.picks l n).trans (and_iff_left_of_imp (hP l n))

theorem State.requestRestore_keeps (s : State) (p : Fin 2) : s.Keeps (s.requestRestore p) := fun _ _ _ h =>
  ((State.Retasks.refl h.slots).requestRestore p).law h fun _ _ _ => id

/-! ### A task that ends (R56, R57) -/

/-- The debt that tasks which have left the queue make. -/
def Floor.owed (f g : Floor) (debt : LineRef → Int) (l : LineRef) : Int :=
  debt l + pickCount f.tasks l - pickCount g.tasks l

/-- The ASSIGNED entry of a slot is freed; no other pocket changes. -/
theorem State.pocket_freeAssigned (s : State) (slot : Nat) (q : Fin 2) :
    (s.freeAssigned slot).pocket q = s.pocket q ∨
      ((s.freeAssigned slot).pocket q = .free ∧ ∃ e, s.pocket q = .entry e ∧ e.state = .assigned ∧ e.slot = slot) := by
  unfold State.freeAssigned
  split
  · exact .inl rfl
  · rename_i p hp
    rw [State.pocket_setPocket]
    split
    · rename_i hq
      subst hq
      exact .inr ⟨rfl, State.pocket_of_assignedPocket hp⟩
    · exact .inl rfl

/-- Where no two pockets are ASSIGNED to one slot, none is once it has been freed. -/
theorem State.freeAssigned_slot {s : State} {slot : Nat} {q : Fin 2} {e : PocketEntry}
    (hunique : ∀ {p q : Fin 2} {d e : PocketEntry}, s.pocket p = .entry d → s.pocket q = .entry e →
      d.state = .assigned → e.state = .assigned → d.slot = e.slot → p = q)
    (he : (s.freeAssigned slot).pocket q = .entry e) (hstate : e.state = .assigned) : e.slot ≠ slot := by
  intro hslot
  obtain hsame | ⟨hfree, _⟩ := s.pocket_freeAssigned slot q
  · rw [hsame] at he
    obtain ⟨p, hp⟩ := Option.isSome_iff_exists.1 (State.assignedPocket_isSome.2 ⟨q, e, he, hstate, hslot⟩)
    obtain ⟨d, hd, hdstate, hdslot⟩ := State.pocket_of_assignedPocket hp
    obtain rfl := hunique hd he hdstate hstate (hdslot.trans hslot.symm)
    have hgone : (s.freeAssigned slot).pocket p = .free := by
      unfold State.freeAssigned
      rw [hp]
      simp only
      rw [State.pocket_setPocket, if_pos rfl]
    rw [hsame, he] at hgone
    cases hgone
  · rw [hfree] at he
    cases he

section
variable {s : State} {c : Prop} {gone : LineRef → Prop} {debt : LineRef → Int}

/-- A task taken out of the queue and the due tasks, with its ASSIGNED entry. -/
theorem State.removeTask_floor (s : State) (slot : Nat) : (s.removeTask slot).floor =
    { (s.dropTask slot).floor with pocket := ((s.dropTask slot).freeAssigned slot).pocket } := by
  have hfreed : ∀ t : State, (t.freeAssigned slot).floor = { t.floor with pocket := (t.freeAssigned slot).pocket } := by
    intro t
    unfold State.freeAssigned
    split
    · rfl
    · rw [State.setPocket_floor]
      exact congrArg (fun f : Floor => { t.floor with pocket := f.pocket }) (State.setPocket_floor t _ _).symm
  have hdue : (s.dropTask slot).dropDue slot = s.dropTask slot ∨
      ∃ d, (s.dropTask slot).dropDue slot = (s.dropTask slot).setDwell d := by
    unfold State.dropDue
    split
    · exact .inl rfl
    · exact .inr ⟨_, rfl⟩
  unfold State.removeTask
  obtain hnone | ⟨d, hsome⟩ := hdue
  · rw [hnone, hfreed]
  · rw [hsome, hfreed, State.setDwell_floor]
    have hpocket : (((s.dropTask slot).setDwell d).freeAssigned slot).pocket =
        ((s.dropTask slot).freeAssigned slot).pocket := by
      have hassigned : ((s.dropTask slot).setDwell d).assignedPocket slot = (s.dropTask slot).assignedPocket slot := rfl
      unfold State.freeAssigned
      rw [hassigned]
      split <;> rfl
    rw [hpocket]

theorem State.removeTask_picks (h : (s.floor.tasks.map Prod.snd).Nodup) (slot : Nat) (l : LineRef) (n : Nat) :
    (.pick l, n) ∈ (s.removeTask slot).floor.tasks ↔ (.pick l, n) ∈ s.floor.tasks ∧ n ≠ slot := by
  rw [State.removeTask_floor]
  exact (State.dropTask_retasks h slot).picks l n

theorem State.removeTask_law (h : s.floor.Law c gone debt) (slot : Nat) :
    (s.removeTask slot).floor.Law c gone (s.floor.owed (s.removeTask slot).floor debt) := by
  obtain ⟨hfloor, hslots, hpicks⟩ := State.dropTask_retasks h.slots slot
  have hpocket : (s.dropTask slot).pocket = s.pocket := congrArg Floor.pocket hfloor
  have hpockets : ∀ p, ((s.dropTask slot).freeAssigned slot).pocket p = s.pocket p ∨
      (((s.dropTask slot).freeAssigned slot).pocket p = .free ∧ ∃ e, s.pocket p = .entry e ∧ e.state = .assigned ∧
        e.slot = slot) := by
    intro p
    have hp := (s.dropTask slot).pocket_freeAssigned slot p
    rwa [hpocket] at hp
  have hcount : ∀ l, carriedCount ((s.dropTask slot).freeAssigned slot).pocket l = carriedCount s.floor.pocket l := by
    intro l
    have hcarries : ∀ p, (((s.dropTask slot).freeAssigned slot).pocket p).carries l = (s.pocket p).carries l := by
      intro p
      obtain hsame | ⟨hfree, e, he, hstate, _⟩ := hpockets p
      · rw [hsame]
      · rw [hfree, he, PocketEntry.carries_assigned hstate]
        rfl
    unfold carriedCount
    rw [hcarries, hcarries]
    rfl
  have hfewer : ∀ l n, (.pick l, n) ∈ (s.dropTask slot).floor.tasks → (.pick l, n) ∈ s.floor.tasks :=
    fun l n hmem => ((hpicks l n).1 hmem).1
  rw [State.removeTask_floor]
  have hwith : { (s.dropTask slot).floor with pocket := ((s.dropTask slot).freeAssigned slot).pocket } =
      { s.floor with pocket := ((s.dropTask slot).freeAssigned slot).pocket, tasks := (s.dropTask slot).floor.tasks } := by
    rw [hfloor]
  rw [hwith]
  refine h.change Function.injective_id (fun p => ?_) hslots hfewer (fun p e l he hstate hmem => ?_) fun l _ => ?_
  · obtain hsame | ⟨hfree, _⟩ := hpockets p
    · rw [hsame]
      exact Pocket.follows_self fun _ => h.shaped
    · rw [hfree]
      exact Pocket.free_follows _
  · refine (hpicks l _).2 ⟨hmem, State.freeAssigned_slot (fun hp hq hd he hslot => ?_) he hstate⟩
    rw [hpocket] at hp hq
    exact h.assigned_unique hp hq hd he hslot
  · have hle := pickCount_le hslots (l := l) (hfewer l)
    simp only [Floor.owed, hcount]
    omega

/-- A relinquish lowers the own claim of its line at once (R113). -/
theorem State.addRelinquish_floor (s : State) (l : LineRef) (q : Nat) : (s.addRelinquish l q).floor = { s.floor with
    own := Function.update s.floor.own l ((s.floor.own l).map fun x => (x.1 - q, x.2)) } := by
  have hline := s.updateLine_floor l fun x => { x with ownClaim := x.ownClaim - q }
  have hown : (s.floor.own l).map (fun x => (x.1 - q, x.2)) =
      (s.lineAt l).map fun x => (x.ownClaim - q, x.ownDelivered) := by
    rw [State.floor, Option.map_map]
    rfl
  rw [hown]
  refine Eq.trans ?_ hline
  refine ite_floor rfl ?_
  split <;> rfl

theorem State.addRelinquish_law (h : s.floor.Law c gone debt) {l : LineRef} {q : Nat}
    (hq : ∀ a d, c → ¬gone l → s.floor.own l = some (a, d) → (q : Int) ≤ d + debt l) :
    (s.addRelinquish l q).floor.Law c gone (Function.update debt l (debt l - q)) := by
  rw [State.addRelinquish_floor, sub_eq_add_neg]
  exact h.reown fun x hc hgone hx howed hle => by
    have hq' := hq x.1 x.2 hc hgone hx
    exact ⟨by dsimp only; omega, by dsimp only; omega⟩

/-! ### A PICK task that fails (R56) -/

/-- The PICK tasks of one floor are all in another, whose pockets that are not ASSIGNED stay. -/
structure Floor.Reads (f g : Floor) : Prop where
  picks : ∀ l n, (.pick l, n) ∈ g.tasks → (.pick l, n) ∈ f.tasks
  entries : ∀ p e, f.pocket p = .entry e → e.state ≠ .assigned → g.pocket p = .entry e

theorem Floor.Reads.trans {f g k : Floor} (h : f.Reads g) (i : g.Reads k) : f.Reads k :=
  ⟨fun l n hn => h.picks l n (i.picks l n hn), fun p e he hs => i.entries p e (h.entries p e he hs) hs⟩

/-- What reads and requests do: they keep the law, let PICK tasks fail, and leave the entries that are not ASSIGNED. -/
def State.Reads (s t : State) : Prop := ∀ ⦃c : Prop⦄ ⦃gone : LineRef → Prop⦄ ⦃debt : LineRef → Int⦄,
  s.floor.Law c gone debt → t.floor.Law c gone debt ∧ s.floor.Reads t.floor

theorem State.Reads.of_floor {s t : State} (h : t.floor = s.floor) : s.Reads t := fun _ _ _ hs =>
  ⟨h ▸ hs, by rw [h]; exact ⟨fun _ _ => id, fun _ _ he _ => he⟩⟩

theorem State.Reads.refl (s : State) : s.Reads s := .of_floor rfl

theorem State.Reads.trans {s t u : State} (h : s.Reads t) (g : t.Reads u) : s.Reads u := fun _ _ _ hs =>
  ⟨(g (h hs).1).1, (h hs).2.trans (g (h hs).1).2⟩

theorem State.Reads.floor {s t u : State} (h : s.Reads t) (g : u.floor = t.floor) : s.Reads u := h.trans (.of_floor g)

theorem State.Reads.keeps {s t : State} (h : s.Reads t) : s.Keeps t := fun _ _ _ hs => (h hs).1

theorem foldl_reads {α : Type} {f : State → α → State} (h : ∀ (s : State) (x : α), s.Reads (f s x)) (xs : List α)
    (s : State) : s.Reads (xs.foldl f s) := by
  induction xs generalizing s with
  | nil => exact .refl s
  | cons x rest ih => exact (h s x).trans (ih (f s x))

theorem State.removeTask_entries (h : (s.floor.tasks.map Prod.snd).Nodup) (slot : Nat) :
    s.floor.Reads (s.removeTask slot).floor := by
  refine ⟨fun l n hn => ((State.removeTask_picks h slot l n).1 hn).1, fun p e he hstate => ?_⟩
  rw [State.removeTask_floor]
  have hpocket : (s.dropTask slot).pocket = s.pocket := congrArg Floor.pocket (State.dropTask_retasks h slot).floor
  obtain hsame | ⟨_, d, hd, hdstate, _⟩ := (s.dropTask slot).pocket_freeAssigned slot p
  · exact (hsame.trans (congrFun hpocket p)).trans he
  · rw [hpocket, show s.pocket p = .entry e from he] at hd
    cases hd
    exact absurd hdstate hstate

/-- The PICK tasks of one line: of two tasks on different slots, one leaves. -/
theorem State.owed_of_pick (h : (s.floor.tasks.map Prod.snd).Nodup) {l : LineRef} {slot : Nat}
    (hmem : (.pick l, slot) ∈ s.floor.tasks) (ht : ((s.removeTask slot).floor.tasks.map Prod.snd).Nodup)
    (debt : LineRef → Int) : s.floor.owed (s.removeTask slot).floor debt = Function.update debt l (debt l + 1) := by
  funext m
  have hpicks := State.removeTask_picks h slot
  unfold Floor.owed
  by_cases hm : m = l
  · subst hm
    rw [Function.update_self, pickCount_drop h ht hmem (hpicks m)]
    omega
  · have hsame : pickCount (s.removeTask slot).floor.tasks m = pickCount s.floor.tasks m := by
      refine pickCount_congr h ht fun n => (hpicks m n).trans (and_iff_left_of_imp ?_)
      rintro hn rfl
      have heq := List.inj_on_of_nodup_map h hn hmem rfl
      exact hm (TaskWork.pick.inj (congrArg Prod.fst heq))
    rw [Function.update_of_ne hm, hsame]
    omega

theorem State.failPick_reads {slot : Nat} {line : LineRef} (hmem : (.pick line, slot) ∈ s.floor.tasks) :
    s.Reads (s.failPick slot line) := by
  intro c gone debt h
  have hremoved := State.removeTask_law h slot
  rw [State.owed_of_pick h.slots hmem hremoved.slots] at hremoved
  have hrelinquished := State.addRelinquish_law (l := line) (q := 1) hremoved fun a d hc hgone hown => by
    have hsame : (s.removeTask slot).floor.own = s.floor.own := by
      rw [State.removeTask_floor, (State.dropTask_retasks h.slots slot).floor]
    rw [hsame] at hown
    have howed := (h.account hc hgone hown).2
    rw [Function.update_self]
    omega
  rw [Function.update_self, Function.update_idem, Nat.cast_one, add_sub_cancel_right, Function.update_eq_self]
    at hrelinquished
  have hfloor : (s.failPick slot line).floor = ((s.removeTask slot).addRelinquish line 1).floor :=
    State.testCompletion_floor _
  rw [hfloor]
  obtain ⟨hpicks, hentries⟩ := State.removeTask_entries h.slots slot
  refine ⟨hrelinquished, ?_⟩
  rw [State.addRelinquish_floor]
  exact ⟨hpicks, hentries⟩

/-! ### Reads and requests (R5, R6, R9, R11) -/

theorem State.handOn_reads (s : State) (slot : Nat) (d : Option StockData) : s.Reads (s.handOn slot d) := by
  unfold State.handOn
  split
  · exact .refl s
  · rename_i t ht
    split
    · rename_i line hw
      exact State.failPick_reads (hw ▸ State.mem_of_taskOn ht)
    · exact .of_floor rfl
    · exact .refl s

/-- Only a PICK task fails. -/
theorem State.handOn_floor {slot : Nat} (h : ∀ l, (.pick l, slot) ∉ s.floor.tasks) (d : Option StockData) :
    (s.handOn slot d).floor = s.floor := by
  unfold State.handOn
  split
  · rfl
  · rename_i t ht
    split
    · rename_i line hw
      exact absurd (hw ▸ State.mem_of_taskOn ht) (h line)
    · rfl
    · rfl

theorem State.readSlot_reads (s : State) (slot : Nat) : s.Reads (s.readSlot slot).state := by
  unfold State.readSlot
  simp only
  split_ifs
  · exact .refl s
  · exact .of_floor (s.writeRecord_floor slot _)
  · exact State.Reads.trans (.of_floor ((State.writeReport_floor _ _).trans (s.writeRecord_floor slot _)))
      (State.handOn_reads _ slot none)

theorem State.readSlot_floor {slot : Nat} (h : ∀ l, (.pick l, slot) ∉ s.floor.tasks) :
    (s.readSlot slot).state.floor = s.floor := by
  have hwritten := fun r b => (State.writeReport_floor (s.writeRecord slot r) b).trans (s.writeRecord_floor slot r)
  unfold State.readSlot
  simp only
  split_ifs
  · rfl
  · exact s.writeRecord_floor slot _
  · exact (State.handOn_floor (by rwa [hwritten]) none).trans (hwritten _ _)

/-- A read changes nothing of the floor but where the record turns out uncorrectable. -/
theorem State.readSlot_cases (s : State) (slot : Nat) :
    (s.readSlot slot).state.floor = s.floor ∨ (s.readSlot slot).record = .suspect .corrupt := by
  unfold State.readSlot
  simp only
  split_ifs
  · exact .inl rfl
  · exact .inl (s.writeRecord_floor slot _)
  · exact .inr rfl

section
variable (slot : Nat) (applies : SlotRecord → Bool) (new : SlotRecord → SlotRecord)

theorem State.request_reads (s : State) : s.Reads (s.request slot applies new).state := by
  have hread := s.readSlot_reads slot
  unfold State.request
  simp only
  split_ifs
  · exact (hread.floor (State.writeRecord_floor _ _ _)).trans (State.handOn_reads _ _ _)
  · exact hread.floor (State.writeRecord_floor _ _ _)
  · exact hread

theorem State.request_floor (h : ∀ l, (.pick l, slot) ∉ s.floor.tasks) :
    (s.request slot applies new).state.floor = s.floor := by
  have hread := State.readSlot_floor h
  have hwritten := fun r => ((s.readSlot slot).state.writeRecord_floor slot r).trans hread
  unfold State.request
  simp only
  split_ifs
  · exact (State.handOn_floor (by rwa [hwritten]) _).trans (hwritten _)
  · exact hwritten _
  · exact hread

/-- A request that is applied to no SUSPECT record and makes none leaves the floor alone. -/
theorem State.request_applied (hold : applies (.suspect .corrupt) = false) (hnew : ∀ r, (new r).state ≠ .suspect)
    (h : (s.request slot applies new).applied = true) : (s.request slot applies new).state.floor = s.floor := by
  have happlies : applies (s.readSlot slot).record = true := by
    unfold State.request at h
    by_contra hno
    simp [hno] at h
  have hread : (s.readSlot slot).state.floor = s.floor :=
    (s.readSlot_cases slot).resolve_right fun hcorrupt => by simp [hcorrupt, hold] at happlies
  unfold State.request
  simp only [if_pos happlies, hnew, false_and, if_false]
  exact (State.writeRecord_floor _ _ _).trans hread

end

theorem State.readTable_reads (s : State) : s.Reads s.readTable := foldl_reads State.readSlot_reads _ s

end

end Sys2Proof.Machine
end

section
/-! SUPPORT. Cancelled and relocated tasks, the close of a dwell, confirmations, and the end of a step (R57, R66 to R75, R82,
R148, R149): what they make of the law of the floor. -/

namespace Sys2Proof.Machine

/-! ### Slots without a PICK task -/

/-- No PICK task stands on a slot. -/
def Floor.Pickless (f : Floor) (slot : Nat) : Prop := ∀ l, (.pick l, slot) ∉ f.tasks

theorem Floor.Reads.pickless {f g : Floor} (h : f.Reads g) {slot : Nat} (hf : f.Pickless slot) : g.Pickless slot :=
  fun l hmem => hf l (h.picks l slot hmem)

/-- The only task on a slot is no PICK. -/
theorem State.pickless_of_taskOn {s : State} (h : (s.floor.tasks.map Prod.snd).Nodup) {slot : Nat} {t : Task}
    (ht : s.taskOn slot = some t) (hw : ∀ l, t.work ≠ .pick l) : s.floor.Pickless slot := fun l hmem =>
  hw l (congrArg Prod.fst (List.inj_on_of_nodup_map h (State.mem_of_taskOn ht) hmem rfl))

theorem State.dropTask_keeps {s : State} {slot : Nat} (hslot : s.floor.Pickless slot) : s.Keeps (s.dropTask slot) :=
  fun _ _ _ h => (State.dropTask_retasks h.slots slot).law h fun l _ hmem hn => hslot l (hn ▸ hmem)

theorem State.removeTask_reads {s : State} {slot : Nat} (hslot : s.floor.Pickless slot) : s.Reads (s.removeTask slot) := by
  intro c gone debt h
  have hremoved := State.removeTask_law h slot
  have howed : s.floor.owed (s.removeTask slot).floor debt = debt := by
    funext l
    have hsame : pickCount (s.removeTask slot).floor.tasks l = pickCount s.floor.tasks l :=
      pickCount_congr h.slots hremoved.slots fun n => (State.removeTask_picks h.slots slot l n).trans
        (and_iff_left_of_imp fun hmem hn => hslot l (hn ▸ hmem))
    unfold Floor.owed
    omega
  rw [howed] at hremoved
  exact ⟨hremoved, State.removeTask_entries h.slots slot⟩

theorem State.cancelLoad_reads {s : State} {slot : Nat} (hslot : s.floor.Pickless slot) : s.Reads (s.cancelLoad slot) :=
  ((State.removeTask_reads hslot).trans (State.request_reads _ _ _ _)).floor (State.testCompletion_floor _)

/-! ### PICK tasks cancelled (R57) -/

section
variable {s : State} {c : Prop} {gone : LineRef → Prop} {debt : LineRef → Int}

theorem State.cancelPick_floor (h : s.floor.Law c gone debt) (slot : Nat) :
    (s.cancelPick slot).floor = (s.removeTask slot).floor :=
  (State.testCompletion_floor _).trans
    (State.request_floor _ _ _ fun l hmem => ((State.removeTask_picks h.slots slot l slot).1 hmem).2 rfl)

/-- Tasks cancelled one after the other leave the debt of their lines, and no PICK task on their slots. -/
theorem foldl_cancelPick (xs : List Task) (h : s.floor.Law c gone debt) :
    let t := xs.foldl (fun u x => u.cancelPick x.slot) s
    t.floor.Law c gone (s.floor.owed t.floor debt) ∧
      ∀ l n, (.pick l, n) ∈ t.floor.tasks ↔ (.pick l, n) ∈ s.floor.tasks ∧ n ∉ xs.map Task.slot := by
  induction xs generalizing s debt with
  | nil =>
    refine ⟨?_, by simp⟩
    have hsame : s.floor.owed s.floor debt = debt := by
      funext l
      unfold Floor.owed
      omega
    exact hsame.symm ▸ h
  | cons x rest ih =>
    have hfloor := State.cancelPick_floor h x.slot
    have hcancelled := State.removeTask_law h x.slot
    rw [← hfloor] at hcancelled
    obtain ⟨hlaw, hpicks⟩ := ih hcancelled
    refine ⟨?_, fun l n => (hpicks l n).trans ?_⟩
    · have howed : ∀ g : Floor, (s.cancelPick x.slot).floor.owed g (s.floor.owed (s.cancelPick x.slot).floor debt) =
          s.floor.owed g debt := by
        intro g
        funext l
        unfold Floor.owed
        omega
      exact howed _ ▸ hlaw
    · rw [hfloor, State.removeTask_picks h.slots]
      simp only [List.map_cons, List.mem_cons, not_or, and_assoc, ne_eq]

theorem State.cancelPicks_law (h : s.floor.Law c gone debt) (test : LineRef → Bool) :
    (s.cancelPicks test).floor.Law c gone (s.floor.owed (s.cancelPicks test).floor debt) := (foldl_cancelPick _ h).1

/-- Just the PICK tasks of the test's lines are cancelled. -/
theorem State.cancelPicks_picks (h : s.floor.Law c gone debt) (test : LineRef → Bool) (l : LineRef) (n : Nat) :
    (.pick l, n) ∈ (s.cancelPicks test).floor.tasks ↔ (.pick l, n) ∈ s.floor.tasks ∧ test l = false := by
  refine ((foldl_cancelPick _ h).2 l n).trans (and_congr_right fun hmem => ?_)
  obtain ⟨t, ht, hwork, hslot⟩ := State.mem_tasks.1 hmem
  constructor
  · intro hnot
    by_contra htest
    refine hnot (List.mem_map.2 ⟨t, List.mem_filter.2 ⟨ht, ?_⟩, hslot⟩)
    rw [hwork]
    simpa using htest
  · rintro htest hin
    obtain ⟨u, hu, huslot⟩ := List.mem_map.1 hin
    obtain ⟨huin, hutest⟩ := List.mem_filter.1 hu
    obtain rfl := List.inj_on_of_nodup_map (State.slots_nodup.1 h.slots) huin ht (huslot.trans hslot.symm)
    rw [hwork] at hutest
    simp [htest] at hutest

/-- PICK tasks cancelled of lines that are gone leave the law as it is. -/
theorem State.cancelPicks_gone (h : s.floor.Law c gone debt) {test : LineRef → Bool} (htest : ∀ l, test l = true → gone l) :
    (s.cancelPicks test).floor.Law c gone debt := by
  have hlaw := State.cancelPicks_law h test
  refine hlaw.redebt fun l _ hgone _ => ?_
  have hfalse : test l = false := Bool.eq_false_iff.2 (mt (htest l) hgone)
  have hsame := pickCount_congr h.slots hlaw.slots fun n =>
    (State.cancelPicks_picks h test l n).trans (and_iff_left hfalse)
  unfold Floor.owed
  omega

end

/-! ### LOAD tasks relocated (R148, R149) -/

/-- A task that is no PICK goes to a slot of no task. -/
theorem State.updateTask_keeps {s : State} {old new : Nat} {f : Task → Task} (hold : s.floor.Pickless old)
    (hnew : s.taskOn new = none) (hf : ∀ t, (f t).place = (t.work, new)) : s.Keeps (s.updateTask old f) := by
  intro c gone debt h
  have htasks : (s.updateTask old f).floor.tasks =
      s.floor.tasks.map fun t => if t.2 = old then (t.1, new) else t := by
    change List.map Task.place (List.map _ s.planner.queue) = List.map _ (List.map Task.place s.planner.queue)
    rw [List.map_map, List.map_map]
    refine List.map_congr_left fun t _ => ?_
    by_cases ht : t.slot = old
    · simpa [ht, Task.place] using hf t
    · simp [ht, Task.place]
  refine State.Retasks.law (s := s) (t := s.updateTask old f) (P := fun _ => False) ⟨rfl, ?_, fun l n => ?_⟩ h fun _ _ _ => id
  · have hnotin := State.taskOn_none.1 hnew
    rw [htasks, List.map_map]
    refine (h.slots.of_map _).map_on fun x hx y hy heq => ?_
    simp only [Function.comp] at heq
    have hxs : x.2 ≠ new := fun hxn => hnotin (hxn ▸ List.mem_map_of_mem hx)
    have hys : y.2 ≠ new := fun hyn => hnotin (hyn ▸ List.mem_map_of_mem hy)
    refine List.inj_on_of_nodup_map h.slots hx hy ?_
    split_ifs at heq with hxo hyo hyo
    · exact hxo.trans hyo.symm
    · exact absurd heq.symm hys
    · exact absurd heq hxs
    · exact heq
  · rw [htasks, List.mem_map, not_false_eq_true, and_true]
    constructor
    · rintro ⟨⟨w, m⟩, hmem, heq⟩
      split_ifs at heq with hm
      · cases heq
        exact absurd (show (TaskWork.pick l, old) ∈ s.floor.tasks from hm ▸ hmem) (hold l)
      · exact heq ▸ hmem
    · intro hmem
      have hn : n ≠ old := fun hn => hold l (hn ▸ hmem)
      exact ⟨_, hmem, if_neg hn⟩

theorem State.moveTask_keeps {s : State} {old new : Nat} (hold : s.floor.Pickless old) (hnew : s.taskOn new = none) :
    s.Keeps (s.moveTask old new) := by
  have hmoved : s.Keeps (s.updateTask old fun t => { t with slot := new }) :=
    State.updateTask_keeps hold hnew fun _ => rfl
  have hwaiting : s.Keeps (s.updateTask old fun t => { t with slot := new, state := .waiting }) :=
    State.updateTask_keeps hold hnew fun _ => rfl
  unfold State.moveTask
  split
  · exact hmoved
  · split_ifs
    · exact hmoved.floor rfl
    · exact hwaiting.floor ((State.testCompletion_floor _).trans (State.dropDue_floor _ _))
    · exact hmoved

theorem State.cancelRelocated_keeps {s : State} {r : Relocation} (h : s.floor.Pickless r.slot) :
    s.Keeps (s.cancelRelocated r) := by
  refine (State.removeTask_reads h).keeps.floor ?_
  unfold State.cancelRelocated
  simp only [State.testCompletion_floor, State.freeReceived_floor, State.reportShort_floor, State.setFace_floor]

theorem State.placeTask_keeps {s : State} {r : Relocation} (h : s.floor.Pickless r.slot) (d : StockData) :
    s.Keeps (s.placeTask r d) := by
  unfold State.placeTask
  split
  · exact State.cancelRelocated_keeps h
  · rename_i slot _
    intro c gone debt hs
    obtain ⟨hlaw, hreads⟩ := s.request_reads slot (inStates [.empty]) (fun _ => .reserved r.inboundId d) hs
    have hslot := hreads.pickless h
    simp only
    split
    · rename_i hplaced
      exact State.moveTask_keeps hslot (by simpa using hplaced.2) hlaw
    · exact State.cancelRelocated_keeps hslot hlaw

theorem State.relocateOne_keeps (s : State) (r : Relocation) : s.Keeps (s.relocateOne r) := by
  unfold State.relocateOne
  split
  · exact .refl s
  · rename_i t ht
    split
    · rename_i hw
      intro c gone debt hs
      obtain ⟨hlaw, hreads⟩ := s.readTable_reads hs
      have hslot := hreads.pickless (State.pickless_of_taskOn hs.slots ht (by simp [hw]))
      simp only
      split
      · exact State.cancelRelocated_keeps hslot hlaw
      · exact State.placeTask_keeps hslot _ hlaw
    · exact .refl s

theorem State.relocateAll_keeps (s : State) : s.Keeps s.relocateAll := by
  have hup : ∀ (fuel : Nat) (t : State), t.Keeps (State.relocateUpTo fuel t) := by
    intro fuel
    induction fuel with
    | zero => exact .refl
    | succ fuel ih =>
      intro t
      unfold State.relocateUpTo
      split
      · exact .refl t
      · exact ((State.Keeps.of_floor (t.setAudit_floor _)).trans (State.relocateOne_keeps _ _)).trans (ih _)
  exact hup 1024 s

/-! ### The end of a step -/

theorem State.considerRounds_keeps (s : State) : s.Keeps s.considerRounds := by
  have hlist : ∀ rounds, s.Keeps (s.considerList rounds) := by
    intro rounds
    induction rounds with
    | nil => exact .of_floor rfl
    | cons o rest ih =>
      refine .ite ?_ ih
      refine State.Keeps.trans (t := (s.setContests { s.contests with considering := rest }).readTable) ?_ ?_
      · exact State.Keeps.trans (.of_floor (s.setContests_floor _)) (State.readTable_reads _).keeps
      · exact State.Keeps.trans (.of_floor (State.setContests_floor _ _)) (State.relocateAll_keeps _)
  exact .ite (hlist _) (.refl s)

theorem State.settle_keeps (b s : State) : s.Keeps (State.settle b s) :=
  (((s.relocateAll_keeps.trans (State.considerRounds_keeps _)).trans (State.refreshDwell_keeps _)).floor
    (State.testCompletion_floor _)).floor (s.settle_floor b)

/-! ### The close of a dwell (R74, R75) -/

theorem State.closeWrong_keeps (s : State) (w : WrongEvent) : s.Keeps (s.closeWrong w) := by
  refine State.Keeps.trans ?_ (State.relocateAll_keeps _)
  unfold State.resolveWrong
  split <;> exact (State.request_reads _ _ _ s).keeps.floor (State.writeReport_floor _ _)

theorem State.endDwell_keeps (s : State) : s.Keeps s.endDwell := by
  unfold State.endDwell
  split
  · exact .refl s
  · exact (foldl_keeps (fun (t : State) (d : Due) => t.freeAssigned_keeps d.slot) _ s).floor (State.deferDue_floor _ _)

theorem State.closeDwell_keeps (s : State) : s.Keeps s.closeDwell := by
  unfold State.closeDwell
  split
  · exact .refl s
  · exact ((foldl_keeps State.closeWrong_keeps _ s).floor (State.dropMoved_floor _ _)).trans (State.endDwell_keeps _)

/-! ### Confirmations (R69 to R71) -/

/-- The tyre of a PICK task is picked: its pocket's entry is CARRIED and its task done. -/
theorem Floor.Law.carry {f : Floor} {c : Prop} {gone : LineRef → Prop} {debt : LineRef → Int} (h : f.Law c gone debt)
    {p : Fin 2} {e : PocketEntry} (hp : f.pocket p = .entry e) (hstate : e.state = .assigned)
    {tasks : List (TaskWork × Nat)} (hslots : (tasks.map Prod.snd).Nodup)
    (hpicks : ∀ l n, (.pick l, n) ∈ tasks ↔ (.pick l, n) ∈ f.tasks ∧ n ≠ e.slot) :
    ({ f with pocket := Function.update f.pocket p (.entry { e with state := .carried }), tasks := tasks } : Floor).Law
      c gone debt := by
  obtain ⟨l, hl, hmem⟩ := h.task hp hstate
  refine h.change Function.injective_id (fun q => ?_) hslots (fun k n hn => ((hpicks k n).1 hn).1)
    (fun q d k hd hdstate hin => (hpicks k _).2 ⟨hin, ?_⟩) fun k _ => ⟨le_refl _, ?_⟩
  · by_cases hq : q = p
    · subst hq
      rw [Function.update_self, id, hp]
      obtain ⟨hline, hgranted, _⟩ := PocketEntry.shaped_iff.1 (h.shaped hp)
      refine Pocket.entry_follows (PocketEntry.shaped_iff.2 ⟨?_, ?_, .inr (.inl rfl)⟩) (by simp)
        fun _ => ⟨PocketEntry.live_iff.2 (.inl hstate), rfl⟩
      · simpa [hstate] using hline
      · simpa [hstate] using hgranted
    · rw [Function.update_of_ne hq]
      exact Pocket.follows_self fun _ => h.shaped
  · by_cases hq : q = p
    · subst hq
      rw [Function.update_self] at hd
      cases hd
      cases hdstate
    · rw [Function.update_of_ne hq] at hd
      exact h.apart hq hd hp hdstate hstate
  · have hcount := carriedCount_update f.pocket p (.entry { e with state := .carried }) k
    rw [hp, PocketEntry.carries_assigned hstate, PocketEntry.carries_iff (by simp) (by simp)] at hcount
    generalize carriedCount (Function.update f.pocket p (.entry { e with state := .carried })) k = after at hcount ⊢
    by_cases hk : l = k
    · subst hk
      rw [pickCount_drop h.slots hslots hmem (hpicks l)]
      simp only [hl, decide_true, Bool.toNat_true, Bool.toNat_false] at hcount
      omega
    · have hsame : pickCount tasks k = pickCount f.tasks k := by
        refine pickCount_congr h.slots hslots fun n => (hpicks k n).trans (and_iff_left_of_imp fun hn hslot => hk ?_)
        have heq := List.inj_on_of_nodup_map h.slots hmem hn hslot.symm
        exact TaskWork.pick.inj (congrArg Prod.fst heq)
      simp only [hl, Option.some.injEq, hk, decide_false, Bool.toNat_false] at hcount
      omega

theorem State.confirmPick_keeps {s : State} {slot : Nat} (line : LineRef)
    (hlit : (s.assignedPocket slot).isSome = true) : s.Keeps (s.confirmPick slot line) := by
  obtain ⟨p, hp⟩ := Option.isSome_iff_exists.1 hlit
  obtain ⟨e, he, hstate, hslot⟩ := State.pocket_of_assignedPocket hp
  intro c gone debt h
  unfold State.confirmPick
  simp only
  split
  · rename_i happlied
    have hfloor := State.request_applied (s := s) slot (inStates [.pickClaimed]) (SlotRecord.keeping .outbound) rfl
      (fun r => by simp [SlotRecord.keeping]) happlied
    have hpocket : (s.request slot (inStates [.pickClaimed]) (SlotRecord.keeping .outbound)).state.pocket p = .entry e :=
      (congrFun (congrArg Floor.pocket hfloor) p).trans he
    simp only [hp, hpocket, Pocket.entryOf]
    generalize (s.request slot (inStates [.pickClaimed]) (SlotRecord.keeping .outbound)).state = u at hfloor
    have hset := u.setPocket_floor p (.entry { e with state := .carried })
    have hslots : ((u.setPocket p (.entry { e with state := .carried })).floor.tasks.map Prod.snd).Nodup := by
      rw [hset, hfloor]
      exact h.slots
    obtain ⟨hdropped, hnodup, hpicks⟩ := State.dropTask_retasks hslots slot
    rw [State.dropDue_floor, State.setEntry, hdropped, hset, hfloor]
    rw [hset, hfloor] at hpicks
    exact h.carry he hstate hnodup fun l n => hslot ▸ hpicks l n
  · have hread := State.request_reads slot (inStates [.pickClaimed]) (SlotRecord.keeping .outbound) s
    split
    · exact (hread h).1
    · rename_i t ht
      split
      · rename_i hw
        exact (hread.trans (State.failPick_reads (hw ▸ State.mem_of_taskOn ht)) h).1
      · exact (hread h).1

theorem State.confirmLoad_keeps {s : State} {slot : Nat} (hslot : s.floor.Pickless slot) (id : Nat) :
    s.Keeps (s.confirmLoad slot id) := by
  unfold State.confirmLoad
  simp only
  split
  · rename_i happlied
    have hfloor := State.request_applied (s := s) slot (inStates [.reservedIn]) (SlotRecord.keeping .occupied) rfl
      (fun r => by simp [SlotRecord.keeping]) happlied
    refine State.Keeps.floor (State.Keeps.trans (.of_floor ((State.updateReceiving_floor _ id _).trans hfloor))
      (State.dropTask_keeps ?_)) ((State.writeReport_floor _ _).trans (State.dropDue_floor _ slot))
    rwa [State.updateReceiving_floor, hfloor]
  · exact (State.request_reads _ _ _ s).keeps.trans (State.relocateAll_keeps _)

theorem State.freeRestore_tasks (s : State) (p : Fin 2) : (s.freeRestore p).floor.tasks = s.floor.tasks := by
  unfold State.freeRestore
  split
  · rfl
  · split
    · exact (congrArg Floor.tasks (State.writeReport_floor (s.setPocket p .foreign) _)).trans rfl
    · rfl

theorem State.confirmRestore_keeps {s : State} {slot : Nat} (hslot : s.floor.Pickless slot) (p : Fin 2) :
    s.Keeps (s.confirmRestore slot p) := by
  have hfloor := State.request_floor (s := s) slot (fun r => decide (r.state ≠ .retired))
    (fun r => if r.state = .outbound then .keeping .occupied r else .suspect .unknown) hslot
  unfold State.confirmRestore
  simp only
  generalize s.request slot (fun r => decide (r.state ≠ .retired)) (fun r =>
    if r.state = .outbound then .keeping .occupied r else .suspect .unknown) = q at hfloor
  have hreported : ∀ b, (if q.found.state = .outbound then q.state else q.state.writeReport b).floor = s.floor :=
    fun b => ite_floor hfloor ((State.writeReport_floor _ _).trans hfloor)
  refine State.Keeps.floor (((State.Keeps.of_floor (hreported _)).trans (State.freeRestore_keeps _ p)).trans
    (State.dropTask_keeps ?_)) (State.dropDue_floor _ slot)
  intro l
  rw [State.freeRestore_tasks, hreported]
  exact hslot l

/-! ### Changes of presence (R66, R72) -/

theorem State.useChange_keeps (s : State) (d : Dwell) (slot : Nat) (present : Bool) :
    s.Keeps (s.useChange d slot present) := by
  unfold State.useChange
  split
  · rename_i x t hfound ht
    have hx : x.slot = slot ∧ s.isLit x = true := by simpa using List.find?_some hfound
    have hshelf : (∀ l, t.work ≠ .pick l) → ∀ {c : Prop} {gone debt}, s.floor.Law c gone debt → s.floor.Pickless slot :=
      fun hw _ _ _ h => State.pickless_of_taskOn h.slots ht hw
    split
    · rename_i l hw
      exact State.confirmPick_keeps l (by rw [← hx.1, ← State.isLit_pick (hx.1 ▸ ht) hw]; exact hx.2)
    · rename_i hw
      exact fun _ _ _ h => State.confirmLoad_keeps (hshelf (by simp [hw]) h) _ h
    · rename_i hw
      exact fun _ _ _ h => State.confirmRestore_keeps (hshelf (by simp [hw]) h) _ h
    all_goals exact .of_floor (s.addWrong_floor _ _)
  · exact .of_floor (s.addWrong_floor _ _)

theorem State.presenceChange_keeps (s : State) (place : Nat) (present : Bool) : s.Keeps (s.presenceChange place present) := by
  unfold State.presenceChange
  split
  · exact .refl s
  · refine .ite ?_ (.refl s)
    refine State.Keeps.trans (State.Keeps.floor ?_ (State.testCompletion_floor _)) (State.refreshDwell_keeps _)
    exact .ite (.of_floor (s.dropWrong_floor _)) (s.useChange_keeps _ _ _)

end Sys2Proof.Machine
end

section
/-! SUPPORT. Grants and pocket levels, relinquishes heard, deadlines, scans and audits (R79, R123 to R127, R136 to R143): they
keep the law of the floor. -/

namespace Sys2Proof.Machine

/-! ### Grants (R125, R126, R138) -/

/-- The floor of the lanes is that of their bays and age lists. -/
theorem State.floor_of_lanes {s t : State} (hlanes : ∀ i, (t.lane i).synced = (s.lane i).synced ∧
    (t.lane i).bays = (s.lane i).bays ∧ (t.lane i).ageList = (s.lane i).ageList) (hpocket : t.pocket = s.pocket)
    (htasks : t.planner.queue.map Task.place = s.planner.queue.map Task.place) : t.floor = s.floor := by
  have hbay : t.openBay = s.openBay := by
    funext l
    obtain ⟨hsynced, hbays, _⟩ := hlanes l.lane
    unfold State.openBay
    rw [hsynced, hbays]
  have hanchor : t.isAnchor = s.isAnchor := by
    funext l
    unfold State.isAnchor
    rw [(hlanes l.lane).2.2, hbay]
  unfold State.floor
  simp only [State.lineAt_eq, hbay, hanchor, hpocket, htasks]

theorem State.countGrant_floor (s : State) (line : LineRef) : (s.countGrant line).floor = s.floor := by
  have hcounted := s.updateLine_floor_same line (f := fun l => { l with delivered := l.delivered + 1 }) fun _ => ⟨rfl, rfl⟩
  refine Eq.trans (State.floor_of_lanes (s := s.updateLine line fun l => { l with delivered := l.delivered + 1 })
    (t := s.countGrant line) (fun i => ?_) rfl rfl) hcounted
  unfold State.countGrant
  rw [State.lane_setLane]
  split
  · rename_i hi
    subst hi
    exact ⟨rfl, rfl, rfl⟩
  · exact ⟨rfl, rfl, rfl⟩

/-- A tyre released: one more delivered of its line, and its pocket free. -/
theorem State.completeGrant_keeps {s : State} {p : Fin 2} {d e : PocketEntry} (hp : s.pocket p = .entry d)
    (hd : d.shaped = true → d.state ≠ .assigned ∧ d.state ≠ .restore) (hline : d.line = e.line) :
    s.Keeps (s.completeGrant p e) := by
  intro c gone debt h
  have hstate := hd (h.shaped (show s.floor.pocket p = .entry d from hp))
  have hfreed : ∀ {t : State} {debt' : LineRef → Int}, t.floor.Law c gone debt' → t.pocket p = .entry d →
      (∀ l, debt' l ≤ debt l ∧ debt l = (decide (d.line = some l)).toNat + debt' l) →
      (((t.request e.slot (inStates [.outbound]) fun _ => .empty).state).setPocket p .free).floor.Law c gone debt := by
    intro t debt' ht htp hdebt
    obtain ⟨hlaw, hreads⟩ := t.request_reads e.slot (inStates [.outbound]) (fun _ => .empty) ht
    have hpocket := hreads.entries p d htp hstate.1
    rw [State.setPocket_floor]
    refine hlaw.setPocket (Pocket.free_follows _) fun l _ => ?_
    obtain ⟨hle, heq⟩ := hdebt l
    rw [hpocket, PocketEntry.carries_iff hstate.1 hstate.2, show Pocket.free.carries l = false from rfl]
    exact ⟨hle, by rw [Bool.toNat_false]; omega⟩
  unfold State.completeGrant
  simp only
  cases he : e.line with
  | none => exact hfreed h hp fun l => ⟨le_refl _, by simp [hline, he]⟩
  | some l =>
    have hcounted := s.updateLine_floor l fun x => { x with ownDelivered := x.ownDelivered + 1 }
    have hown : ((s.lineAt l).map fun x => (x.ownClaim, x.ownDelivered + 1)) =
        (s.floor.own l).map fun x => (x.1, x.2 + 1) := by
      rw [State.floor, Option.map_map]
      rfl
    refine hfreed (debt' := Function.update debt l (debt l + -1)) ?_ ?_ fun k => ?_
    · rw [hcounted, hown]
      exact h.reown fun x _ _ _ howed _ => ⟨by dsimp only; omega, by dsimp only; omega⟩
    · exact (congrFun (congrArg Floor.pocket hcounted) p).trans hp
    · by_cases hk : k = l
      · subst hk
        rw [Function.update_self, hline, he, decide_eq_true rfl]
        exact ⟨by omega, by rw [Bool.toNat_true]; omega⟩
      · rw [Function.update_of_ne hk, hline, he]
        simp [Ne.symm hk]

theorem State.grantEntry_keeps {s : State} {p : Fin 2} {e : PocketEntry} (hp : s.pocket p = .entry e)
    (hintent : e.intent ≠ .none) : s.Keeps (s.grantEntry p e) := by
  have hstate : e.shaped = true → e.state ≠ .assigned ∧ e.state ≠ .restore := fun hshape => by
    rcases PocketEntry.state_of_intent hshape hintent with hs | hs <;> simp [hs]
  refine .ite ?_ (State.completeGrant_keeps hp hstate rfl)
  refine State.setEntry_keeps hp hstate (by simp) rfl (fun hshape => ?_) fun _ hlive => by simp [PocketEntry.live] at hlive
  obtain ⟨hline, _, _⟩ := PocketEntry.shaped_iff.1 hshape
  exact PocketEntry.shaped_iff.2 ⟨by simpa [(hstate hshape).2] using hline, by simp, .inl rfl⟩

theorem State.ownIntent_keeps (s : State) (line : LineRef) (granted : Bool) : s.Keeps (s.ownIntent line granted) := by
  unfold State.ownIntent
  split
  · exact .refl s
  · rename_i hfound
    obtain ⟨hp, _, hintent⟩ := State.pocket_of_entriesWith hfound
    have hsent := hintent ▸ (by decide : IntentStatus.onBus ≠ IntentStatus.none)
    exact .ite (State.grantEntry_keeps hp hsent) (State.refuseEntry_keeps hp hsent)

theorem State.hearIntent_keeps (s : State) (lane : Fin 8) (f : Frame) : s.Keeps (s.hearIntent lane f) := by
  have hcounted : s.Keeps (if s.intentGranted (intentLineOf lane f.payload) then s.countGrant (intentLineOf lane f.payload)
      else s) := .ite (.of_floor (s.countGrant_floor _)) (.refl s)
  exact .ite (hcounted.trans (State.ownIntent_keeps _ _ _)) hcounted

/-! ### Relinquishes heard (R123) -/

theorem OrderLine.judge_own (l : OrderLine) :
    l.judge.1.ownClaim = l.ownClaim ∧ l.judge.1.ownDelivered = l.ownDelivered := by
  rw [OrderLine.judge_line]
  exact ⟨rfl, rfl⟩

theorem State.applyRelinquish_floor (s : State) (line : LineRef) (q : Nat) :
    (s.applyRelinquish line q).state.floor = s.floor := by
  unfold State.applyRelinquish
  split
  · rfl
  · exact s.updateLine_floor_same line fun x => (x.giveBack q).judge_own

theorem State.hearRelinquish_floor (s : State) (f : Frame) (stamp : Timer) : (s.hearRelinquish f stamp).floor = s.floor := by
  have hgone : ∀ own : Prop, [Decidable own] → (if own then s.relinquishGone else s).floor = s.floor :=
    fun _ => ite_floor s.relinquishGone_floor rfl
  unfold State.hearRelinquish
  simp only
  split
  · exact hgone _
  · rw [State.openNext_floor, State.applyRelinquish_floor]
    exact hgone _

/-! ### Pocket levels (R64, R136 to R141) -/

theorem carriedCount_other {pocket pocket' : Fin 2 → Pocket} {l : LineRef}
    (h : ∀ q, (pocket' q).carries l = (pocket (otherPocket q)).carries l) : carriedCount pocket' l = carriedCount pocket l := by
  unfold carriedCount
  rw [h, h, show otherPocket 0 = 1 from rfl, show otherPocket 1 = 0 from rfl, Nat.add_comm]

theorem otherPocket_other (p : Fin 2) : otherPocket (otherPocket p) = p := by fin_cases p <;> rfl

theorem eq_otherPocket : ∀ {p q : Fin 2}, q ≠ p → q = otherPocket p := by decide

/-- A CARRIED tyre stands in the other pocket than its own, which takes what that one held (R136). -/
theorem State.loadOther_keeps {s : State} {p : Fin 2} {e : PocketEntry}
    (he : s.pocket (otherPocket p) = .entry e) (hstate : e.state = .carried) :
    s.Keeps ((s.setPocket (otherPocket p) (s.pocket p)).loadEntry p e) := by
  refine State.Keeps.trans (fun c gone debt h => ?_) (State.queueIntent_keeps _ p)
  have hpocket : ∀ q, Function.update (Function.update s.pocket (otherPocket p) (s.pocket p)) p
      (.entry { e with state := .loaded }) q =
      if q = p then .entry { e with state := .loaded } else s.pocket (otherPocket q) := by
    intro q
    by_cases hq : q = p
    · subst hq
      rw [Function.update_self, if_pos rfl]
    · rw [Function.update_of_ne hq, if_neg hq, eq_otherPocket hq, Function.update_self, otherPocket_other]
  rw [State.setEntry, State.setPocket_floor, State.setPocket_floor]
  refine h.change (from_ := otherPocket) (fun q r hqr => ?_) (fun q => ?_) h.slots (fun _ _ => id)
    (fun _ _ _ _ _ => id) fun l _ => ⟨le_refl _, ?_⟩
  · rw [← otherPocket_other q, hqr, otherPocket_other]
  · refine (congrArg (Pocket.Follows · _) (hpocket q)).mpr ?_
    split
    · rename_i hq
      rw [hq, show s.floor.pocket (otherPocket p) = .entry e from he]
      obtain ⟨hline, hgranted, _⟩ := PocketEntry.shaped_iff.1 (h.shaped (show s.floor.pocket _ = .entry e from he))
      refine Pocket.entry_follows (PocketEntry.shaped_iff.2 ⟨?_, ?_, .inr (.inr rfl)⟩) (by simp)
        fun _ => ⟨PocketEntry.live_iff.2 (.inr (.inl hstate)), rfl⟩
      · simpa [hstate] using hline
      · simpa [hstate] using hgranted
    · exact Pocket.follows_self fun _ => h.shaped
  · have hcount : carriedCount (Function.update (Function.update s.pocket (otherPocket p) (s.pocket p)) p
        (.entry { e with state := .loaded })) l = carriedCount s.floor.pocket l := by
      refine carriedCount_other fun q => ?_
      rw [hpocket]
      split
      · rename_i hq
        rw [hq, show s.floor.pocket (otherPocket p) = .entry e from he, PocketEntry.carries_iff (by simp) (by simp),
          PocketEntry.carries_iff (by simp [hstate]) (by simp [hstate])]
      · rfl
    exact congrArg (fun n : Nat => (pickCount s.floor.tasks l : Int) + n + debt l) hcount

theorem State.pocketFilled_keeps (s : State) (p : Fin 2) : s.Keeps (s.pocketFilled p) := by
  unfold State.pocketFilled
  simp only
  split
  · rename_i e hp _
    split
    · rename_i hstate
      exact State.loadEntry_keeps hp hstate
    · split
      · rename_i hstate
        exact State.becomeForeign_keeps fun l => by rw [hp, PocketEntry.carries_assigned hstate]
      · exact .refl s
  · rename_i e c hp hc
    obtain ⟨hother, hcstate⟩ := State.entryIn_eq_some.1 hc
    split
    · rename_i hstate
      exact State.loadEntry_keeps hp hstate
    · split
      · have hload := State.loadOther_keeps hother hcstate
        rwa [hp] at hload
      · exact .refl s
  · rename_i c hp hc
    obtain ⟨hother, hcstate⟩ := State.entryIn_eq_some.1 hc
    have hload := State.loadOther_keeps hother hcstate
    rwa [hp] at hload
  · rename_i hp _
    exact State.becomeForeign_keeps fun l => by rw [hp]; rfl
  · exact .refl s

/-- Withdrawing an INTENT changes nothing but the INTENT of its own pocket's entry. -/
theorem State.pocket_withdrawIntent (s : State) (p q : Fin 2) : (s.withdrawIntent p).pocket q = s.pocket q ∨
    q = p ∧ ∃ e, s.pocket p = .entry e ∧ (s.withdrawIntent p).pocket p = .entry { e with intent := .none } := by
  unfold State.withdrawIntent
  split
  · exact .inl rfl
  · exact .inl rfl
  · rename_i e hp
    split
    · exact .inl rfl
    · split
      · by_cases hq : q = p
        · exact .inr ⟨hq, e, hp, by rw [State.setEntry, State.pocket_setPocket, if_pos rfl]⟩
        · exact .inl (by rw [State.setEntry, State.pocket_setPocket, if_neg (Ne.symm hq)]; rfl)
      · exact .inl rfl

/-- The entry left where an INTENT has been withdrawn. -/
theorem State.entry_withdrawIntent {s : State} {p : Fin 2} {e : PocketEntry} (hp : s.pocket p = .entry e) :
    ∃ i, (s.withdrawIntent p).pocket p = .entry { e with intent := i } := by
  obtain hsame | ⟨_, d, hd, hnone⟩ := s.pocket_withdrawIntent p p
  · exact ⟨e.intent, hsame.trans hp⟩
  · rw [hp] at hd
    cases hd
    exact ⟨.none, hnone⟩

theorem State.pocketEmptied_keeps (s : State) (p : Fin 2) : s.Keeps (s.pocketEmptied p) := by
  unfold State.pocketEmptied
  split
  · exact .refl s
  · rename_i hp
    exact State.setFree_keeps fun l => by rw [hp]; rfl
  · rename_i e hp
    split
    · rename_i hstate
      exact State.completeGrant_keeps hp (fun _ => by simp [hstate]) rfl
    · rename_i hstate
      exact State.completeGrant_keeps hp (fun _ => by simp [hstate]) rfl
    · rename_i hstate
      obtain ⟨i, hi⟩ := State.entry_withdrawIntent hp
      refine (s.withdrawIntent_keeps p).trans (State.setEntry_keeps hi (fun _ => by simp [hstate]) (by simp) rfl
        (fun hshape => ?_) fun _ _ => PocketEntry.live_iff.2 (.inr (.inr hstate)))
      obtain ⟨hline, hgranted, _⟩ := PocketEntry.shaped_iff.1 hshape
      exact PocketEntry.shaped_iff.2
        ⟨by simpa [hstate] using hline, by simpa [hstate] using hgranted, .inr (.inl rfl)⟩
    all_goals exact .refl s

theorem State.pocketLevel_keeps (s : State) (p : Fin 2) (present : Bool) : s.Keeps (s.pocketLevel p present) := by
  have hsense : s.Keeps (s.setSense p present) := .of_floor rfl
  unfold State.pocketLevel
  split
  · refine hsense.trans ?_
    unfold State.pocketAdopted
    split
    · rename_i hp
      exact State.setFree_keeps fun l => by rw [hp]; rfl
    · exact .refl _
    · rename_i hp
      exact State.becomeForeign_keeps fun l => by rw [hp]; rfl
    · exact .refl _
    · exact .refl _
  · exact .ite (.refl s) (.ite (hsense.trans (State.pocketFilled_keeps _ p)) (hsense.trans (State.pocketEmptied_keeps _ p)))

/-! ### Deadlines (R79) -/

theorem foldl_cancelLoad {s : State} (xs : List Task) (h : ∀ x ∈ xs, s.floor.Pickless x.slot) :
    s.Reads (xs.foldl (fun u x => u.cancelLoad x.slot) s) := by
  induction xs generalizing s with
  | nil => exact .refl s
  | cons x rest ih =>
    obtain ⟨hx, hrest⟩ := List.forall_mem_cons.1 h
    intro c gone debt hs
    obtain ⟨hlaw, hreads⟩ := State.cancelLoad_reads hx hs
    obtain ⟨hlaw', hreads'⟩ := ih (fun y hy => hreads.pickless (hrest y hy)) hlaw
    exact ⟨hlaw', hreads.trans hreads'⟩

theorem State.giveUpArrivals_keeps (s : State) (r : Receiving) : s.Keeps (s.giveUpArrivals r) := by
  intro c gone debt h
  have hcancelled : ∀ n, s.Keeps (((s.loadTasks r.inboundId).drop n).foldl (fun u x => u.cancelLoad x.slot) s) := by
    refine fun n => (foldl_cancelLoad _ fun x hx l hmem => ?_).keeps
    obtain ⟨hin, hwork⟩ := List.mem_filter.1 (List.mem_of_mem_drop hx)
    obtain ⟨t, ht, htwork, hslot⟩ := State.mem_tasks.1 hmem
    obtain rfl := List.inj_on_of_nodup_map (State.slots_nodup.1 h.slots) ht hin hslot
    rw [htwork] at hwork
    cases of_decide_eq_true hwork
  have hreported : ∀ (t : State) (f : FaceUnit) (b : Prop) [Decidable b] (n : Nat),
      (if b then t.setFace f else (t.setFace f).reportShort r.inboundId n .timeout
        ((t.setFace f).receivingOf r.inboundId)).floor = t.floor :=
    fun t f b _ n => ite_floor (t.setFace_floor f) ((State.reportShort_floor _ _ _ _ _).trans (t.setFace_floor f))
  unfold State.giveUpArrivals
  simp only [State.freeReceived_floor, hreported]
  exact hcancelled _ h

/-! ### Scans and audits (R61 to R66, R142 to R154) -/

theorem State.scanFace_keeps (s : State) (returns : BitVec 12) (pin : BitVec 16) : s.Keeps (s.scanFace returns pin) := by
  have hcycle : s.Keeps
      ((s.setFace { s.face with image := s.sampled returns, lastScan := some s.timer }).settleCycle pin) :=
    .of_floor (State.settleCycle_floor _ _)
  exact .ite (hcycle.trans (foldl_keeps (fun (t : State) (c : Nat × Bool) => t.presenceChange_keeps c.1 c.2) _ _)) hcycle

theorem State.relocatedFor_keeps (s : State) (scan : Scan) : s.Keeps (s.relocatedFor scan) := by
  refine State.Keeps.trans ?_ (State.relocateAll_keeps _)
  exact Comparison.slots_keeps (P := s.Keeps) (fun t n h => h.trans (t.readSlot_reads n).keeps)
    (fun t n a f h => h.trans (t.request_reads n a f).keeps) (fun t b h => h.floor (t.writeReport_floor b)) (.refl s) _ _

theorem State.weighedFor_keeps (s : State) (scan : Scan) : s.Keeps (s.weighedFor scan) :=
  (s.relocatedFor_keeps scan).floor (State.weigh_floor _ scan _)

theorem State.answerFace_keeps (s : State) (scan : Scan) : s.Keeps (s.answerFace scan) := by
  unfold State.answerFace
  split
  · exact .refl s
  · refine .ite (State.Keeps.floor (State.Keeps.trans ?_ (foldl_keeps
      (fun (t : State) (c : Nat × Bool) => t.presenceChange_keeps c.1 c.2) _ _)) (State.testCompletion_floor _)) (.refl s)
    exact (State.Keeps.of_floor (s.setDwell_floor _)).trans (State.refreshDwell_keeps _)

theorem State.workScan_keeps (s : State) : s.Keeps s.workScan := by
  unfold State.workScan
  split
  · exact .refl s
  · rename_i scan rest _
    refine State.Keeps.trans (.of_floor (s.setAudit_floor { s.audit with scans := rest })) ?_
    rw [State.auditScan_eq]
    refine State.Keeps.trans ?_ (State.answerFace_keeps _ scan)
    have hweighed := State.weighedFor_keeps (s.setAudit { s.audit with scans := rest }) scan
    unfold State.tallied
    exact .ite (hweighed.floor (State.sweepOff_floor _ _ _)) hweighed

end Sys2Proof.Machine
end

section
/-! SUPPORT. The station's stake in lines that are given up: PICK tasks cancelled and entries turned RESTORE keep the law of
the floor, and leave nothing of such a line but what is GRANTED or JAMMED (R128 to R132, R140). -/

namespace Sys2Proof.Machine

/-! ### Entries turned RESTORE (R140) -/

/-- The RESTORE entry of a tyre. -/
def PocketEntry.restored (e : PocketEntry) : PocketEntry :=
  { e with state := .restore, line := none, intent := .none, grantedAt := none }

theorem State.turnRestore_entry {s : State} {p : Fin 2} {e : PocketEntry} (hp : s.pocket p = .entry e) :
    s.turnRestore p = ((s.withdrawIntent p).setEntry p e.restored).requestRestore p := by
  obtain ⟨i, hi⟩ := State.entry_withdrawIntent hp
  unfold State.turnRestore
  simp only [hi]
  rfl

/-- One pocket's part in `restoreEntries`. -/
def State.restoreEntry (s : State) (test : LineRef → Bool) (p : Fin 2) : State :=
  match (s.pocket p).entryOf with
  | none => s
  | some e =>
    match e.line with
    | none => s
    | some l => if (e.state = .carried ∨ e.state = .loaded) ∧ test l then s.turnRestore p else s

theorem State.restoreEntries_eq (s : State) (test : LineRef → Bool) :
    s.restoreEntries test = (s.restoreEntry test 0).restoreEntry test 1 := rfl

/-- A pocket is left as it is, or holds a CARRIED or LOADED entry of the test's lines and turns RESTORE. -/
theorem State.restoreEntry_cases (s : State) (test : LineRef → Bool) (p : Fin 2) :
    s.restoreEntry test p = s ∧ (∀ e l, s.pocket p = .entry e → e.state = .carried ∨ e.state = .loaded →
      e.line = some l → test l = false) ∨
    ∃ e l, s.pocket p = .entry e ∧ e.line = some l ∧ test l = true ∧ s.restoreEntry test p = s.turnRestore p := by
  unfold State.restoreEntry
  cases hp : s.pocket p with
  | free | foreign => exact .inl ⟨rfl, fun e l he => by cases he⟩
  | entry e =>
    cases hl : e.line with
    | none => exact .inl ⟨by simp [Pocket.entryOf, hl], fun _ l he _ hline => by cases he; rw [hl] at hline; cases hline⟩
    | some l =>
      by_cases hturns : (e.state = .carried ∨ e.state = .loaded) ∧ test l = true
      · exact .inr ⟨e, l, rfl, hl, hturns.2, by simp only [Pocket.entryOf, hl, if_pos hturns]⟩
      · refine .inl ⟨by simp only [Pocket.entryOf, hl, if_neg hturns], ?_⟩
        rintro _ k ⟨⟩ hstate hline
        rw [hl] at hline
        obtain rfl := Option.some.inj hline
        exact Bool.eq_false_iff.2 fun htest => hturns ⟨hstate, htest⟩

theorem State.requestRestore_pocket (s : State) (p : Fin 2) : (s.requestRestore p).pocket = s.pocket := by
  unfold State.requestRestore
  split
  · rfl
  · split <;> rfl

theorem State.withdrawIntent_tasks (s : State) (p : Fin 2) : (s.withdrawIntent p).floor.tasks = s.floor.tasks := by
  unfold State.withdrawIntent
  split
  · rfl
  · rfl
  · split
    · rfl
    · split <;> rfl

section
variable {s : State} {c : Prop} {gone : LineRef → Prop} {debt : LineRef → Int} {test : LineRef → Bool}

/-- A pocket is left as it is or holds a RESTORE entry afterwards. -/
theorem State.restoreEntry_pocket (s : State) (test : LineRef → Bool) (p q : Fin 2) :
    (s.restoreEntry test p).pocket q = s.pocket q ∨
      ∃ e, (s.restoreEntry test p).pocket q = .entry e ∧ e.state = .restore := by
  obtain ⟨hsame, _⟩ | ⟨e, l, hp, _, _, hturned⟩ := s.restoreEntry_cases test p
  · exact .inl (by rw [hsame])
  · rw [hturned, State.turnRestore_entry hp, State.requestRestore_pocket, State.setEntry, State.pocket_setPocket]
    split
    · exact .inr ⟨_, rfl, rfl⟩
    · rename_i hne
      obtain hsame | ⟨rfl, _⟩ := s.pocket_withdrawIntent p q
      · exact .inl hsame
      · exact absurd rfl hne

theorem State.restoreEntry_given {p : Fin 2} {e : PocketEntry} {l : LineRef}
    (he : (s.restoreEntry test p).pocket p = .entry e) (hstate : e.state = .carried ∨ e.state = .loaded)
    (hl : e.line = some l) : test l = false := by
  obtain ⟨hsame, hnone⟩ | ⟨d, k, hp, _, _, hturned⟩ := s.restoreEntry_cases test p
  · exact hnone e l (by rwa [hsame] at he) hstate hl
  · rw [hturned, State.turnRestore_entry hp, State.requestRestore_pocket, State.setEntry, State.pocket_setPocket,
      if_pos rfl] at he
    cases he
    simp [PocketEntry.restored] at hstate

theorem State.restoreEntry_law (h : s.floor.Law c gone debt) (htest : ∀ l, test l = true → gone l) (p : Fin 2) :
    (s.restoreEntry test p).floor.Law c gone debt ∧
      ∀ l n, (.pick l, n) ∈ (s.restoreEntry test p).floor.tasks ↔ (.pick l, n) ∈ s.floor.tasks := by
  obtain ⟨hsame, _⟩ | ⟨e, k, hp, hk, hgone, hturned⟩ := s.restoreEntry_cases test p
  · rw [hsame]
    exact ⟨h, fun _ _ => Iff.rfl⟩
  · obtain ⟨i, hi⟩ := State.entry_withdrawIntent hp
    have hwithdrawn := s.withdrawIntent_keeps p h
    have hset : ((s.withdrawIntent p).setEntry p e.restored).floor.Law c gone debt := by
      have hcarries : ∀ l, ¬gone l →
          (Pocket.entry e.restored).carries l = ((s.withdrawIntent p).floor.pocket p).carries l := by
        intro l hl
        have hne : k ≠ l := fun hkl => hl (hkl ▸ htest k hgone)
        rw [PocketEntry.carries_restore rfl, show (s.withdrawIntent p).floor.pocket p = _ from hi]
        simp [Pocket.carries, Pocket.entryOf, hk, hne]
      rw [State.setEntry, State.setPocket_floor]
      refine hwithdrawn.setLike ?_ hcarries
      rw [show (s.withdrawIntent p).floor.pocket p = _ from hi]
      exact Pocket.entry_follows (by simp [PocketEntry.shaped, PocketEntry.restored]) (by simp [PocketEntry.restored])
        fun hl => by simp [PocketEntry.restored, PocketEntry.live] at hl
    have hasked := (State.Retasks.refl hset.slots).requestRestore p
    rw [hturned, State.turnRestore_entry hp]
    refine ⟨State.requestRestore_keeps _ p hset, fun l n => (hasked.picks l n).trans ?_⟩
    rw [not_false_eq_true, and_true, ← s.withdrawIntent_tasks p]
    rfl

/-! ### Lines given up (R129, R130, R132) -/

/-- The PICK tasks of some lines cancelled, and their entries turned RESTORE. -/
def State.givenUp (s : State) (test : LineRef → Bool) : State := (s.cancelPicks test).restoreEntries test

/-- Lines given up while they are gone keep the law, and no PICK task and no live entry of theirs is left. -/
theorem State.givenUp_law (h : s.floor.Law c gone debt) (htest : ∀ l, test l = true → gone l) :
    (s.givenUp test).floor.Law c gone debt ∧
    (∀ l n, test l = true → (.pick l, n) ∉ (s.givenUp test).floor.tasks) ∧
    ∀ p e l, (s.givenUp test).floor.pocket p = .entry e → e.live = true → e.line = some l → test l = false := by
  obtain ⟨hfirst, hfirstPicks⟩ := State.restoreEntry_law (State.cancelPicks_gone h htest) htest 0
  obtain ⟨hlaw, hpicks⟩ := State.restoreEntry_law hfirst htest 1
  rw [← State.restoreEntries_eq] at hlaw hpicks
  have hnone : ∀ l n, test l = true → (.pick l, n) ∉ (s.givenUp test).floor.tasks := by
    intro l n hl hmem
    have hcancelled := ((State.cancelPicks_picks h test l n).1 ((hfirstPicks l n).1 ((hpicks l n).1 hmem))).2
    rw [hl] at hcancelled
    cases hcancelled
  refine ⟨hlaw, hnone, fun p e l he hlive hl => ?_⟩
  rcases PocketEntry.live_iff.1 hlive with hassigned | hstate
  · obtain ⟨k, hk, hmem⟩ := hlaw.task he hassigned
    rw [hl] at hk
    obtain rfl := Option.some.inj hk
    exact Bool.eq_false_iff.2 fun htrue => hnone l _ htrue hmem
  · change (s.givenUp test).pocket p = .entry e at he
    rw [State.givenUp, State.restoreEntries_eq] at he
    obtain rfl | rfl : p = 0 ∨ p = 1 := by omega
    · obtain hsame | ⟨d, hd, hrestore⟩ := ((s.cancelPicks test).restoreEntry test 0).restoreEntry_pocket test 1 0
      · exact State.restoreEntry_given (hsame ▸ he) hstate hl
      · rw [he] at hd
        cases hd
        simp [hrestore] at hstate
    · exact State.restoreEntry_given he hstate hl

end

/-! ### Operations between which nothing is gone -/

/-- Every law of the floor of one state with no line gone is a law of the other's. -/
def State.Preserves (s t : State) : Prop := ∀ ⦃c : Prop⦄ ⦃debt : LineRef → Int⦄,
  s.floor.Law c (fun _ => False) debt → t.floor.Law c (fun _ => False) debt

theorem State.Keeps.preserves {s t : State} (h : s.Keeps t) : s.Preserves t := fun _ _ hs => h hs

theorem State.Preserves.refl (s : State) : s.Preserves s := (State.Keeps.refl s).preserves

theorem State.Preserves.trans {s t u : State} (h : s.Preserves t) (g : t.Preserves u) : s.Preserves u :=
  fun _ _ hs => g (h hs)

theorem State.Preserves.keeps {s t u : State} (h : s.Preserves t) (g : t.Keeps u) : s.Preserves u := h.trans g.preserves

theorem State.Preserves.floor {s t u : State} (h : s.Preserves t) (g : u.floor = t.floor) : s.Preserves u :=
  h.keeps (.of_floor g)

theorem State.Preserves.of_floor {s t : State} (h : t.floor = s.floor) : s.Preserves t := (State.Keeps.of_floor h).preserves

theorem State.Preserves.ite {c : Prop} [Decidable c] {s t u : State} (ht : s.Preserves t) (hu : s.Preserves u) :
    s.Preserves (if c then t else u) := by split <;> assumption

theorem foldl_preserves {α : Type} {f : State → α → State} (h : ∀ (s : State) (x : α), s.Preserves (f s x)) (xs : List α)
    (s : State) : s.Preserves (xs.foldl f s) := by
  induction xs generalizing s with
  | nil => exact .refl s
  | cons x rest ih => exact (h s x).trans (ih (f s x))

/-! ### A bay cleared, a lane idle (R128 to R130) -/

/-- Which bays are OPEN is part of what is kept. -/
theorem State.bays_of_kept {s t : State} (h : t.kept = s.kept) (i : Fin 8) (b : Fin 4) :
    ((t.lane i).bays[b]).isSome = ((s.lane i).bays[b]).isSome := by
  have hlanes : t.sharedLanes = s.sharedLanes := congrArg Kept.lanes h
  have hbay := congrArg (fun v : Vector Lane 8 => ((v[i]).bays[b]).isSome) hlanes
  simpa [State.sharedLanes, Lane.shared, State.lane] using hbay

/-- The lines of a FREE bay have no record. -/
theorem State.own_of_free {s : State} {l : LineRef} (h : ((s.lane l.lane).bays[l.bay]).isSome = false) :
    s.floor.own l = none ∧ s.floor.opens l = false ∧ s.floor.anchor l = false := by
  have hopen : s.openBay l = none := by
    rw [Option.eq_none_iff_forall_ne_some]
    intro b hb
    rw [(State.openBay_eq_some.1 hb).2.1] at h
    cases h
  refine ⟨?_, ?_, ?_⟩
  · simp [State.floor, State.lineAt_eq, hopen]
  · simp [State.floor, hopen]
  · refine Bool.eq_false_iff.2 fun hanchor => ?_
    have hsome := (State.isAnchor_iff.1 hanchor).2
    rw [hopen] at hsome
    cases hsome

/-- The lanes change only where lines are gone. -/
theorem State.relane {s t : State} {c : Prop} {gone gone' : LineRef → Prop} {debt : LineRef → Int}
    (h : s.floor.Law c gone debt) (hgone : ∀ l, gone l → gone' l) (hpocket : t.pocket = s.pocket)
    (hqueue : t.planner.queue = s.planner.queue) (hopen : ∀ l, ¬gone' l → t.openBay l = s.openBay l)
    (hhead : ∀ l, ¬gone' l → (s.lane l.lane).ageList.head? = some l.bay → (t.lane l.lane).ageList.head? = some l.bay) :
    t.floor.Law c gone' debt := by
  have hanchor : ∀ l, ¬gone' l → s.floor.anchor l = true → t.floor.anchor l = true := fun l hl ha => by
    obtain ⟨hage, hsome⟩ := State.isAnchor_iff.1 ha
    exact State.isAnchor_iff.2 ⟨hhead l hl hage, by rwa [hopen l hl]⟩
  have hfloor : t.floor = { s.floor with opens := t.floor.opens, anchor := t.floor.anchor, own := t.floor.own } := by
    unfold State.floor
    rw [hpocket, hqueue]
  rw [hfloor]
  refine h.relane hgone (fun l hl ho => ?_) hanchor fun l hl => ?_
  · simpa [State.floor, hopen l hl] using ho
  · simp [State.floor, State.lineAt_eq, hopen l hl]

/-- The lines of a bay. -/
def inBay (lane : Fin 8) (bay : Fin 4) (l : LineRef) : Bool := decide (l.lane = lane) && decide (l.bay = bay)

theorem inBay_iff {lane : Fin 8} {bay : Fin 4} {l : LineRef} : inBay lane bay l = true ↔ l.lane = lane ∧ l.bay = bay := by
  simp [inBay]

theorem State.giveUpBay_eq (s : State) (lane : Fin 8) (bay : Fin 4) :
    s.giveUpBay lane bay = (s.endRecords fun c => c.ref.inBay lane bay).givenUp (inBay lane bay) := rfl

/-- Which bays are OPEN once one has been freed. -/
theorem State.bays_freeBay (s : State) (lane i : Fin 8) (bay b : Fin 4) :
    (((s.freeBay lane bay).lane i).bays[b]).isSome = (((s.lane i).bays[b]).isSome && !(decide (i = lane) && decide (b = bay))) := by
  unfold State.freeBay
  split
  · rename_i hnone
    by_cases hplace : i = lane ∧ b = bay
    · obtain ⟨rfl, rfl⟩ := hplace
      simp [hnone]
    · have hfalse : (decide (i = lane) && decide (b = bay)) = false := by simpa using hplace
      simp [hfalse]
  · rw [State.lane_setLane]
    by_cases hlane : i = lane
    · subst hlane
      by_cases hbay : b = bay
      · subst hbay
        simp
      · have hne : bay.val ≠ b.val := fun h => hbay (Fin.ext h.symm)
        simp [hbay, Vector.getElem_set_ne, hne]
    · simp [hlane, Ne.symm hlane]

/-- Freeing a bay changes nothing of the lines outside it. -/
theorem State.freeBay_law {s : State} {c : Prop} {debt : LineRef → Int} (h : s.floor.Law c (fun _ => False) debt)
    (lane : Fin 8) (bay : Fin 4) : (s.freeBay lane bay).floor.Law c (fun l => inBay lane bay l = true) debt := by
  unfold State.freeBay
  split
  · exact State.relane h (fun _ => False.elim) rfl rfl (fun _ _ => rfl) fun _ _ => id
  · refine State.relane h (fun _ => False.elim) rfl rfl (fun l hl => ?_) fun l hl hhead => ?_
    · rw [inBay_iff] at hl
      unfold State.openBay
      rw [State.lane_setLane]
      by_cases hlane : lane = l.lane
      · have hne : bay.val ≠ l.bay.val := fun hb => hl ⟨hlane.symm, Fin.ext hb.symm⟩
        subst hlane
        simp [Vector.getElem_set_ne, hne]
      · rw [if_neg hlane]
    · rw [inBay_iff] at hl
      rw [State.lane_setLane]
      by_cases hlane : lane = l.lane
      · have hne : l.bay ≠ bay := fun hb => hl ⟨hlane.symm, hb⟩
        subst hlane
        rw [if_pos rfl]
        obtain ⟨rest, hrest⟩ := List.head?_eq_some_iff.1 hhead
        simp [hrest, hne]
      · rwa [if_neg hlane]

theorem State.giveUpBay_kept (s : State) (lane : Fin 8) (bay : Fin 4) : (s.giveUpBay lane bay).kept = s.kept := by
  unfold State.giveUpBay
  simp

theorem State.clearBay_preserves (s : State) (lane : Fin 8) (bay : Fin 4) (resend : Bool) :
    s.Preserves (s.clearBay lane bay resend) := by
  have hgiven : s.Preserves ((s.freeBay lane bay).giveUpBay lane bay) := by
    intro c debt h
    have hfreed := State.freeBay_law h lane bay
    rw [← State.endRecords_floor _ fun c => c.ref.inBay lane bay] at hfreed
    obtain ⟨hlaw, hpicks, hlive⟩ := State.givenUp_law hfreed fun _ => id
    rw [← State.giveUpBay_eq] at hlaw hpicks hlive
    refine Floor.Law.regain hlaw (fun l hl => ?_) (fun l n hl => hpicks l n hl) fun p e l he hlives hline hl => ?_
    · refine (State.own_of_free (s := (s.freeBay lane bay).giveUpBay lane bay) ?_).1
      obtain ⟨rfl, rfl⟩ := inBay_iff.1 hl
      rw [State.bays_of_kept (State.giveUpBay_kept _ _ _), State.bays_freeBay]
      simp
    · rw [hlive p e l he hlives hline] at hl
      cases hl
  unfold State.clearBay
  exact .ite (hgiven.keeps (State.resendRefused_keeps _ lane)) hgiven

theorem State.hearBayClear_preserves (s : State) (lane : Fin 8) (bay : Fin 4) (order : Nat) :
    s.Preserves (s.hearBayClear lane bay order) := by
  unfold State.hearBayClear
  split
  · exact .refl s
  · exact s.clearBay_preserves lane bay true

/-- Which bays are OPEN once one has been cleared. -/
theorem State.bays_clearBay (s : State) (lane i : Fin 8) (bay b : Fin 4) (resend : Bool) :
    (((s.clearBay lane bay resend).lane i).bays[b]).isSome =
      (((s.lane i).bays[b]).isSome && !(decide (i = lane) && decide (b = bay))) := by
  have hkept : (s.clearBay lane bay resend).kept = (s.freeBay lane bay).kept := by
    unfold State.clearBay
    simp only
    split
    · exact (State.resendRefused_kept _ _).trans (State.giveUpBay_kept _ _ _)
    · exact State.giveUpBay_kept _ _ _
  rw [State.bays_of_kept hkept, State.bays_freeBay]

theorem State.bays_clearBays (s : State) (lane : Fin 8) (bays : List (Fin 4)) (b : Fin 4) :
    (((bays.foldl (fun u bay => u.clearBay lane bay false) s).lane lane).bays[b]).isSome =
      (((s.lane lane).bays[b]).isSome && !decide (b ∈ bays)) := by
  induction bays generalizing s with
  | nil => simp
  | cons bay rest ih =>
    rw [List.foldl_cons, ih, State.bays_clearBay]
    by_cases hb : b = bay <;> simp [hb]

/-- A lane of FREE bays may take any other record of FREE bays. -/
theorem State.setLane_floor_free {s : State} {lane : Fin 8} {x : Lane} (hs : ∀ b : Fin 4, ((s.lane lane).bays[b]).isSome = false)
    (hx : ∀ b : Fin 4, (x.bays[b]).isSome = false) : (s.setLane lane x).floor = s.floor := by
  have hfree : ∀ l : LineRef, lane = l.lane → (((s.setLane lane x).lane l.lane).bays[l.bay]).isSome = false := by
    rintro l rfl
    rw [State.lane_setLane, if_pos rfl]
    exact hx l.bay
  have hopen : ∀ l, (s.setLane lane x).openBay l = s.openBay l := by
    intro l
    by_cases hlane : lane = l.lane
    · have hnew := (State.own_of_free (hfree l hlane)).2.1
      have hold := (State.own_of_free (s := s) (l := l) (by rw [← hlane]; exact hs l.bay)).2.1
      simp only [State.floor, Option.isSome_eq_false_iff, Option.isNone_iff_eq_none] at hnew hold
      rw [hnew, hold]
    · unfold State.openBay
      rw [State.lane_setLane, if_neg hlane]
  have hanchor : (s.setLane lane x).isAnchor = s.isAnchor := by
    funext l
    rw [Bool.eq_iff_iff, State.isAnchor_iff, State.isAnchor_iff, hopen, State.lane_setLane]
    by_cases hlane : lane = l.lane
    · have hold := (State.own_of_free (s := s) (l := l) (by rw [← hlane]; exact hs l.bay)).2.1
      rw [show (s.openBay l).isSome = false from hold]
      simp
    · rw [if_neg hlane]
  have hline : (s.setLane lane x).lineAt = s.lineAt := funext fun l => by rw [State.lineAt_eq, State.lineAt_eq, hopen]
  unfold State.floor
  rw [hanchor, hline]
  simp only [hopen]
  rfl

theorem State.idleLane_preserves {s : State} (hlanes : s.lanesOk = true) (lane : Fin 8) : s.Preserves (s.idleLane lane) := by
  have hcleared := foldl_preserves (fun (u : State) (bay : Fin 4) => u.clearBay_preserves lane bay false)
    (s.lane lane).ageList s
  have hfree : ∀ b : Fin 4, ((((s.lane lane).ageList.foldl (fun u bay => u.clearBay lane bay false) s).lane lane).bays[b]).isSome =
      false := by
    intro b
    have hok := (List.all_eq_true.1 hlanes) lane (List.mem_finRange _)
    simp only [Lane.ok, Bool.and_eq_true, List.all_eq_true] at hok
    obtain ⟨⟨⟨⟨⟨⟨⟨_, hlisted⟩, _⟩, _⟩, _⟩, _⟩, _⟩, _⟩ := hok
    rw [State.bays_clearBays, ← of_decide_eq_true (hlisted b (List.mem_finRange _))]
    simp
  exact hcleared.floor (State.setLane_floor_free hfree hfree)

end Sys2Proof.Machine
end

section
/-! SUPPORT. A lane that turns BLIND keeps the law of the floor, and so do the error counters and the frames heard, which can
turn every lane BLIND (R131, R132, R158 to R167). -/

namespace Sys2Proof.Machine

/-! ### Blindness (R131, R132) -/

section
variable {s : State} {c : Prop} {gone : LineRef → Prop} {debt : LineRef → Int}

/-- A relinquish of a line that is gone. -/
theorem State.addRelinquish_gone (h : s.floor.Law c gone debt) {l : LineRef} (hl : gone l) (q : Nat) :
    (s.addRelinquish l q).floor.Law c gone debt := by
  rw [State.addRelinquish_floor]
  exact h.relane (fun _ => id) (fun _ _ => id) (fun _ _ => id) fun k hk => Function.update_of_ne (by rintro rfl; exact hk hl) _ _

theorem State.giveBackLines_gone (h : s.floor.Law c gone debt) {lines : List LineRef} (hlines : ∀ l ∈ lines, gone l) :
    (lines.foldl State.giveBackLine s).floor.Law c gone debt := by
  induction lines generalizing s with
  | nil => exact h
  | cons l rest ih =>
    obtain ⟨hl, hrest⟩ := List.forall_mem_cons.1 hlines
    refine ih ?_ hrest
    unfold State.giveBackLine
    split
    · exact h
    · exact State.addRelinquish_gone h hl _

end

theorem Lane.mem_lineRefs {x : Lane} {lane : Fin 8} {l : LineRef} (h : l ∈ x.lineRefs lane) : l.lane = lane := by
  obtain ⟨bay, _, hl⟩ := List.mem_flatMap.1 h
  split at hl
  · cases hl
  · obtain ⟨n, _, rfl⟩ := List.mem_map.1 hl
    rfl

/-- The lane records turn BLIND of a lane whose lines are gone, of which nothing is picked or waits. -/
theorem State.setBlind_law {s : State} {c : Prop} {debt : LineRef → Int} {lane : Fin 8}
    (h : s.floor.Law c (fun l => l.lane = lane) debt) (hpicks : ∀ l n, l.lane = lane → (.pick l, n) ∉ s.floor.tasks)
    (hlive : ∀ p e l, s.floor.pocket p = .entry e → e.live = true → e.line = some l → ¬l.lane = lane) :
    (s.setLane lane Lane.blind).floor.Law c (fun _ => False) debt := by
  have hset : (s.setLane lane Lane.blind).floor.Law c (fun l => l.lane = lane) debt := by
    refine State.relane h (fun _ => id) rfl rfl (fun l hl => ?_) fun l hl hhead => ?_
    · unfold State.openBay
      rw [State.lane_setLane, if_neg (Ne.symm hl)]
    · rwa [State.lane_setLane, if_neg (Ne.symm hl)]
  refine hset.regain (fun l hl => (State.own_of_free ?_).1) hpicks hlive
  subst hl
  rw [State.lane_setLane, if_pos rfl]
  simp [Lane.blind]

theorem State.blindLane_preserves (s : State) (lane : Fin 8) : s.Preserves (s.blindLane lane) := by
  unfold State.blindLane
  refine .ite (fun c debt h => ?_) (.refl s)
  have hout : s.floor.Law c (fun l => l.lane = lane) debt :=
    h.relane (fun _ => False.elim) (fun _ _ => id) (fun _ _ => id) fun _ _ => rfl
  have hgiven := State.giveBackLines_gone (lines := (s.lane lane).lineRefs lane) hout fun l hl => Lane.mem_lineRefs hl
  rw [← State.freeRecords_floor _ fun x => x.ref.inLane lane, ← State.discardComputation_floor _ (Ref.inLane lane)] at hgiven
  obtain ⟨hlaw, hpicks, hlive⟩ := State.givenUp_law (test := fun l => decide (l.lane = lane)) hgiven fun l => of_decide_eq_true
  exact State.setBlind_law hlaw (fun l n hl => hpicks l n (decide_eq_true hl))
    fun p e l he hlives hline => of_decide_eq_false (hlive p e l he hlives hline)

theorem State.blindAll_preserves (s : State) : s.Preserves s.blindAll := foldl_preserves State.blindLane_preserves _ s

theorem State.loseView_preserves (s : State) : s.Preserves s.loseView := by
  have hempty : s.loseView.floor = s.blindAll.floor := State.setContests_floor _ _
  exact s.blindAll_preserves.floor hempty

/-! ### Error counters and frames heard (R158 to R167) -/

theorem State.enterOff_preserves (s : State) : s.Preserves s.enterOff := by
  unfold State.enterOff
  simp only
  refine State.Preserves.trans (State.Preserves.keeps ?_ (State.dropIntents_keeps _)) (State.loseView_preserves _)
  exact State.Preserves.floor (.of_floor s.contestExit_floor) (State.setPort_floor _ _)

theorem State.setCounters_preserves (s : State) (tx rx : Nat) : s.Preserves (s.setCounters tx rx) := by
  have hset : s.Preserves (s.setPort (s.port.withCounters tx rx)) := .of_floor rfl
  unfold State.setCounters
  refine .ite hset ?_
  split
  · exact hset
  · exact hset.floor (State.contestExit_floor _)
  · exact hset.trans (State.enterOff_preserves _)

theorem State.transmitError_preserves (s : State) : s.Preserves s.transmitError := s.setCounters_preserves _ _

theorem State.joinOverflow_preserves (s : State) : s.Preserves s.joinOverflow := by
  have hset : s.Preserves (s.setControl { s.control with joinSince := some s.timer }) := .of_floor rfl
  unfold State.joinOverflow
  exact hset.trans (State.loseView_preserves _)

theorem State.receiveError_preserves (s : State) : s.Preserves s.receiveError := by
  have hcounted := s.setCounters_preserves s.port.txErrors (raiseTo maxByteCount 1 s.port.rxErrors)
  have hjoined := State.Preserves.ite (c := s.listenOnly = true) (hcounted.trans (State.joinOverflow_preserves _)) hcounted
  unfold State.receiveError
  exact .ite ((hjoined.floor (State.contestExit_floor _)).trans (State.loseView_preserves _)) hjoined

theorem State.failTransmit_preserves (s : State) : s.Preserves s.failContender.transmitError :=
  State.Preserves.trans (.of_floor s.failContender_floor) (State.transmitError_preserves _)

theorem State.busError_preserves (s : State) (kind : BusError) (role : BusRole) : s.Preserves (s.busError kind role) := by
  have hstuck : s.Preserves (s.setPort (s.port.stick kind)) := .of_floor rfl
  cases role with
  | transmitter => exact hstuck.trans (State.failTransmit_preserves _)
  | receiver => exact hstuck.trans (State.receiveError_preserves _)

theorem State.markSeen_preserves (s : State) (role : BusRole) : s.Preserves (s.markSeen role) := by
  cases role with
  | transmitter => exact s.failTransmit_preserves
  | receiver => exact .refl s

theorem State.held_floor (s : State) (role : BusRole) : (s.held role).floor = s.floor := by
  cases role with
  | transmitter => exact s.failContender_floor
  | receiver => rfl

theorem State.countSuccess_preserves (s : State) (f : Frame) : s.Preserves (s.countSuccess f) := by
  unfold State.countSuccess
  refine .ite (State.Preserves.trans ?_ (State.setCounters_preserves _ _ _)) (s.setCounters_preserves _ _)
  exact .of_floor (State.setPort_floor _ _)

theorem State.hear_preserves (s : State) (f : Frame) : s.Preserves (s.hear f) := by
  unfold State.hear
  exact .ite (s.busError_preserves _ _) (.ite (.ite s.joinOverflow_preserves (.of_floor (s.held_floor _)))
    ((s.countSuccess_preserves f).floor (State.enqueue_floor _ f)))

end Sys2Proof.Machine
end

section
/-! SUPPORT. An ORDER heard keeps the law of the floor where no tyre that is being released carries a line of it (R121). -/

namespace Sys2Proof.Machine

/-- Which bay a line names once an order has opened its bay. -/
theorem State.openBay_openOrder {s : State} {o : OrderFields} (h : s.orderAccepted o = true) (l : LineRef) :
    (s.openOrder o).openBay l = if inBay o.lane o.bay l = true then
      (if o.order = l.order then some { order := o.order, lines := o.lines } else none) else s.openBay l := by
  obtain ⟨_, hsynced, _⟩ := State.orderAccepted_iff.1 h
  obtain ⟨lane, bay, line, order⟩ := l
  unfold State.openBay State.openOrder
  simp only [State.lane_setLane, inBay_iff]
  by_cases hlane : lane = o.lane
  · subst hlane
    by_cases hbay : bay = o.bay
    · subst hbay
      simp [hsynced]
    · have hne : o.bay.val ≠ bay.val := fun hval => hbay (Fin.ext hval.symm)
      simp [hbay, Vector.getElem_set_ne, hne]
  · simp [hlane, Ne.symm hlane]

/-- The lines of an order just opened are those it names, as the ORDER carries them. -/
theorem State.lineAt_openOrder {s : State} {o : OrderFields} (h : s.orderAccepted o = true) {l : LineRef} {x : OrderLine}
    (hl : inBay o.lane o.bay l = true) (hx : (s.openOrder o).lineAt l = some x) : x ∈ o.lines ∧ .pick l ∈ o.refs := by
  rw [State.lineAt_eq, State.openBay_openOrder h, if_pos hl] at hx
  split at hx
  · rename_i horder
    obtain ⟨hlt, hget⟩ := List.getElem?_eq_some_iff.1 hx
    refine ⟨hget ▸ List.getElem_mem hlt, List.mem_map.2 ⟨l.line, List.mem_range.2 hlt, ?_⟩⟩
    obtain ⟨hlane, hbay⟩ := inBay_iff.1 hl
    rw [← hlane, ← hbay, horder]
  · cases hx

/-- The lines of an ORDER start with nothing claimed or delivered (R121). -/
theorem orderOf_lines {p : List Byte} {x : OrderLine} (h : x ∈ (orderOf p).lines) : x.ownClaim = 0 ∧ x.ownDelivered = 0 := by
  obtain ⟨n, _, rfl⟩ := List.mem_map.1 h
  exact ⟨rfl, rfl⟩

/-- No pocket holds a tyre of a line that no entry names but while it is ASSIGNED. -/
theorem carriedCount_eq_zero {pocket : Fin 2 → Pocket} {l : LineRef}
    (h : ∀ p e, pocket p = .entry e → e.state ≠ .assigned → e.state ≠ .restore → e.line ≠ some l) :
    carriedCount pocket l = 0 := by
  have hnone : ∀ p, (pocket p).carries l = false := by
    intro p
    cases hp : pocket p with
    | free | foreign => rfl
    | entry e =>
      refine Bool.eq_false_iff.2 fun hcarries => ?_
      simp only [Pocket.carries, Pocket.entryOf, Option.any_some, Bool.and_eq_true, decide_eq_true_eq] at hcarries
      exact h p e hp hcarries.1.2 hcarries.2 hcarries.1.1
  unfold carriedCount
  rw [hnone, hnone]
  rfl

theorem State.openOrder_law {s : State} {o : OrderFields} {c : Prop} (h : s.floor.Law c (fun _ => False) fun _ => 0)
    (haccepted : s.orderAccepted o = true) (hlines : ∀ x ∈ o.lines, x.ownClaim = 0 ∧ x.ownDelivered = 0)
    (hfair : c → ∀ p e l, s.pocket p = .entry e → e.live = false → e.line = some l → .pick l ∉ o.refs) :
    (s.openOrder o).floor.Law c (fun _ => False) fun _ => 0 := by
  have hfree : ∀ l, inBay o.lane o.bay l = true → s.floor.own l = none ∧ s.floor.opens l = false := by
    intro l hl
    obtain ⟨lane, bay, line, order⟩ := l
    obtain ⟨rfl, rfl⟩ := inBay_iff.1 hl
    obtain ⟨_, _, hnone, _⟩ := State.orderAccepted_iff.1 haccepted
    obtain ⟨hown, hopen, _⟩ := State.own_of_free (s := s) (l := ⟨o.lane, o.bay, line, order⟩) (by simp [hnone])
    exact ⟨hown, hopen⟩
  have hopened : (s.openOrder o).floor.Law c (fun l => inBay o.lane o.bay l = true) fun _ => 0 := by
    refine State.relane h (fun _ => False.elim) rfl rfl (fun l hl => ?_) fun l _ hhead => ?_
    · rw [State.openBay_openOrder haccepted, if_neg hl]
    · unfold State.openOrder
      rw [State.lane_setLane]
      split
      · rename_i hlane
        rw [← hlane] at hhead
        simp [hhead]
      · exact hhead
  have hlive : ∀ p e l, s.floor.pocket p = .entry e → e.live = true → e.line = some l → ¬inBay o.lane o.bay l = true := by
    intro p e l he hlives hl hin
    have hopen := h.bay he hlives hl id
    rw [(hfree l hin).2] at hopen
    cases hopen
  refine hopened.readmit (fun l own delivered hc hin heq => ?_) (fun l n hc hin hmem => ?_) hlive
  · obtain ⟨x, hx, hcounts⟩ := Option.map_eq_some_iff.1 heq
    obtain ⟨hmem, href⟩ := State.lineAt_openOrder haccepted hin hx
    obtain ⟨hclaim, hdelivered⟩ := hlines x hmem
    obtain ⟨rfl, rfl⟩ := Prod.mk.inj hcounts
    have hnone : carriedCount s.floor.pocket l = 0 := carriedCount_eq_zero fun p e he _ _ hl => by
      cases hlives : e.live with
      | true => exact hlive p e l he hlives hl hin
      | false => exact hfair hc p e l he hlives hl href
    have hsame : carriedCount (s.openOrder o).floor.pocket l = 0 := hnone
    simp [hclaim, hdelivered, hsame]
  · have hsome := h.line hc id (show (.pick l, n) ∈ s.floor.tasks from hmem)
    rw [(hfree l hin).1] at hsome
    cases hsome

theorem State.takeOrder_law {s : State} {p : List Byte} {c : Prop} (h : s.floor.Law c (fun _ => False) fun _ => 0)
    (hfair : c → ∀ q e l, s.pocket q = .entry e → e.live = false → e.line = some l → .pick l ∉ (orderOf p).refs)
    (stamp : Timer) : (s.takeOrder (orderOf p) stamp).floor.Law c (fun _ => False) fun _ => 0 := by
  by_cases haccepted : s.orderAccepted (orderOf p) = true
  · rw [State.takeOrder_accepted haccepted, foldl_floor State.openRound_floor]
    exact State.openOrder_law h haccepted (fun x => orderOf_lines) hfair
  · rwa [State.takeOrder_refused haccepted]

end Sys2Proof.Machine
end

section
/-! SUPPORT. A CLAIM heard keeps the law of the floor where this station's own one applies no more than its record has slots
(R108 to R112, R122). -/

namespace Sys2Proof.Machine

/-! ### A PICK task made (R110) -/

theorem pickCount_append (ts : List (TaskWork × Nat)) (l m : LineRef) (slot : Nat) :
    pickCount (ts ++ [(.pick l, slot)]) m = pickCount ts m + if l = m then 1 else 0 := by
  simp [pickCount, List.countP_append, List.countP_singleton]

/-- A PICK task on a slot without one is paid from what is owed of its line. -/
theorem Floor.Law.addPick {f : Floor} {c : Prop} {gone : LineRef → Prop} {debt : LineRef → Int} (h : f.Law c gone debt)
    {l : LineRef} {slot : Nat} (hnew : slot ∉ f.tasks.map Prod.snd) (hline : c → ¬gone l → (f.own l).isSome = true)
    (hpaid : c → 1 ≤ debt l) :
    ({ f with tasks := f.tasks ++ [(.pick l, slot)] } : Floor).Law c gone (Function.update debt l (debt l - 1)) :=
  { h with
    slots := by
      rw [List.map_append]
      exact h.slots.append (List.nodup_singleton _) (List.disjoint_singleton.2 hnew)
    task := fun he hstate => by
      obtain ⟨k, hk, hmem⟩ := h.task he hstate
      exact ⟨k, hk, List.mem_append_left _ hmem⟩
    account := fun {m own delivered} hc hgone heq => by
      obtain ⟨haccount, howed⟩ := h.account hc hgone heq
      dsimp only
      rw [pickCount_append]
      by_cases hm : l = m
      · subst hm
        have hone := hpaid hc
        rw [Function.update_self, if_pos rfl]
        exact ⟨by push_cast; omega, by omega⟩
      · rw [Function.update_of_ne (Ne.symm hm), if_neg hm]
        exact ⟨by omega, howed⟩
    line := fun {m n} hc hgone hmem => by
      rcases List.mem_append.1 hmem with hold | hin
      · exact h.line hc hgone hold
      · obtain ⟨heq, _⟩ := Prod.mk.inj (List.mem_singleton.1 hin)
        obtain rfl := TaskWork.pick.inj heq
        exact hline hc hgone }

section
variable {s : State} {c : Prop} {gone : LineRef → Prop} {debt : LineRef → Int}

/-- A slot taken for a pick claim is paid for; one that fails is not. -/
theorem State.takePickSlot_law {line : LineRef} {slot : Nat} {d : Int} (h : s.floor.Law c gone (Function.update debt line d))
    (hpaid : c → 1 ≤ d) : (s.takePickSlot line slot).1.floor.Law c gone
      (Function.update debt line (if (s.takePickSlot line slot).2 = true then d - 1 else d)) := by
  have hread := (s.readSlot_reads slot).keeps h
  unfold State.takePickSlot
  generalize (s.readSlot slot).state = r at hread
  simp only
  cases hline : r.lineAt line with
  | none => simpa using hread
  | some l =>
    have hasked := (r.request_reads slot (inStates [.occupied]) (SlotRecord.keeping .pickClaimed)).keeps hread
    have hfloor := State.request_applied (s := r) slot (inStates [.occupied]) (SlotRecord.keeping .pickClaimed) (by decide)
      fun x => by simp [SlotRecord.keeping]
    dsimp only
    generalize r.request slot (inStates [.occupied]) (SlotRecord.keeping .pickClaimed) = q at hasked hfloor ⊢
    by_cases hfit : r.pickFit l slot = true
    · by_cases happlied : q.applied = true
      · by_cases htask : q.state.taskFits (.pick line) slot = true
        · have hnew := State.taskOn_none.1 (State.taskOn_of_fits htask)
          have hsome : (q.state.floor.own line).isSome = true := by
            rw [hfloor happlied]
            simp [State.floor, hline]
          have hadded := hasked.addPick hnew (fun _ _ => hsome) fun hc => by simpa using hpaid hc
          simp only [hfit, happlied, htask, if_true, State.addTask_floor]
          simpa using hadded
        · simp only [hfit, happlied, htask, if_true, Bool.false_eq_true, if_false]
          exact (q.state.request_reads slot (inStates [.pickClaimed]) (SlotRecord.keeping .occupied)).keeps hasked
      · simpa only [hfit, happlied, if_true, Bool.false_eq_true, if_false] using hasked
    · simpa only [hfit, Bool.false_eq_true, if_false] using hread

/-- Of the slots of a pick claim, those that failed stay owed. -/
theorem State.takePickSlots_law {line : LineRef} (slots : List Nat) {d : Int}
    (h : s.floor.Law c gone (Function.update debt line d)) (hpaid : c → (slots.length : Int) ≤ d) :
    (State.takeSlots (fun t n => t.takePickSlot line n) s slots).1.floor.Law c gone (Function.update debt line
      (d - slots.length + (State.takeSlots (fun t n => t.takePickSlot line n) s slots).2)) := by
  induction slots generalizing s d with
  | nil => simpa [State.takeSlots] using h
  | cons n rest ih =>
    have hfirst := State.takePickSlot_law (slot := n) h fun hc => by
      have hlen := hpaid hc
      rw [List.length_cons] at hlen
      omega
    have hrest := ih hfirst fun hc => by
      have hlen := hpaid hc
      rw [List.length_cons] at hlen
      split <;> omega
    refine Eq.mp (congrArg _ (congrArg _ ?_)) hrest
    simp only [State.takeSlots, List.length_cons]
    split <;> omega

theorem State.relinquishSome_law {line : LineRef} {q : Nat} (h : s.floor.Law c gone (Function.update debt line q)) :
    (s.relinquishSome line q).floor.Law c gone (Function.update debt line 0) := by
  unfold State.relinquishSome
  split
  · rename_i hq
    rwa [hq] at h
  · have hlaw := State.addRelinquish_law (l := line) (q := q) h fun _ _ _ _ _ => by rw [Function.update_self]; omega
    rwa [Function.update_self, sub_self, Function.update_idem] at hlaw

/-- A pick claim whose slots are those it has been applied for settles its line's account. -/
theorem State.takePick_law {line : LineRef} {slots : List Nat} {q : Nat}
    (h : s.floor.Law c gone (Function.update debt line q)) (hlength : c → slots.length = q) :
    (s.takePick line slots).floor.Law c gone (Function.update debt line 0) := by
  have htaken := State.takePickSlots_law slots h fun hc => by rw [hlength hc]
  unfold State.takePick
  refine State.relinquishSome_law (htaken.redebt fun l hc _ _ => ?_)
  rw [hlength hc, sub_self, zero_add]

end

/-! ### Store claims (R111) -/

theorem State.addLoad_keeps {s : State} {id slot : Nat} (h : s.taskFits (.load id) slot = true) :
    s.Keeps (s.addTask (.load id) slot) := fun _ _ _ hs =>
  ((State.Retasks.refl hs.slots).addTask (State.taskOn_of_fits h) (by simp)).law hs fun _ _ _ hno => hno

theorem State.takeStoreSlot_keeps (s : State) (id : Nat) (tyre : StockData) (slot : Nat) :
    s.Keeps (s.takeStoreSlot id tyre slot).1 := by
  have hread := (s.readSlot_reads slot).keeps
  unfold State.takeStoreSlot
  simp only
  split_ifs with hfit happlied htask
  · exact (hread.trans (State.request_reads slot _ _ _).keeps).trans (State.addLoad_keeps htask)
  · exact (hread.trans (State.request_reads slot _ _ _).keeps).trans (State.request_reads slot _ _ _).keeps
  · exact hread.trans (State.request_reads slot _ _ _).keeps
  · exact hread

theorem State.takeStoreSlots_keeps (s : State) (id : Nat) (tyre : StockData) (slots : List Nat) :
    s.Keeps (State.takeSlots (fun t n => t.takeStoreSlot id tyre n) s slots).1 := by
  induction slots generalizing s with
  | nil => exact .refl s
  | cons n rest ih => exact (s.takeStoreSlot_keeps id tyre n).trans (ih _)

theorem State.takeStore_keeps (s : State) (id : Nat) (tyre : StockData) (slots : List Nat) (stamp : Timer) :
    s.Keeps (s.takeStore id tyre slots stamp) := by
  have htaken := s.takeStoreSlots_keeps id tyre slots
  unfold State.takeStore
  refine .ite ?_ (.of_floor (s.reportFailed_floor id _))
  exact State.Keeps.floor (.ite htaken (htaken.floor (State.askReceiving_floor _ id _ stamp))) (State.reportFailed_floor _ id _)

/-! ### The claim applied and taken -/

section
variable {s : State} {c : Prop} {debt : LineRef → Int}

/-- An own CLAIM applied to its line is owed. -/
theorem State.applyClaim_law (h : s.floor.Law c (fun _ => False) debt) (line : LineRef) (k : Nat) :
    (s.applyClaim line k true).state.floor.Law c (fun _ => False)
      (Function.update debt line (debt line + (s.applyClaim line k true).quantity)) := by
  cases hx : s.lineAt line with
  | none => simpa [State.applyClaim, hx] using h
  | some x =>
    have hown : s.floor.own line = some (x.ownClaim, x.ownDelivered) := by simp [State.floor, hx]
    have hclaimed := h.reown (l := line) (g := fun y => (y.1 + min k x.remainder, y.2)) (change := (min k x.remainder : Nat))
      fun _ _ _ _ _ _ => ⟨by push_cast; omega, by omega⟩
    simp only [State.applyClaim, hx]
    rw [State.updateLine_floor, hx]
    rw [hown] at hclaimed
    simpa [OrderLine.judge_own, OrderLine.claim] using hclaimed

theorem State.applyClaim_other (s : State) (line : LineRef) (k : Nat) :
    (s.applyClaim line k false).state.floor = s.floor := by
  unfold State.applyClaim
  split
  · rfl
  · exact s.updateLine_floor_same line fun x => (x.claim k false).judge_own

theorem State.applyClaim_contests (s : State) (line : LineRef) (k : Nat) (own : Bool) :
    (s.applyClaim line k own).state.contests = s.contests := by
  unfold State.applyClaim
  split
  · rfl
  · unfold State.updateLine
    split
    · rfl
    · split <;> rfl

/-- An own pick claim heard is applied and taken. -/
theorem State.takeOwnPick_law {x : ClaimFields} {line : LineRef} {q : Nat} (href : x.ref = .pick line)
    (h : s.floor.Law c (fun _ => False) (Function.update debt line q))
    (hfair : c → ∀ r, s.claimOwner x = some r → q ≤ r.slots.length) (stamp : Timer) :
    (s.takeOwnClaim x q stamp).floor.Law c (fun _ => False) (Function.update debt line 0) := by
  unfold State.takeOwnClaim
  cases howner : s.claimOwner x with
  | none =>
    simp only [href]
    exact State.relinquishSome_law h
  | some r =>
    have hnamed : r.ref = .pick line := by
      have hfound := List.find?_some howner
      simp only [Contest.named, Bool.and_eq_true, decide_eq_true_eq] at hfound
      exact hfound.1.1.1.trans href
    rw [← State.freeClaimed_floor s r] at h
    simp only [hnamed]
    split
    · rename_i hq
      rwa [hq] at h
    · exact State.takePick_law h fun hc => by rw [List.length_take, min_eq_left (hfair hc r howner)]

/-- An own store claim leaves every line alone. -/
theorem State.takeOwnStore_keeps {x : ClaimFields} {id : Nat} (href : x.ref = .store id) (q : Nat) (stamp : Timer) :
    s.Keeps (s.takeOwnClaim x q stamp) := by
  unfold State.takeOwnClaim
  cases howner : s.claimOwner x with
  | none =>
    simp only [href]
    exact .of_floor (s.reportFailed_floor id q)
  | some r =>
    have hnamed : r.ref = .store id := by
      have hfound := List.find?_some howner
      simp only [Contest.named, Bool.and_eq_true, decide_eq_true_eq] at hfound
      exact hfound.1.1.1.trans href
    have hfreed : s.Keeps (s.freeClaimed r) := .of_floor (s.freeClaimed_floor r)
    simp only [hnamed]
    refine .ite hfreed ?_
    split
    · exact hfreed.floor (State.reportFailed_floor _ id q)
    · exact hfreed.trans (State.takeStore_keeps _ id _ _ stamp)

theorem State.hearClaim_law {f : Frame} (h : s.floor.Law c (fun _ => False) fun _ => 0)
    (hfair : c → f.key.station = s.own → ∀ r, s.claimOwner (claimOf f.payload) = some r →
      (s.applyAnyClaim (claimOf f.payload) true).quantity ≤ r.slots.length) (stamp : Timer) :
    (s.hearClaim f stamp).floor.Law c (fun _ => False) fun _ => 0 := by
  rw [State.hearClaim_eq, State.openNext_floor, State.endRecords_floor]
  unfold State.tookClaim State.appliedClaim
  cases href : (claimOf f.payload).ref with
  | pick line =>
    split
    · rename_i hown
      have hquantity := fun hc => hfair hc hown
      simp only [State.applyAnyClaim, href, hown, decide_true] at hquantity ⊢
      have happlied := State.applyClaim_law h line (claimOf f.payload).quantity
      have hcontests := s.applyClaim_contests line (claimOf f.payload).quantity true
      generalize s.applyClaim line (claimOf f.payload).quantity true = a at happlied hcontests hquantity
      rw [zero_add] at happlied
      have htaken := State.takeOwnPick_law href happlied (fun hc r hr => hquantity hc r (by
        unfold State.claimOwner at hr ⊢
        rwa [hcontests] at hr)) stamp
      rwa [show Function.update (fun _ : LineRef => (0 : Int)) line 0 = fun _ => 0 from Function.update_eq_self line _] at htaken
    · rename_i hother
      simp only [State.applyAnyClaim, href, hother, decide_false]
      rwa [State.applyClaim_other]
  | store id =>
    have happlied : (s.applyAnyClaim (claimOf f.payload) (decide (f.key.station = s.own))).state.floor = s.floor := by
      unfold State.applyAnyClaim
      simp only [href]
      exact s.applyOfferClaim_floor id _
    split
    · exact State.takeOwnStore_keeps href _ stamp (happlied ▸ h)
    · exact happlied ▸ h

end

end Sys2Proof.Machine
end

section
/-! SUPPORT. The fault grace that runs out relinquishes what its PICK tasks have claimed (R57, R58). -/

namespace Sys2Proof.Machine

theorem eraseDups_nodup {α : Type} [DecidableEq α] : ∀ xs : List α, xs.eraseDups.Nodup
  | [] => List.nodup_nil
  | x :: rest => by
    rw [List.eraseDups_cons]
    exact List.nodup_cons.2 ⟨by simp, eraseDups_nodup _⟩
termination_by xs => xs.length
decreasing_by exact Nat.lt_succ_of_le (List.length_filter_le _ _)

theorem State.count_pickLines (s : State) (l : LineRef) : s.pickLines.count l = pickCount s.floor.tasks l := by
  unfold State.pickLines pickCount State.floor
  rw [List.count_filterMap, List.countP_map]
  refine List.countP_congr fun t _ => ?_
  cases hw : t.work <;> simp [Task.place, hw]

/-- Relinquishes of just what is owed of some lines leave nothing owed. -/
theorem foldl_addRelinquish {n : LineRef → Nat} {c : Prop} {gone : LineRef → Prop} {lines : List LineRef} {s : State}
    (hnodup : lines.Nodup) (h : s.floor.Law c gone fun l => if l ∈ lines then n l else 0) :
    (lines.foldl (fun u l => u.addRelinquish l (n l)) s).floor.Law c gone fun _ => 0 := by
  induction lines generalizing s with
  | nil => simpa using h
  | cons l rest ih =>
    obtain ⟨hl, hrest⟩ := List.nodup_cons.1 hnodup
    have hlaw := State.addRelinquish_law (l := l) (q := n l) h fun _ _ _ _ _ => by simp
    refine ih hrest (Eq.mp (congrArg _ (funext fun m => ?_)) hlaw)
    by_cases hm : m = l
    · subst hm
      simp [hl]
    · simp [hm]

theorem State.graceRunOut_law {s : State} {c : Prop} (h : s.floor.Law c (fun _ => False) fun _ => 0) :
    s.graceRunOut.floor.Law c (fun _ => False) fun _ => 0 := by
  have hset : (s.setPlanner { s.planner with graceSince := none }).floor.Law c (fun _ => False) fun _ => 0 := h
  have hcancelled := State.cancelPicks_law hset fun _ => true
  have hpicks := State.cancelPicks_picks hset fun _ => true
  unfold State.graceRunOut
  generalize (s.setPlanner { s.planner with graceSince := none }).cancelPicks (fun _ => true) = t at hcancelled hpicks
  refine foldl_addRelinquish (eraseDups_nodup _) (Eq.mp (congrArg _ (funext fun l => ?_)) hcancelled)
  have hnone : pickCount t.floor.tasks l = 0 := List.countP_eq_zero.2 fun x hx hw => by
    obtain ⟨w, n⟩ := x
    obtain rfl : w = .pick l := of_decide_eq_true hw
    exact absurd ((hpicks l n).1 hx).2 (by simp)
  have hcount := s.count_pickLines l
  have hsame : pickCount (s.setPlanner { s.planner with graceSince := none }).floor.tasks l = pickCount s.floor.tasks l := rfl
  unfold Floor.owed
  rw [hnone, hsame, ← hcount]
  by_cases hl : l ∈ s.pickLines
  · simp [hl]
  · simp [hl, List.count_eq_zero.2 hl]

end Sys2Proof.Machine
end

section
/-! SUPPORT. What the commands of Station Control, of the drive and of the face's inputs do to the law of the floor, and the
floor that every start and stop leaves (R17 to R19, R173 to R177). -/

namespace Sys2Proof.Machine

section
variable (s : State)

/-! ### Station Control (R171 to R175) -/

theorem State.setHalt_keeps : s.Keeps s.setHalt := by
  unfold State.setHalt
  refine .ite (.refl s) (State.Keeps.trans (.of_floor ?_) (foldl_keeps State.withdrawIntent_keeps _ _))
  exact (State.holdIfTurning_floor _).trans (State.setControl_floor _ _)

theorem State.clearHalt_keeps : s.Keeps s.clearHalt := by
  unfold State.clearHalt
  refine .ite (State.Keeps.trans (.of_floor ?_) (foldl_keeps State.queueIntent_keeps _ _)) (.refl s)
  exact (State.tryResume_floor _).trans (State.setControl_floor _ _)

theorem State.settleSetup_floor : s.settleSetup.floor = s.floor := rfl

theorem State.takePark_floor (carrier : Nat) : (s.takePark carrier).floor = s.floor := ite_floor rfl rfl

theorem State.takeAudit_floor (first last : Nat) : (s.takeAudit first last).floor = s.floor := ite_floor rfl rfl

theorem State.endJoining_floor : s.endJoining.floor = s.floor :=
  (State.startHoming_floor _).trans (State.setControl_floor _ _)

/-! ### Corrections and places (R13 to R16, R162) -/

theorem State.applyAdjust_keeps (a : AdjustFields) : s.Keeps (s.applyAdjust a) := by
  have hread := (s.readSlot_reads a.slot).keeps
  unfold State.applyAdjust
  refine .ite (.of_floor (s.writeReport_floor _)) (.ite (hread.floor (State.writeReport_floor _ _)) ?_)
  exact (hread.floor (State.writeRecord_floor _ _ _)).floor (State.writeReport_floor _ _)

theorem State.offerPlace_keeps : s.Keeps s.offerPlace := by
  unfold State.offerPlace
  refine .ite ?_ (.refl s)
  split
  · exact .of_floor (State.setContests_floor _ _)
  · split
    · exact s.queueIntent_keeps _
    · exact .ite (.of_floor s.queueRelinquish_floor) (.of_floor s.offerReport_floor)

/-! ### The drive (R30, R38, R39) -/

theorem State.enterFault_keeps (kind : FaultKind) : s.Keeps (s.enterFault kind) := by
  unfold State.enterFault
  refine .ite (.refl s) (State.Keeps.floor ?_ (State.outOfService_floor _))
  refine State.Keeps.trans ?_ (State.endDwell_keeps _)
  exact .of_floor rfl

theorem State.orLost_keeps {r : State × Bool} (h : r.1.floor = s.floor) : s.Keeps (State.orLost r) := by
  have hfloor : s.Keeps r.1 := .of_floor h
  exact .ite (hfloor.trans (State.enterFault_keeps _ _)) hfloor

theorem State.settled_keeps : s.Keeps s.settled :=
  .ite (.of_floor (State.settledAt_floor _ _)) (s.enterFault_keeps _)

theorem State.homingRested_keeps : s.Keeps s.homingRested := .ite (.of_floor s.homed_floor) (s.enterFault_keeps _)

/-! ### Inputs of the face (R64, R73) -/

theorem State.donePressed_keeps : s.Keeps s.donePressed := by
  have hpressed : ∀ t : State, t.Keeps t.doneDwell := by
    intro t
    unfold State.doneDwell
    split
    · exact .refl t
    · exact .ite t.closeDwell_keeps (.refl t)
  have hset : ∀ (t : State) (d : Drive) (b : Prop) [Decidable b], (if b then t.setDrive d else t).floor = t.floor :=
    fun t d b _ => ite_floor (t.setDrive_floor d) rfl
  unfold State.donePressed
  refine .ite (.refl s) (.ite (State.Keeps.trans (.of_floor ?_) (hpressed _)) (.of_floor ?_))
  · exact (hset _ _ _).trans (State.setFace_floor _ _)
  · exact (hset _ _ _).trans (State.setFace_floor _ _)

theorem State.doneLevel_keeps (active : Bool) : s.Keeps (s.doneLevel active) := .ite s.donePressed_keeps (.of_floor rfl)

theorem State.debounced_keeps (i : FaceInput) (high : Bool) {change : State → Bool → State}
    (h : ∀ (t : State) (b : Bool), t.Keeps (change t b)) : s.Keeps (s.debounced i high change) := by
  unfold State.debounced
  exact .ite (State.Keeps.trans (.of_floor (s.setFace_floor _)) (h _ _)) (.of_floor (s.setFace_floor _))

end

/-! ### Starts and stops (R17 to R19, R177) -/

/-- The floor of a state whose queue, pockets and accounts all hold, and whose own claims do where `c` says so. -/
def State.InOrder (s : State) (c : Prop) : Prop := s.floor.Law c (fun _ => False) fun _ => 0

theorem State.Preserves.inOrder {s t : State} (h : s.Preserves t) {c : Prop} (hs : s.InOrder c) : t.InOrder c := h hs

/-- A floor with nothing on it is in order. -/
theorem State.inOrder_of_empty {s : State} {c : Prop} (hlanes : s.lanes = LaneTracker.start) (hqueue : s.planner.queue = []) :
    s.InOrder c := by
  have hpocket : ∀ p, s.floor.pocket p = .free := by
    intro p
    simp only [State.floor, State.pocket, hlanes, LaneTracker.start, Fin.getElem_fin, Vector.getElem_replicate]
  have hnot : ∀ {p : Fin 2} {e : PocketEntry}, s.floor.pocket p = .entry e → False := fun {p e} he => by
    rw [hpocket] at he
    cases he
  have htasks : s.floor.tasks = [] := by simp [State.floor, hqueue]
  have hown : ∀ l, s.floor.own l = none := by
    intro l
    refine (State.own_of_free ?_).1
    simp [State.lane, hlanes, LaneTracker.start, Lane.blind]
  refine ⟨by simp [htasks], fun he => (hnot he).elim, fun he => (hnot he).elim, fun he => (hnot he).elim,
    fun _ he => (hnot he).elim, fun _ he => (hnot he).elim, fun _ _ heq => ?_, fun _ _ hmem => ?_⟩
  · rw [hown] at heq
    cases heq
  · rw [htasks] at hmem
    cases hmem

theorem State.coldStart_inOrder (s : State) (stn : BitVec 5) (rate : BitVec 2) (c : Prop) : (s.coldStart stn rate).InOrder c :=
  State.inOrder_of_empty rfl rfl

theorem State.normalize_keeps (s : State) : s.Keeps s.normalize := by
  unfold State.normalize
  refine (foldl_reads State.readSlot_reads _ s).keeps.trans (foldl_keeps (fun t n => ?_) _ _)
  exact .ite (.refl t) (.of_floor (t.writeRecord_floor n _))

theorem State.warmStart_inOrder (s : State) (stn : BitVec 5) (rate : BitVec 2) (flips : List (Fin 512)) (c : Prop) :
    (s.warmStart stn rate flips).InOrder c := by
  unfold State.warmStart
  split
  · exact s.coldStart_inOrder stn rate c
  · exact (State.normalize_keeps _).preserves.inOrder (State.inOrder_of_empty rfl rfl)

theorem State.stopped_inOrder (s : State) (power : Power) (c : Prop) : (s.stopped power).InOrder c :=
  State.inOrder_of_empty rfl rfl

theorem State.markerLost_inOrder (s : State) (c : Prop) : s.markerLost.InOrder c := State.inOrder_of_empty rfl rfl

end Sys2Proof.Machine
end

section
/-! SUPPORT. Every step keeps the floor in order, and the proof of the statement about pockets and own claims. -/

namespace Sys2Proof.Machine

/-! ### Commands of a running part -/

section
variable {s t : State} {c : Prop}

/-- A command of a running part: its own effect, then the end of the step. -/
theorem State.during_inOrder (h : s.InOrder c) {effect : State → State} (ht : (s.during effect).goOn = .next t)
    (he : (effect s).InOrder c) : t.InOrder c := by
  obtain rfl := Host.Outcome.next.inj ht
  unfold State.during
  split
  · exact State.settle_keeps s _ he
  · exact h

theorem State.preserved_inOrder (h : s.InOrder c) {effect : State → State} (ht : (s.during effect).goOn = .next t)
    (he : s.Preserves (effect s)) : t.InOrder c := State.during_inOrder h ht (he.inOrder h)

/-- A command that keeps every law, the one of a bay given up too. -/
theorem State.kept_inOrder (h : s.InOrder c) {effect : State → State} (ht : (s.during effect).goOn = .next t)
    (he : s.Keeps (effect s)) : t.InOrder c := State.preserved_inOrder h ht he.preserves

theorem State.same_inOrder (h : s.InOrder c) {effect : State → State} (ht : (s.during effect).goOn = .next t)
    (he : (effect s).floor = s.floor) : t.InOrder c := State.kept_inOrder h ht (.of_floor he)

/-- A command that hands the head frame over to its owner. -/
theorem State.handed_inOrder (h : s.InOrder c) {kind : FrameKind → Bool} {taken : State → Bool}
    {owner : Heard → State → State} (ht : (s.during fun u => u.handOver kind (taken u) owner).goOn = .next t)
    (ho : ∀ x, s.headFor kind = some x → (owner x s).InOrder c) : t.InOrder c := by
  refine State.during_inOrder h ht ?_
  unfold State.handOver
  split
  · exact h
  · rename_i x hx
    have htaken : (if taken s = true then owner x s else s).InOrder c := by
      split
      · exact ho x hx
      · exact h
    exact htaken

theorem State.handedKept_inOrder (h : s.InOrder c) {kind : FrameKind → Bool} {taken : State → Bool}
    {owner : Heard → State → State} (ht : (s.during fun u => u.handOver kind (taken u) owner).goOn = .next t)
    (ho : ∀ x, s.Preserves (owner x s)) : t.InOrder c := State.handed_inOrder h ht fun x _ => (ho x).inOrder h

theorem State.handedSame_inOrder (h : s.InOrder c) {kind : FrameKind → Bool} {taken : State → Bool}
    {owner : Heard → State → State} (ht : (s.during fun u => u.handOver kind (taken u) owner).goOn = .next t)
    (ho : ∀ x, (owner x s).floor = s.floor) : t.InOrder c := State.handedKept_inOrder h ht fun x => .of_floor (ho x)

/-! ### A head frame the statement's exclusions allow -/

theorem State.head_of_headFor {kind : FrameKind → Bool} {x : Heard} (hx : s.headFor kind = some x) :
    ∃ rest k, s.port.rx = x :: rest ∧ frameKind x.frame.key = some k ∧ kind k = true := by
  unfold State.headFor at hx
  split at hx
  · cases hx
  · split at hx
    · cases hx
    · rename_i y rest hrx
      split at hx
      · cases hx
      · rename_i k hk
        split at hx
        · rename_i hkind
          obtain rfl := Option.some.inj hx
          exact ⟨rest, k, hrx, hk, hkind⟩
        · cases hx

theorem State.fair_order {x : Heard} (hx : s.headFor FrameKind.isOrder = some x) (hfair : s.fairHead = true) :
    ∀ p e l, s.pocket p = .entry e → e.live = false → e.line = some l → .pick l ∉ (orderOf x.frame.payload).refs := by
  obtain ⟨rest, k, hrx, hk, hkind⟩ := State.head_of_headFor hx
  obtain rfl : k = .order := of_decide_eq_true hkind
  unfold State.fairHead at hfair
  simp only [hrx, hk] at hfair
  intro p e l hp hlive hl hmem
  have hentry := List.all_eq_true.1 hfair p (mem_bothPockets p)
  simp [hp, Pocket.entryOf, hlive, hl, hmem] at hentry

theorem State.fair_claim {x : Heard} (hx : s.headFor FrameKind.isClaim = some x) (hfair : s.fairHead = true)
    (hown : x.frame.key.station = s.own) : ∀ r, s.claimOwner (claimOf x.frame.payload) = some r →
      (s.applyAnyClaim (claimOf x.frame.payload) true).quantity ≤ r.slots.length := by
  obtain ⟨rest, k, hrx, hk, hkind⟩ := State.head_of_headFor hx
  obtain rfl : k = .claim := of_decide_eq_true hkind
  unfold State.fairHead at hfair
  simp only [hrx, hk] at hfair
  intro r hr
  simpa [hown, hr] using hfair

/-- The commands that wait say nothing about the head frame. -/
theorem State.fairHead_setPending (s : State) (rest : List Instr) : (s.setPending rest).fairHead = s.fairHead := by
  have hquantity : ∀ x, ((s.setPending rest).applyAnyClaim x true).quantity = (s.applyAnyClaim x true).quantity := by
    intro x
    have hline : ∀ l, (s.setPending rest).lineAt l = s.lineAt l := fun _ => rfl
    have hcontests : (s.setPending rest).contests = s.contests := rfl
    unfold State.applyAnyClaim State.applyClaim State.applyOfferClaim
    simp only [hline, hcontests]
    split
    · split <;> rfl
    · split <;> rfl
  unfold State.fairHead
  simp only [hquantity]
  rfl

/-! ### Every step -/

/-- A command whose effect happens only where it is due. -/
theorem State.Keeps.whenDue {b : Prop} [Decidable b] {u : State} (hu : s.Keeps u) : s.Keeps (if b then u else s) :=
  .ite hu (.refl s)

/-- Every command keeps the floor in order; the own claims count where the head frame is a fair one. -/
theorem exec_inOrder (i : Instr) (hlanes : s.lanesOk = true) (hfair : c → s.fairHead = true) (h : s.InOrder c)
    (ht : exec i s = .next t) : t.InOrder c := by
  cases i with
  | warmStart stn rate flips =>
    obtain rfl := Host.Outcome.next.inj ht
    exact State.settle_keeps _ _ (s.warmStart_inOrder stn rate flips c)
  | coldStart stn rate =>
    obtain rfl := Host.Outcome.next.inj ht
    exact State.settle_keeps _ _ (s.coldStart_inOrder stn rate c)
  | standby =>
    obtain rfl := Host.Outcome.next.inj ht
    split
    · exact h
    · exact s.stopped_inOrder _ c
  | resetAssert =>
    obtain rfl := Host.Outcome.next.inj ht
    split
    · exact s.stopped_inOrder _ c
    · exact h
  | markerLost =>
    obtain rfl := Host.Outcome.next.inj ht
    exact s.markerLost_inOrder c
  | frameHeard frame => exact State.preserved_inOrder h ht (.ite (s.hear_preserves frame) (.refl s))
  | idleBusContend rival => exact State.kept_inOrder h ht (s.contend_keeps rival).whenDue
  | busError kind role => exact State.preserved_inOrder h ht (.ite (s.busError_preserves kind role) (.refl s))
  | errorMarkSeen role => exact State.preserved_inOrder h ht (.ite (s.markSeen_preserves role) (.refl s))
  | frameHeld role => exact State.same_inOrder h ht (ite_floor (s.held_floor role) rfl)
  | offRecovery bits => exact State.same_inOrder h ht (ite_floor (s.recover_floor bits) rfl)
  | txPlaceFreed => exact State.kept_inOrder h ht s.offerPlace_keeps
  | halt => exact State.handedKept_inOrder h ht fun _ => s.setHalt_keeps.preserves
  | resume => exact State.handedKept_inOrder h ht fun _ => s.clearHalt_keeps.preserves
  | calendar => exact State.handedSame_inOrder h ht fun _ => rfl
  | setup => exact State.handedSame_inOrder h ht fun _ => rfl
  | setupEnd => exact State.handedSame_inOrder h ht fun _ => s.settleSetup_floor
  | joinTimeout => exact State.same_inOrder h ht (ite_floor s.endJoining_floor rfl)
  | reportHeard => exact State.handedSame_inOrder (taken := fun _ => true) h ht fun _ => rfl
  | adjust => exact State.handedKept_inOrder h ht fun _ => (s.applyAdjust_keeps _).preserves
  | park => exact State.handedSame_inOrder h ht fun _ => s.takePark_floor _
  | audit => exact State.handedSame_inOrder h ht fun _ => s.takeAudit_floor _ _
  | order =>
    exact State.handed_inOrder h ht fun x hx => State.takeOrder_law h (fun hc => State.fair_order hx (hfair hc)) x.stamp
  | inbound => exact State.handedSame_inOrder h ht fun _ => s.takeInbound_floor _ _
  | bid => exact State.handedSame_inOrder h ht fun _ => s.hearBid_floor _
  | claim =>
    exact State.handed_inOrder h ht fun x hx => State.hearClaim_law h (fun hc => State.fair_claim hx (hfair hc)) x.stamp
  | computationResult => exact State.same_inOrder h ht s.takeResult_floor
  | windowEnd => exact State.same_inOrder h ht s.windowEnds_floor
  | secondChance => exact State.same_inOrder h ht s.secondChances_floor
  | relinquish => exact State.handedSame_inOrder h ht fun _ => s.hearRelinquish_floor _ _
  | intent => exact State.handedKept_inOrder h ht fun _ => (s.hearIntent_keeps _ _).preserves
  | bayClear => exact State.handedKept_inOrder h ht fun _ => s.hearBayClear_preserves _ _ _
  | laneIdle => exact State.handedKept_inOrder h ht fun _ => State.idleLane_preserves hlanes _
  | faultGraceTimeout =>
    refine State.during_inOrder h ht ?_
    split
    · exact State.graceRunOut_law h
    · exact h
  | encoderCount dir => exact State.kept_inOrder h ht (State.orLost_keeps s (s.driveCount_floor dir))
  | indexEdge flag => exact State.kept_inOrder h ht (State.orLost_keeps s (s.driveEdge_floor flag))
  | stallTimeout => exact State.kept_inOrder h ht (s.enterFault_keeps _).whenDue
  | settleRestTimeout => exact State.kept_inOrder h ht s.settled_keeps.whenDue
  | homingRestTimeout => exact State.kept_inOrder h ht s.homingRested_keeps.whenDue
  | holdRestTimeout => exact State.same_inOrder h ht s.tryResume_floor
  | curtainClearTimeout => exact State.same_inOrder h ht (ite_floor (State.tryResume_floor _) rfl)
  | supplyClearTimeout => exact State.same_inOrder h ht (ite_floor (State.tryResume_floor _) rfl)
  | supplyLevelChange level sense => exact State.same_inOrder h ht (s.supplyLevel_floor level sense)
  | doneHoldTimeout => exact State.same_inOrder h ht (ite_floor s.startHoming_floor rfl)
  | scanCycle returns pin flips =>
    refine State.kept_inOrder h ht ?_
    have hshown : s.Keeps ((s.setStore (s.store.flipped flips)).showView returns pin) := .of_floor rfl
    exact .ite (hshown.trans (State.scanFace_keeps _ returns pin)) hshown
  | doneEdge => exact State.kept_inOrder h ht (s.debounced_keeps _ _ State.doneLevel_keeps)
  | dwellTimeout => exact State.kept_inOrder h ht s.closeDwell_keeps.whenDue
  | stopLevelChange high => exact State.kept_inOrder h ht (s.debounced_keeps _ _ fun u b => .of_floor (u.stopLevel_floor b))
  | curtainChange high => exact State.kept_inOrder h ht (s.debounced_keeps _ _ fun u b => .of_floor (u.curtainLevel_floor b))
  | arrival high => exact State.kept_inOrder h ht (s.debounced_keeps _ _ fun u b => .of_floor (u.arrivalLevel_floor b))
  | inboundDeadline => exact State.kept_inOrder h ht (foldl_keeps State.giveUpArrivals_keeps _ s)
  | pocketSenseChange p high => exact State.kept_inOrder h ht (s.debounced_keeps _ _ fun u b => u.pocketLevel_keeps p b)
  | jamTimeout => exact State.kept_inOrder h ht (foldl_keeps State.jamPocket_keeps _ s)
  | auditScan => exact State.kept_inOrder h ht s.workScan_keeps
  | doneRelease => exact State.kept_inOrder h ht (s.debounced_keeps _ _ State.doneLevel_keeps)

/-- Every step keeps the floor in order: a command at the front of the queue, an own step that is due, or a millisecond. -/
theorem step_inOrder (hlanes : s.lanesOk = true) (hfair : c → s.fairHead = true) (h : s.InOrder c) (ht : step s = .next t) :
    t.InOrder c := by
  unfold step at ht
  split at ht
  · unfold State.idle at ht
    split at ht
    · split at ht
      · exact exec_inOrder _ hlanes hfair h ht
      · obtain rfl := Host.Outcome.next.inj ht
        exact (State.Preserves.of_floor s.tick_floor).inOrder h
    · obtain rfl := Host.Outcome.next.inj ht
      exact h
  · rename_i i rest _
    exact exec_inOrder (s := s.setPending rest) i hlanes (fun hc => (s.fairHead_setPending rest).trans (hfair hc)) h ht

end

/-- Settles O8: the law of the floor, which the statement's laws give (`law_of_ok`), is kept by every step (`step_inOrder`);
between the operations of a step it holds with debts and with lines that are being given up (`Floor.Law`). -/
theorem pocketsAndOwnClaimsKeepTheirLaws : Obligations.PocketsAndOwnClaimsKeepTheirLaws := by
  intro s t hlanes hqueue hpockets ht
  have hlaw : s.InOrder (s.ownClaimsOk = true ∧ s.fairHead = true) := State.law_of_ok hlanes hqueue hpockets And.left
  have hnext := step_inOrder hlanes And.right hlaw ht
  exact ⟨State.pocketsOk_of_law hnext, fun hown hfair => State.ownClaimsOk_of_law hnext ⟨hown, hfair⟩⟩

end Sys2Proof.Machine
end

section
/-! SUPPORT. The two error counters (R165): that an error, a success and a start move them as the specification says and
everything else leaves them; and the proof of the statement about them. -/

namespace Sys2Proof.Machine

/-- The transmit error counter and the receive error counter (R165). -/
def State.counters (s : State) : Nat × Nat := (s.port.txErrors, s.port.rxErrors)

theorem State.counters_iff {s : State} {tx rx : Nat} :
    s.counters = (tx, rx) ↔ s.port.txErrors = tx ∧ s.port.rxErrors = rx := Prod.mk.injEq _ _ _ _ ▸ Iff.rfl

/-- What leaves the gauges alone leaves the counters alone. -/
theorem State.counters_of_gauges {s t : State} (h : t.gauges = s.gauges) : t.counters = s.counters :=
  congrArg (fun g : Gauges => (g.txErrors, g.rxErrors)) h

@[simp] theorem State.settle_counters (before s : State) : (State.settle before s).counters = s.counters :=
  congrArg (fun k : Kept => (k.txErrors, k.rxErrors)) (State.settle_kept before s)

/-! ### Errors and successes (R165) -/

theorem State.enterOff_gauges (s : State) : s.enterOff.gauges = s.gauges := by
  unfold State.enterOff
  simp only [State.loseView_gauges, State.dropIntents_gauges]
  exact s.contestExit_gauges

/-- The counters become what they are set to, whatever entering QUIET or OFF gives up. -/
@[simp] theorem State.setCounters_counters (s : State) (tx rx : Nat) : (s.setCounters tx rx).counters = (tx, rx) := by
  unfold State.setCounters
  simp only
  split
  · rfl
  · split
    · rfl
    · exact State.counters_of_gauges (State.contestExit_gauges _)
    · exact State.counters_of_gauges (State.enterOff_gauges _)

/-- A frame that fails and its transmit error: 4 more, not above 160. -/
theorem State.failTransmit_counters (s : State) : s.failContender.transmitError.counters =
    (min 160 (s.port.txErrors + 4), s.port.rxErrors) := by
  obtain ⟨htx, hrx⟩ := State.counters_iff.1 (State.counters_of_gauges s.failContender_gauges)
  rw [State.transmitError, State.setCounters_counters, htx, hrx]
  rfl

/-- A receive error: 1 more, not above 255. -/
theorem State.receiveError_counters (s : State) : s.receiveError.counters =
    (s.port.txErrors, min 255 (s.port.rxErrors + 1)) := by
  have hcounted := s.setCounters_counters s.port.txErrors (raiseTo maxByteCount 1 s.port.rxErrors)
  have hjoined : ∀ t : State, (if s.listenOnly then t.joinOverflow else t).gauges = t.gauges := fun t =>
    ite_gauges t.joinOverflow_gauges rfl
  have hexit : ∀ t : State, t.contestExit.loseView.gauges = t.gauges := fun t =>
    (State.loseView_gauges _).trans t.contestExit_gauges
  refine Eq.trans (State.counters_of_gauges ?_) hcounted
  exact ite_gauges ((hexit _).trans (hjoined _)) (hjoined _)

/-- The sticky flag of an error moves no counter. -/
theorem State.stick_counters (s : State) (kind : BusError) : (s.setPort (s.port.stick kind)).counters = s.counters := by
  rw [BusPort.stick_parts]
  rfl

theorem State.busError_counters (s : State) (kind : BusError) :
    (s.busError kind .transmitter).counters = (min 160 (s.port.txErrors + 4), s.port.rxErrors) ∧
      (s.busError kind .receiver).counters = (s.port.txErrors, min 255 (s.port.rxErrors + 1)) := by
  obtain ⟨htx, hrx⟩ := State.counters_iff.1 (s.stick_counters kind)
  have htransmit := (s.setPort (s.port.stick kind)).failTransmit_counters
  have hreceive := (s.setPort (s.port.stick kind)).receiveError_counters
  rw [htx, hrx] at htransmit hreceive
  exact ⟨htransmit, hreceive⟩

/-- A success that finds the receive queue with room: 1 less for its side, not below 0, whether the frame joins the queue
or is discarded. -/
theorem State.hear_counters {s : State} {f : Frame} (hlength : f.payload.length ≤ 16) (hroom : s.wouldOverflow f = false) :
    (s.hear f).counters =
      (if f.key.station = s.own then s.port.txErrors - 1 else s.port.txErrors,
        if f.key.station = s.own then s.port.rxErrors else s.port.rxErrors - 1) := by
  have hhear : s.hear f = (s.countSuccess f).enqueue f := by
    unfold State.hear
    rw [if_neg (Nat.not_lt.2 hlength), hroom]
    rfl
  rw [hhear, State.counters_of_gauges (State.enqueue_gauges _ f), State.countSuccess]
  split
  · exact State.setCounters_counters _ _ _
  · exact State.setCounters_counters _ _ _

/-! ### Starts (R165, R177) -/

theorem State.normalize_gauges (s : State) : s.normalize.gauges = s.gauges := by
  have hrest : ∀ (t : State) slot, (t.restSlot slot).gauges = t.gauges := fun t slot =>
    ite_gauges rfl (t.writeRecord_gauges _ _)
  unfold State.normalize
  simp only
  rw [foldl_gauges _ hrest, State.readSlots_gauges]

theorem State.warmStart_counters (s : State) (stn : BitVec 5) (rate : BitVec 2) (flips : List (Fin 512)) :
    (s.warmStart stn rate flips).counters = (0, 0) := by
  unfold State.warmStart
  split
  · rfl
  · exact State.counters_of_gauges (State.normalize_gauges _)

/-! ### The commands -/

/-- A bus event of a running part on the bus ends with the counters its effect leaves. -/
theorem State.onBus_counters {s : State} (hrun : s.isRunning = true) (hbus : s.onBus = true) {effect : State → State}
    {tx rx : Nat} (h : (effect s).counters = (tx, rx)) :
    ∃ t, (s.during fun t => if t.onBus then effect t else t).goOn = .next t ∧
      t.port.txErrors = tx ∧ t.port.rxErrors = rx :=
  ⟨_, State.onBus_next hrun hbus effect, State.counters_iff.1 ((State.settle_counters _ _).trans h)⟩

/-- A command whose effect leaves the gauges alone moves no counter, in a running part or not. -/
theorem State.during_counters (s : State) {effect : State → State} (h : (effect s).gauges = s.gauges) :
    ∃ t, (s.during effect).goOn = .next t ∧
      t.port.txErrors = s.port.txErrors ∧ t.port.rxErrors = s.port.rxErrors := by
  refine ⟨_, rfl, State.counters_iff.1 ?_⟩
  unfold State.during
  split
  · exact (State.settle_counters _ _).trans (State.counters_of_gauges h)
  · rfl

/-- A TOWER_STATE offered carries the two counters in bytes 3 and 4 (R165, chapter 9.6). -/
theorem State.offerReport_towerState {s : State} (hstraps : s.control.strapsAccepted = true)
    (hout : s.control.reportOut = none) (hroom : s.txRoom = true) (hpending : s.control.statePending = true) :
    s.offerReport.port.tx = s.port.tx ++
      [{ frame := reportFrameOf s.own 0 s.towerStatePayload, state := .queued, retries := 0 }] := by
  unfold State.offerReport
  rw [if_pos ⟨hstraps, hout, hroom⟩, if_pos hpending]
  rfl

/-- Settles O16: each event on the bus sets the counters as R165 says (`hear_counters`, `busError_counters`,
`failTransmit_counters`), and what follows it, entering QUIET or OFF and the end of the step, leaves them
(`setCounters_counters`, `settle_counters`); the starts take them from the port's start values. -/
theorem countersFollowTheBus : Obligations.CountersFollowTheBus := by
  refine ⟨fun s f hrun hbus hlength hroom => ?heard, fun s kind hrun hbus => ?transmit, fun s kind hrun hbus => ?receive,
    fun s hrun hbus => ?marked, fun s c hc => ?unmoved, fun s c hc => ?start, fun s hstraps hout hroom hpending => ?carried⟩
  case heard => exact State.onBus_counters hrun hbus (State.hear_counters hlength hroom)
  case transmit => exact State.onBus_counters hrun hbus (s.busError_counters kind).1
  case receive => exact State.onBus_counters hrun hbus (s.busError_counters kind).2
  case marked => exact State.onBus_counters hrun hbus (effect := fun t => t.markSeen .transmitter) s.failTransmit_counters
  case unmoved =>
    rcases hc with rfl | ⟨role, rfl⟩ | ⟨rival, rfl⟩
    · exact s.during_counters (ite_gauges rfl rfl)
    · exact s.during_counters (ite_gauges (s.held_gauges role) rfl)
    · exact s.during_counters (ite_gauges (s.contend_gauges rival) rfl)
  case start =>
    rcases hc with ⟨stn, rate, rfl⟩ | ⟨stn, rate, flips, rfl⟩
    · exact ⟨_, rfl, State.counters_iff.1 (State.settle_counters _ _)⟩
    · exact ⟨_, rfl, State.counters_iff.1 ((State.settle_counters _ _).trans (s.warmStart_counters stn rate flips))⟩
  case carried => exact ⟨_, State.offerReport_towerState hstraps hout hroom hpending, rfl, rfl, rfl⟩

end Sys2Proof.Machine
end

section
/-! SUPPORT. The parts of a pocket sensor's change (R136 to R141): what a queued and a withdrawn INTENT, a tyre that arrives
and a tyre that leaves make of the two pockets and the transmit queue, one equation for each case. -/

namespace Sys2Proof.Machine

theorem otherPocket_ne : ∀ p : Fin 2, p ≠ otherPocket p := by decide

@[simp] theorem State.pocket_setEntry (s : State) (p : Fin 2) (e : PocketEntry) : (s.setEntry p e).pocket p = .entry e := by
  rw [State.setEntry, State.pocket_setPocket, if_pos rfl]

/-- A change of one pocket leaves the other. -/
theorem State.pocket_setPocket_other (s : State) (p : Fin 2) (x : Pocket) :
    (s.setPocket p x).pocket (otherPocket p) = s.pocket (otherPocket p) := by
  rw [State.pocket_setPocket, if_neg (otherPocket_ne p)]

theorem State.setPocket_quiet {s : State} (h : s.quiet) (p : Fin 2) (x : Pocket) : (s.setPocket p x).quiet := ⟨h.1, h.2⟩

/-- A pocket that becomes foreign has its UNKNOWN record where the log has room (R141, R175). -/
theorem State.becomeForeign_room {s : State} (h : s.control.log.length < 16) (p : Fin 2) :
    s.becomeForeign p = (s.setPocket p .foreign).setControl { s.control with log := s.control.log ++ [{
      body := .discrepancy .unknown (.pocket p.val) .absent false none none, week := s.control.week,
      timer := s.timer }] } := if_pos h

/-! ### An INTENT queued (R137) -/

/-- Queueing an INTENT changes the lanes' entries and the port alone. -/
theorem State.queueIntent_parts (s : State) (p : Fin 2) :
    s.queueIntent p = (s.setLanes (s.queueIntent p).lanes).setPort (s.queueIntent p).port := by
  unfold State.queueIntent
  split
  · rfl
  · rfl
  · split
    · rfl
    · split <;> rfl

section
variable {s : State} {p : Fin 2} {e : PocketEntry} (hp : s.pocket p = .entry e)
include hp

theorem State.intentWaiting_iff : s.intentWaiting p = true ↔
    e.state = .loaded ∧ e.intent = .none ∧ e.line.isSome = true ∧ s.control.halt = false := by
  unfold State.intentWaiting
  simp [hp, and_assoc]

/-- An entry that waits for a place, or whose INTENT is not to be queued, is left. -/
theorem State.queueIntent_still (h : ¬(s.intentWaiting p = true ∧ s.txRoom = true)) : s.queueIntent p = s := by
  unfold State.queueIntent
  simp only [hp]
  split
  · rfl
  · exact if_neg h

theorem State.queueIntent_queued {l : LineRef} (hline : e.line = some l) (hwaits : s.intentWaiting p = true)
    (hroom : s.txRoom = true) :
    (s.queueIntent p).pocket p = .entry { e with intent := .queued, number := s.lanes.intentCount } ∧
      (s.queueIntent p).port.tx = s.port.tx ++ [{ frame := intentFrameOf s.own l, state := .queued, retries := 0 }] := by
  unfold State.queueIntent
  simp only [hp, hline]
  rw [if_pos ⟨hwaits, hroom⟩]
  exact ⟨State.pocket_setEntry (s.queueFrame _) p _, rfl⟩

end

/-- The INTENT of one pocket leaves the other pocket. -/
theorem State.queueIntent_other (s : State) (p : Fin 2) :
    (s.queueIntent p).pocket (otherPocket p) = s.pocket (otherPocket p) := by
  unfold State.queueIntent
  split
  · rfl
  · rfl
  · split
    · rfl
    · split
      · exact State.pocket_setPocket_other (s.queueFrame _) p _
      · rfl

/-! ### A tyre stands in a pocket (R136, R137) -/

/-- `t` has the tyre of the entry `c` LOADED in a pocket, its INTENT ON_BUS if it was, and queued in a place that `s` had if
HALT is clear. -/
def State.Loads (s t : State) (p : Fin 2) (c : PocketEntry) : Prop :=
  ∃ e, t.pocket p = .entry e ∧ e.state = .loaded ∧ e.slot = c.slot ∧ e.line = c.line ∧
    (c.intent = .onBus → e.intent = .onBus) ∧
    (∀ l, c.intent = .none → c.line = some l → s.control.halt = false → s.txRoom = true →
      e.intent = .queued ∧
        s.port.tx ++ [{ frame := intentFrameOf s.own l, state := .queued, retries := 0 }] <+: t.port.tx)

theorem State.loadEntry_loads (s : State) (p : Fin 2) (c : PocketEntry) : s.Loads (s.loadEntry p c) p c := by
  have hp := s.pocket_setEntry p { c with state := .loaded }
  have hwaits := State.intentWaiting_iff hp
  unfold State.loadEntry
  by_cases h : (s.setEntry p { c with state := .loaded }).intentWaiting p = true ∧ s.txRoom = true
  · obtain ⟨_, hnone, hline, _⟩ := hwaits.1 h.1
    obtain ⟨l, hl⟩ := Option.isSome_iff_exists.1 hline
    obtain ⟨hentry, htx⟩ := State.queueIntent_queued hp hl h.1 h.2
    refine ⟨_, hentry, rfl, rfl, rfl, fun hbus => ?_, fun l' _ hl' _ _ => ⟨rfl, ?_⟩⟩
    · cases hnone.symm.trans hbus
    · obtain rfl := Option.some.inj (hl.symm.trans hl')
      rw [htx]
      exact List.prefix_rfl
  · rw [State.queueIntent_still hp h]
    refine ⟨_, hp, rfl, rfl, rfl, id, fun l hnone hl hhalt hroom => absurd ⟨hwaits.2 ⟨rfl, hnone, ?_, hhalt⟩, hroom⟩ h⟩
    exact Option.isSome_iff_exists.2 ⟨l, hl⟩

theorem State.loadEntry_other (s : State) (p : Fin 2) (c : PocketEntry) :
    (s.loadEntry p c).pocket (otherPocket p) = s.pocket (otherPocket p) :=
  (State.queueIntent_other _ p).trans (s.pocket_setPocket_other p _)

theorem State.loadEntry_contests (s : State) (p : Fin 2) (c : PocketEntry) : (s.loadEntry p c).contests = s.contests := by
  unfold State.loadEntry
  rw [State.queueIntent_parts]
  rfl

theorem State.loadEntry_quiet {s : State} (h : s.quiet) (p : Fin 2) (c : PocketEntry) : (s.loadEntry p c).quiet := by
  unfold State.loadEntry
  rw [State.queueIntent_parts]
  exact h

/-! ### An INTENT withdrawn (R137, R163) -/

/-- A frame of the transmit queue is a QUEUED INTENT of this station for a line. -/
def State.isOwnIntent (s : State) (line : LineRef) (x : TxFrame) : Bool :=
  decide (x.frame = intentFrameOf s.own line ∧ x.state = .queued)

/-- The entry of the other pocket waits with an INTENT of the same line, queued before a given one. -/
def State.EarlierIntent (s : State) (p : Fin 2) (line : LineRef) (number : Nat) : Prop :=
  ∃ o, s.pocket (otherPocket p) = .entry o ∧ o.line = some line ∧ o.intent = .queued ∧ o.number < number

/-- Of the two pockets, only the other one can pass a test that one of them fails. -/
theorem bothPockets_filter {test : Fin 2 → Bool} {p : Fin 2} (h : test p = false) :
    bothPockets.filter test = if test (otherPocket p) then [otherPocket p] else [] := by
  unfold bothPockets
  obtain rfl | rfl : p = 0 ∨ p = 1 := by fin_cases p <;> simp
  · simp [h, List.filter_cons, show otherPocket 0 = 1 from rfl]
  · simp [h, List.filter_cons, show otherPocket 1 = 0 from rfl]

section
variable {s : State} {p : Fin 2} {e : PocketEntry} {line : LineRef} (hp : s.pocket p = .entry e)
include hp

/-- No INTENT of a line was queued before an entry's own, as far as the other pocket tells. -/
theorem State.intentsAhead_first (h : ¬s.EarlierIntent p line e.number) : s.intentsAhead line e.number = 0 := by
  unfold State.intentsAhead
  rw [bothPockets_filter (p := p) (by simp [hp, Pocket.entryOf]), if_neg]
  · rfl
  · intro hpasses
    obtain ⟨o, ho, hahead⟩ := (Option.any_eq_true _ _).1 hpasses
    refine h ⟨o, ?_, of_decide_eq_true hahead⟩
    cases hq : s.pocket (otherPocket p) <;> simp_all [Pocket.entryOf]

theorem State.intentsAhead_second (h : s.EarlierIntent p line e.number) : s.intentsAhead line e.number = 1 := by
  obtain ⟨o, ho, hahead⟩ := h
  unfold State.intentsAhead
  rw [bothPockets_filter (p := p) (by simp [hp, Pocket.entryOf]), if_pos]
  · rfl
  · simpa [ho, Pocket.entryOf] using hahead

/-- The INTENT withdrawn is the entry's own. -/
theorem State.withdrawIntent_queued (hline : e.line = some line) (hqueued : e.intent = .queued) :
    s.withdrawIntent p = (s.withdrawNth (intentFrameOf s.own line) (s.intentsAhead line e.number)).setEntry p
      { e with intent := .none } := by
  unfold State.withdrawIntent
  simp only [hp, hline]
  exact if_pos hqueued

/-- With no like INTENT queued earlier, the first of the transmit queue is withdrawn (R163). -/
theorem State.withdrawIntent_tx_first (hline : e.line = some line) (hqueued : e.intent = .queued)
    (h : ¬s.EarlierIntent p line e.number) :
    (s.withdrawIntent p).port.tx = removeFirst (s.isOwnIntent line) s.port.tx := by
  rw [State.withdrawIntent_queued hp hline hqueued, State.intentsAhead_first hp h, State.withdrawNth_zero]
  rfl

/-- Behind a like INTENT queued earlier, the second one is withdrawn (R163, log 27). -/
theorem State.withdrawIntent_tx_second (hline : e.line = some line) (hqueued : e.intent = .queued)
    (h : s.EarlierIntent p line e.number) {before between after : List TxFrame} {f g : TxFrame}
    (htx : s.port.tx = before ++ f :: between ++ g :: after) (hf : s.isOwnIntent line f = true)
    (hg : s.isOwnIntent line g = true) (hothers : ∀ x ∈ before ++ between, s.isOwnIntent line x = false) :
    (s.withdrawIntent p).port.tx = before ++ f :: between ++ after := by
  have hnone : ∀ xs : List TxFrame, (∀ x ∈ xs, x ∈ before ++ between) → xs.filter (s.isOwnIntent line) = [] :=
    fun xs hxs => List.filter_eq_nil_iff.2 fun x hx => by simp [hothers x (hxs x hx)]
  have hahead : ((before ++ f :: between).filter (s.isOwnIntent line)).length = 1 := by
    rw [List.filter_append, List.filter_cons, if_pos hf, hnone before fun x => List.mem_append_left _,
      hnone between fun x => List.mem_append_right _]
    rfl
  have hremoved := removeBehind_append (s.isOwnIntent line) (before ++ f :: between) g after hg
  rw [hahead, ← htx] at hremoved
  rw [State.withdrawIntent_queued hp hline hqueued, State.intentsAhead_second hp h]
  exact hremoved

end

/-- A withdrawal changes the pockets and the transmit queue alone. -/
theorem State.withdrawIntent_parts (s : State) (p : Fin 2) :
    s.withdrawIntent p = (s.setLanes (s.withdrawIntent p).lanes).setPort (s.withdrawIntent p).port := by
  unfold State.withdrawIntent
  split
  · rfl
  · rfl
  · split
    · rfl
    · split <;> rfl

/-! ### A tyre arrives (R136, R141) -/

section
variable {s : State} {p : Fin 2} {c : PocketEntry}

/-- A CARRIED entry's tyre arrives in its own pocket. -/
theorem State.pocketFilled_own (hp : s.pocket p = .entry c) (hc : c.state = .carried) :
    s.pocketFilled p = s.loadEntry p c := by
  unfold State.pocketFilled
  cases s.entryIn (otherPocket p) .carried <;> simp [hp, hc]

/-- A CARRIED entry's tyre arrives in the other pocket, which was free. -/
theorem State.pocketFilled_free (hp : s.pocket p = .free) (ho : s.pocket (otherPocket p) = .entry c)
    (hc : c.state = .carried) : s.pocketFilled p = (s.setPocket (otherPocket p) .free).loadEntry p c := by
  unfold State.pocketFilled
  simp only [hp, State.entryIn_eq_some.2 ⟨ho, hc⟩]

/-- A CARRIED entry's tyre arrives in the pocket set aside for another pick: the two entries change places. -/
theorem State.pocketFilled_assigned {a : PocketEntry} (hp : s.pocket p = .entry a) (ha : a.state = .assigned)
    (ho : s.pocket (otherPocket p) = .entry c) (hc : c.state = .carried) :
    s.pocketFilled p = (s.setEntry (otherPocket p) a).loadEntry p c := by
  unfold State.pocketFilled
  simp [hp, State.entryIn_eq_some.2 ⟨ho, hc⟩, ha]

/-- No entry accounts for the tyre: the pocket becomes foreign, an ASSIGNED entry being freed. -/
theorem State.pocketFilled_unknown (hp : s.pocket p = .free ∨ ∃ a, s.pocket p = .entry a ∧ a.state = .assigned)
    (hnone : s.entryIn (otherPocket p) .carried = none) : s.pocketFilled p = s.becomeForeign p := by
  unfold State.pocketFilled
  obtain hfree | ⟨a, ha, hassigned⟩ := hp
  · simp only [hfree, hnone]
  · simp [ha, hnone, hassigned]

/-- A pocket whose entry stands with its tyre already keeps it. -/
theorem State.pocketFilled_still (hp : s.pocket p = .entry c) (hcarried : c.state ≠ .carried)
    (hassigned : c.state ≠ .assigned) : s.pocketFilled p = s := by
  unfold State.pocketFilled
  cases s.entryIn (otherPocket p) .carried <;> simp [hp, hcarried, hassigned]

/-- The first level of a sensor finds a tyre in a free pocket, or none in a foreign one. -/
theorem State.pocketAdopted_free (hp : s.pocket p = .free) : s.pocketAdopted p true = s.becomeForeign p := by
  unfold State.pocketAdopted
  simp only [hp]

theorem State.pocketAdopted_foreign (hp : s.pocket p = .foreign) : s.pocketAdopted p false = s.setPocket p .free := by
  unfold State.pocketAdopted
  simp only [hp]

/-! ### A tyre leaves (R137, R138) -/

/-- A LOADED entry whose tyre is lifted out. -/
def PocketEntry.lifted (e : PocketEntry) : PocketEntry :=
  { e with state := .carried, intent := if e.intent = .onBus then .onBus else .none }

theorem State.pocketEmptied_loaded (hp : s.pocket p = .entry c) (hc : c.state = .loaded) :
    s.pocketEmptied p = (s.withdrawIntent p).setEntry p c.lifted := by
  unfold State.pocketEmptied
  simp only [hp, hc]
  rfl

theorem State.pocketEmptied_still (hp : s.pocket p = .entry c) (hc : c.state = .carried ∨ c.state = .restore) :
    s.pocketEmptied p = s := by
  unfold State.pocketEmptied
  rcases hc with hc | hc <;> simp only [hp, hc]

theorem State.pocketEmptied_granted (hp : s.pocket p = .entry c) (hc : c.state = .granted ∨ c.state = .jammed) :
    s.pocketEmptied p = s.completeGrant p c := by
  unfold State.pocketEmptied
  rcases hc with hc | hc <;> simp only [hp, hc]

theorem State.pocketEmptied_foreign (hp : s.pocket p = .foreign) : s.pocketEmptied p = s.setPocket p .free := by
  unfold State.pocketEmptied
  simp only [hp]

end

/-- A request that a record without a flipped bit does not meet changes nothing (R5). -/
theorem State.request_unmet {s : State} {slot : Nat} (hread : (Memory.get s.store.table slot).flipped = 0)
    {applies : SlotRecord → Bool} (h : applies (s.recordAt slot) = false) (new : SlotRecord → SlotRecord) :
    (s.request slot applies new).state = s := by
  unfold State.request
  rw [State.readSlot_clean hread]
  simp [h]

/-- A granted entry completes: an OUTBOUND slot whose record reads intact is EMPTY, the lanes take the account, and the
pocket is free (R138). -/
theorem State.completeGrant_clean {s : State} {p : Fin 2} {e : PocketEntry}
    (hread : (Memory.get s.store.table e.slot).flipped = 0) :
    (s.completeGrant p e).pocket p = .free ∧ (s.completeGrant p e).audit = s.audit ∧
      (s.completeGrant p e).contests = s.contests ∧
      (s.completeGrant p e).store =
        if (s.recordAt e.slot).state = .outbound then (s.writeRecord e.slot .empty).store else s.store := by
  obtain ⟨x, hx⟩ : ∃ x, s.completeGrant p e =
      (((s.setLanes x).request e.slot (inStates [.outbound]) fun _ => .empty).state).setPocket p .free := by
    unfold State.completeGrant
    cases e.line with
    | none => exact ⟨s.lanes, rfl⟩
    | some l => exact ⟨_, by rw [← State.updateLine_lanes]⟩
  rw [hx, State.pocket_setPocket, if_pos rfl]
  have hrecord : (s.setLanes x).recordAt e.slot = s.recordAt e.slot := rfl
  by_cases hout : (s.recordAt e.slot).state = .outbound
  · rw [State.request_clean (s := s.setLanes x) hread (by simp [inStates, hrecord, hout]) (by simp [SlotRecord.empty]),
      if_pos hout]
    simp only
    rw [State.writeRecord_store]
    refine ⟨trivial, rfl, rfl, ?_⟩
    unfold State.writeRecord
    split <;> rfl
  · rw [State.request_unmet (s := s.setLanes x) hread (by simp [inStates, hrecord, hout]), if_neg hout]
    exact ⟨rfl, rfl, rfl, rfl⟩

/-! ### Every case (R64, R136 to R141) -/

@[simp] theorem State.pocketAdopted_kept (s : State) (p : Fin 2) (present : Bool) :
    (s.pocketAdopted p present).kept = s.kept := by
  unfold State.pocketAdopted
  split <;> simp

@[simp] theorem State.pocketFilled_kept (s : State) (p : Fin 2) : (s.pocketFilled p).kept = s.kept := by
  unfold State.pocketFilled
  simp only
  split
  · exact ite_kept (by simp) (ite_kept (by simp) rfl)
  · exact ite_kept (by simp) (ite_kept (by simp) rfl)
  · simp
  · simp
  · rfl

@[simp] theorem State.pocketEmptied_kept (s : State) (p : Fin 2) : (s.pocketEmptied p).kept = s.kept := by
  unfold State.pocketEmptied
  split
  · rfl
  · rfl
  · split <;> simp

/-- The contest records and the offers: a tyre in a pocket can change neither. -/
def State.contestBook (s : State) : List Contest × List Offer := (s.contests.records, s.contests.offers)

theorem State.contestBook_of_outer {s t : State} (h : t.outer = s.outer) : t.contestBook = s.contestBook :=
  congrArg (fun o : Outer => (o.records, o.offers)) h

theorem State.contestBook_of_contests {s t : State} (h : t.contests = s.contests) : t.contestBook = s.contestBook := by
  unfold State.contestBook
  rw [h]

theorem ite_contestBook {c : Prop} [Decidable c] {t u : State} {b : List Contest × List Offer} (ht : t.contestBook = b)
    (hu : u.contestBook = b) : (if c then t else u).contestBook = b := by split <;> assumption

theorem State.pocketFilled_contestBook (s : State) (p : Fin 2) : (s.pocketFilled p).contestBook = s.contestBook := by
  have hload : ∀ (t : State) c, (t.loadEntry p c).contestBook = t.contestBook := fun t c =>
    State.contestBook_of_contests (t.loadEntry_contests p c)
  have hforeign := State.contestBook_of_outer (s.becomeForeign_outer p)
  unfold State.pocketFilled
  simp only
  split
  · exact ite_contestBook (hload _ _) (ite_contestBook hforeign rfl)
  · exact ite_contestBook (hload _ _) (ite_contestBook (hload _ _) rfl)
  · exact hload _ _
  · exact hforeign
  · rfl

theorem State.completeGrant_outer (s : State) (p : Fin 2) (e : PocketEntry) : (s.completeGrant p e).outer = s.outer := by
  unfold State.completeGrant
  simp only [State.setPocket_outer, State.request_outer]
  split
  · rfl
  · exact s.updateLine_outer _ _

theorem State.pocketEmptied_contestBook (s : State) (p : Fin 2) : (s.pocketEmptied p).contestBook = s.contestBook := by
  have hwithdrawn : (s.withdrawIntent p).contestBook = s.contestBook := by
    rw [State.withdrawIntent_parts]
    rfl
  unfold State.pocketEmptied
  split
  · rfl
  · rfl
  · split
    · exact State.contestBook_of_outer (s.completeGrant_outer p _)
    · exact State.contestBook_of_outer (s.completeGrant_outer p _)
    · exact hwithdrawn
    all_goals rfl

theorem State.pocketAdopted_contestBook (s : State) (p : Fin 2) (present : Bool) :
    (s.pocketAdopted p present).contestBook = s.contestBook := by
  unfold State.pocketAdopted
  split
  · rfl
  · rfl
  · exact State.contestBook_of_outer (s.becomeForeign_outer p)
  · rfl
  · rfl

end Sys2Proof.Machine
end

section
/-! SUPPORT. The step of a pocket sensor (R64, R136 to R141): what its end leaves of the pockets, and the proof of the statement
about it. -/

namespace Sys2Proof.Machine

/-! ### The end of the step -/

section
variable {b t : State} (hq : t.quiet) {p : Fin 2}
include hq

/-- With nothing handed over, the end of a step changes a pocket at most between free and ASSIGNED. -/
theorem State.settle_unassigned : ((State.settle b t).pocket p).unassigned = (t.pocket p).unassigned := by
  have hpockets : (State.settle b t).lanes.pockets.map Pocket.unassigned = t.lanes.pockets.map Pocket.unassigned :=
    congrArg Work.pockets (State.settle_work b t hq)
  simpa [State.pocket] using congrArg (fun v : Vector Pocket 2 => v[p]) hpockets

theorem State.settle_free (h : t.pocket p = .free) : ((State.settle b t).pocket p).unassigned = .free := by
  rw [State.settle_unassigned hq, h]
  rfl

theorem State.settle_foreign (h : t.pocket p = .foreign) : (State.settle b t).pocket p = .foreign := by
  have hsame := State.settle_unassigned (b := b) hq (p := p)
  rw [h] at hsame
  cases hp : (State.settle b t).pocket p with
  | foreign => rfl
  | free => rw [hp] at hsame; cases hsame
  | entry e =>
    rw [hp, Pocket.unassigned, Pocket.unassigned] at hsame
    split at hsame <;> cases hsame

theorem State.settle_loads {s : State} {c : PocketEntry} (h : s.Loads t p c) : s.Loads (State.settle b t) p c := by
  obtain ⟨e, hp, hloaded, hslot, hline, hbus, hsent⟩ := h
  refine ⟨e, State.settle_entry hq hp, hloaded, hslot, hline, hbus, fun l hnone hl hhalt hroom => ?_⟩
  obtain ⟨hqueued, htx⟩ := hsent l hnone hl hhalt hroom
  exact ⟨hqueued, htx.trans (State.settle_tx b t)⟩

end

/-! ### The step -/

/-- A level of a pocket sensor acts by what the sensor read before: the first one is adopted (R64), another one is a tyre
that arrives (R136) or one that leaves (R137, R138). -/
theorem State.pocketLevel_cases {s : State} {p : Fin 2} {present : Bool} (h : s.face.pocketSense[p] ≠ some present) :
    (s.face.pocketSense[p] = none ∧ s.pocketLevel p present = (s.setSense p present).pocketAdopted p present) ∨
    (s.face.pocketSense[p] = some false ∧ s.pocketLevel p present = (s.setSense p present).pocketFilled p) ∨
    (s.face.pocketSense[p] = some true ∧ s.pocketLevel p present = (s.setSense p present).pocketEmptied p) := by
  unfold State.pocketLevel
  cases hold : s.face.pocketSense[p] with
  | none => exact .inl ⟨rfl, rfl⟩
  | some old =>
    cases old <;> cases present
    · exact absurd hold h
    · exact .inr (.inl ⟨rfl, rfl⟩)
    · exact .inr (.inr ⟨rfl, rfl⟩)
    · exact absurd hold h

/-- The state once a level that a pocket sensor's line shows is its debounced level (R64). -/
def State.sensorTaken (s : State) (p : Fin 2) (high : Bool) : State :=
  (s.setDebounce (.pocket p) { line := some high, since := none }).setSense p (s.activeAt (.pocket p) high)

theorem State.sensorTaken_pocket (s : State) (p q : Fin 2) (high : Bool) :
    (s.sensorTaken p high).pocket q = s.pocket q := rfl

theorem State.sensorTaken_quiet {s : State} (h : s.quiet) (p : Fin 2) (high : Bool) : (s.sensorTaken p high).quiet :=
  ⟨h.1, h.2⟩

/-- What a level that a pocket sensor's line shows does before the end of the step. -/
def State.sensorShown (s : State) (p : Fin 2) (high : Bool) : State :=
  s.debounced (.pocket p) high fun u present => u.pocketLevel p present

/-- The state at the end of that step. -/
def State.sensorStepped (s : State) (p : Fin 2) (high : Bool) : State := State.settle s (s.sensorShown p high)

theorem pocketSenseChange_next {s : State} (hrun : s.isRunning = true) (p : Fin 2) (high : Bool) :
    exec (.pocketSenseChange p high) s = .next (s.sensorStepped p high) :=
  State.during_next hrun fun t => t.sensorShown p high

/-- Before 10 ms have passed the level is only timed (R64). -/
theorem State.sensorShown_timed {s : State} {p : Fin 2} {high : Bool} (h : ¬s.shownLong (.pocket p) high) :
    s.sensorShown p high = s.showLevel (.pocket p) high := State.debounced_holds _ h

/-- A level that is only timed changes what the face knows of its line alone. -/
theorem State.sensorStepped_timed {s : State} {p : Fin 2} {high : Bool} (h : ¬s.shownLong (.pocket p) high) :
    (s.sensorStepped p high).kept = { s.kept with debounces := (s.sensorStepped p high).face.debounces } ∧
      (s.quiet → (s.sensorStepped p high).work = s.work) := by
  have hkept : (s.sensorStepped p high).kept =
      { s.kept with debounces := (s.showLevel (.pocket p) high).face.debounces } := by
    rw [State.sensorStepped, State.settle_kept, State.sensorShown_timed h]
    rfl
  have hdebounces : (s.sensorStepped p high).face.debounces = (s.showLevel (.pocket p) high).face.debounces :=
    congrArg Kept.debounces hkept
  refine ⟨by rw [hdebounces, hkept], fun hq => ?_⟩
  unfold State.sensorStepped
  rw [State.sensorShown_timed h]
  exact State.settle_work s (s.showLevel (.pocket p) high) ⟨hq.1, hq.2⟩

section
variable {s : State} {p : Fin 2} {high : Bool} (hlong : s.shownLong (.pocket p) high)
include hlong

theorem State.sensorShown_cases :
    (s.face.pocketSense[p] = none ∧
      s.sensorShown p high = (s.sensorTaken p high).pocketAdopted p (s.activeAt (.pocket p) high)) ∨
    (s.face.pocketSense[p] = some false ∧ s.sensorShown p high = (s.sensorTaken p high).pocketFilled p) ∨
    (s.face.pocketSense[p] = some true ∧ s.sensorShown p high = (s.sensorTaken p high).pocketEmptied p) := by
  unfold State.sensorShown
  rw [State.debounced_changes _ hlong]
  exact State.pocketLevel_cases (s := s.setDebounce (.pocket p) { line := some high, since := none }) hlong.1

theorem State.sensorShown_adopts (h : s.face.pocketSense[p] = none) :
    s.sensorShown p high = (s.sensorTaken p high).pocketAdopted p (s.activeAt (.pocket p) high) := by
  simpa [h] using State.sensorShown_cases hlong

theorem State.sensorShown_fills (h : s.face.pocketSense[p] = some false) :
    s.sensorShown p high = (s.sensorTaken p high).pocketFilled p := by
  simpa [h] using State.sensorShown_cases hlong

theorem State.sensorShown_empties (h : s.face.pocketSense[p] = some true) :
    s.sensorShown p high = (s.sensorTaken p high).pocketEmptied p := by
  simpa [h] using State.sensorShown_cases hlong

/-- Of the kept part, a level taken changes what the face knows of its sensor alone. -/
theorem State.sensorStepped_kept : (s.sensorStepped p high).kept = { s.kept with
    debounces := s.levelTaken (.pocket p) high,
    pocketSense := s.face.pocketSense.set p (some (s.activeAt (.pocket p) high)) } := by
  have htaken : (s.sensorTaken p high).kept = { s.kept with
      debounces := s.levelTaken (.pocket p) high,
      pocketSense := s.face.pocketSense.set p (some (s.activeAt (.pocket p) high)) } := rfl
  rw [← htaken, State.sensorStepped, State.settle_kept]
  obtain ⟨_, h⟩ | ⟨_, h⟩ | ⟨_, h⟩ := State.sensorShown_cases hlong <;> simp [h]

end

/-- A pocket sensor changes no contest record and no offer. -/
theorem State.sensorStepped_contests (s : State) (p : Fin 2) (high : Bool) :
    (s.sensorStepped p high).contests.records = s.contests.records ∧
      (s.sensorStepped p high).contests.offers = s.contests.offers := by
  have hshown : (s.sensorShown p high).contestBook = s.contestBook := by
    by_cases hlong : s.shownLong (.pocket p) high
    · obtain ⟨_, h⟩ | ⟨_, h⟩ | ⟨_, h⟩ := State.sensorShown_cases hlong <;> rw [h]
      · exact State.pocketAdopted_contestBook _ _ _
      · exact State.pocketFilled_contestBook _ _
      · exact State.pocketEmptied_contestBook _ _
    · rw [State.sensorShown_timed hlong]
      rfl
  obtain ⟨hrecords, hoffers⟩ := Prod.mk.inj hshown
  exact ⟨(State.settle_records _ _).trans hrecords, (State.settle_offers _ _).trans hoffers⟩

/-! ### A tyre arrives -/

section
variable {s : State} {p : Fin 2} {high : Bool} (hlong : s.shownLong (.pocket p) high) (hq : s.quiet)
include hlong hq

section
variable (hold : s.face.pocketSense[p] = some false)
include hold

/-- The tyre of a CARRIED entry stands in a pocket, its own or the other one (R136). -/
theorem State.sensorStepped_loads {c : PocketEntry} (hc : c.state = .carried) :
    (s.pocket p = .entry c → s.Loads (s.sensorStepped p high) p c) ∧
      (s.pocket p = .free → s.pocket (otherPocket p) = .entry c → s.Loads (s.sensorStepped p high) p c ∧
        ((s.sensorStepped p high).pocket (otherPocket p)).unassigned = .free) ∧
      (∀ a, s.pocket p = .entry a → a.state = .assigned → s.pocket (otherPocket p) = .entry c →
        s.Loads (s.sensorStepped p high) p c ∧ (s.sensorStepped p high).pocket (otherPocket p) = .entry a) := by
  have hloads : ∀ u : State, u.port = s.port → u.control = s.control → u.quiet →
      s.Loads (State.settle s (u.loadEntry p c)) p c := by
    intro u hport hcontrol hquiet
    refine State.settle_loads (State.loadEntry_quiet hquiet p c) ?_
    have hu := u.loadEntry_loads p c
    unfold State.Loads State.txRoom State.own at hu ⊢
    rwa [hport, hcontrol] at hu
  have hquiet := State.sensorTaken_quiet hq p high
  unfold State.sensorStepped
  rw [State.sensorShown_fills hlong hold]
  refine ⟨fun hp => ?own, fun hp ho => ?free, fun a hp ha ho => ?assigned⟩
  case own =>
    rw [State.pocketFilled_own ((s.sensorTaken_pocket p p high).trans hp) hc]
    exact hloads _ rfl rfl hquiet
  case free =>
    rw [State.pocketFilled_free ((s.sensorTaken_pocket p p high).trans hp)
      ((s.sensorTaken_pocket p (otherPocket p) high).trans ho) hc]
    have hset := State.setPocket_quiet hquiet (otherPocket p) .free
    refine ⟨hloads _ rfl rfl hset, State.settle_free (State.loadEntry_quiet hset p c) ?_⟩
    rw [State.loadEntry_other, State.pocket_setPocket, if_pos rfl]
  case assigned =>
    rw [State.pocketFilled_assigned ((s.sensorTaken_pocket p p high).trans hp) ha
      ((s.sensorTaken_pocket p (otherPocket p) high).trans ho) hc]
    have hset := State.setPocket_quiet hquiet (otherPocket p) (.entry a)
    refine ⟨hloads _ rfl rfl hset, State.settle_entry (State.loadEntry_quiet hset p c) ?_⟩
    rw [State.loadEntry_other, State.pocket_setPocket, if_pos rfl]

/-- An entry that stands with its tyre, or whose tyre goes back, stays in its pocket. -/
theorem State.sensorStepped_stays {e : PocketEntry} (hp : s.pocket p = .entry e) (hcarried : e.state ≠ .carried)
    (hassigned : e.state ≠ .assigned) : (s.sensorStepped p high).pocket p = .entry e := by
  have htaken := (s.sensorTaken_pocket p p high).trans hp
  unfold State.sensorStepped
  rw [State.sensorShown_fills hlong hold, State.pocketFilled_still htaken hcarried hassigned]
  exact State.settle_entry (State.sensorTaken_quiet hq p high) htaken

end

/-- A tyre that no entry accounts for, found at once or arriving later, makes the pocket foreign with its record (R141). -/
theorem State.sensorStepped_foreign (hactive : s.activeAt (.pocket p) high = true) (hlog : s.control.log.length < 16)
    (h : s.pocket p = .free ∧ (s.face.pocketSense[p] = none ∨ s.face.pocketSense[p] = some false ∧
        s.entryIn (otherPocket p) .carried = none) ∨
      s.face.pocketSense[p] = some false ∧ s.entryIn (otherPocket p) .carried = none ∧
        ∃ a, s.pocket p = .entry a ∧ a.state = .assigned) :
    (s.sensorStepped p high).pocket p = .foreign ∧
      (s.sensorStepped p high).control.log = s.control.log ++ [{
        body := .discrepancy .unknown (.pocket p.val) .absent false none none, week := s.control.week,
        timer := s.timer }] := by
  have hshown : s.sensorShown p high = (s.sensorTaken p high).becomeForeign p := by
    obtain ⟨hp, hold | ⟨hold, hnone⟩⟩ | ⟨hold, hnone, hp⟩ := h
    · rw [State.sensorShown_adopts hlong hold, hactive]
      exact State.pocketAdopted_free (s := s.sensorTaken p high) hp
    · rw [State.sensorShown_fills hlong hold]
      exact State.pocketFilled_unknown (s := s.sensorTaken p high) (.inl hp) hnone
    · rw [State.sensorShown_fills hlong hold]
      exact State.pocketFilled_unknown (s := s.sensorTaken p high) (.inr hp) hnone
  have hquiet := State.sensorTaken_quiet hq p high
  have hforeign := State.becomeForeign_room (s := s.sensorTaken p high) hlog p
  have hpocket : ((s.sensorTaken p high).setPocket p .foreign).pocket p = .foreign := by
    rw [State.pocket_setPocket, if_pos rfl]
  have hend : ((s.sensorTaken p high).becomeForeign p).quiet := by
    rw [hforeign]
    exact ⟨hquiet.1, hquiet.2⟩
  unfold State.sensorStepped
  rw [hshown]
  refine ⟨State.settle_foreign hend ?_, (State.settle_store_log s _ hend).2.trans ?_⟩
  · rw [hforeign]
    exact hpocket
  · rw [hforeign]
    rfl

/-! ### A tyre leaves -/

/-- A foreign pocket that reads absent is free again (R141). -/
theorem State.sensorStepped_frees (hold : s.face.pocketSense[p] ≠ some false)
    (hinactive : s.activeAt (.pocket p) high = false) (hp : s.pocket p = .foreign) :
    ((s.sensorStepped p high).pocket p).unassigned = .free := by
  have htaken := (s.sensorTaken_pocket p p high).trans hp
  have hshown : s.sensorShown p high = (s.sensorTaken p high).setPocket p .free := by
    obtain ⟨_, h⟩ | ⟨hfalse, _⟩ | ⟨_, h⟩ := State.sensorShown_cases hlong
    · rw [h, hinactive, State.pocketAdopted_foreign htaken]
    · exact absurd hfalse hold
    · rw [h, State.pocketEmptied_foreign htaken]
  unfold State.sensorStepped
  rw [hshown]
  refine State.settle_free (State.setPocket_quiet (State.sensorTaken_quiet hq p high) p .free) ?_
  rw [State.pocket_setPocket, if_pos rfl]

section
variable (hold : s.face.pocketSense[p] = some true) {e : PocketEntry} (hp : s.pocket p = .entry e)
include hold hp

omit hq in
/-- A LOADED entry's tyre is lifted out: what stands before the end of the step. -/
theorem State.sensorShown_lifts (he : e.state = .loaded) :
    s.sensorShown p high = ((s.sensorTaken p high).withdrawIntent p).setEntry p e.lifted := by
  rw [State.sensorShown_empties hlong hold, State.pocketEmptied_loaded ((s.sensorTaken_pocket p p high).trans hp) he]

theorem State.sensorStepped_lifted (he : e.state = .loaded) :
    (s.sensorStepped p high).pocket p = .entry e.lifted := by
  have hquiet : ((s.sensorTaken p high).withdrawIntent p).quiet := by
    rw [State.withdrawIntent_parts]
    exact ⟨hq.1, hq.2⟩
  unfold State.sensorStepped
  rw [State.sensorShown_lifts hlong hold hp he]
  exact State.settle_entry (State.setPocket_quiet hquiet p _) (State.pocket_setEntry _ p _)

omit hq in
/-- The transmit queue begins with what the withdrawal leaves of it. -/
theorem State.sensorStepped_tx (he : e.state = .loaded) :
    ((s.sensorTaken p high).withdrawIntent p).port.tx <+: (s.sensorStepped p high).port.tx := by
  have htx := State.settle_tx s (s.sensorShown p high)
  rw [State.sensorShown_lifts hlong hold hp he] at htx
  unfold State.sensorStepped
  rw [State.sensorShown_lifts hlong hold hp he]
  exact htx

/-- A tyre that is being carried or restored leaves its entry. -/
theorem State.sensorStepped_carries (he : e.state = .carried ∨ e.state = .restore) :
    (s.sensorStepped p high).pocket p = .entry e := by
  have htaken := (s.sensorTaken_pocket p p high).trans hp
  unfold State.sensorStepped
  rw [State.sensorShown_empties hlong hold, State.pocketEmptied_still htaken he]
  exact State.settle_entry (State.sensorTaken_quiet hq p high) htaken

/-- A granted entry completes: its pocket is free, and its OUTBOUND slot EMPTY (R138). -/
theorem State.sensorStepped_completes (he : e.state = .granted ∨ e.state = .jammed) (hslot : e.slot < maxPositions)
    (hread : (Memory.get s.store.table e.slot).flipped = 0) (htable : s.tableOk = true) :
    ((s.sensorStepped p high).pocket p).unassigned = .free ∧ (s.sensorStepped p high).recordAt e.slot =
      (if (s.recordAt e.slot).state = .outbound then SlotRecord.empty else s.recordAt e.slot) := by
  have htaken := (s.sensorTaken_pocket p p high).trans hp
  obtain ⟨hfree, haudit, hcontests, hstore⟩ := State.completeGrant_clean (s := s.sensorTaken p high) (p := p) hread
  have hquiet : ((s.sensorTaken p high).completeGrant p e).quiet := by
    unfold State.quiet
    rw [haudit, hcontests]
    exact ⟨hq.1, hq.2⟩
  unfold State.sensorStepped
  rw [State.sensorShown_empties hlong hold, State.pocketEmptied_granted htaken he]
  refine ⟨State.settle_free hquiet hfree, ?_⟩
  rw [State.recordAt_of_store (State.settle_store_log s _ hquiet).1]
  have hrecord : (s.sensorTaken p high).recordAt e.slot = s.recordAt e.slot := rfl
  rw [hrecord] at hstore
  split at hstore
  · rename_i hout
    rw [if_pos hout, State.recordAt_of_store hstore]
    exact State.recordAt_writeRecord_self (s := s.sensorTaken p high) htable hslot _
  · rename_i hout
    rw [if_neg hout, State.recordAt_of_store hstore, hrecord]

end

end

/-! ### The statement -/

/-- Settles O44: a level shown for less than 10 ms is only timed (`sensorShown_timed`); one shown longer is adopted, or is a
tyre that arrives or leaves (`sensorShown_cases`), and each case has its equation (`pocketFilled_own` to
`pocketEmptied_foreign`); the end of the step leaves entries and records where they are and only appends to the transmit
queue. -/
theorem pocketSensorMovesItsEntry : Obligations.PocketSensorMovesItsEntry := by
  intro s p high hrun
  obtain ⟨hrecords, hoffers⟩ := s.sensorStepped_contests p high
  refine ⟨_, pocketSenseChange_next hrun p high, hrecords, hoffers, State.sensorStepped_timed, fun hlong =>
    ⟨State.sensorStepped_kept hlong, fun c hold _ hq hc => State.sensorStepped_loads hlong hq hold hc,
      fun hold hactive hq hlog h => State.sensorStepped_foreign hlong hq hactive hlog ?unaccounted,
      fun e hold _ hq hp he => State.sensorStepped_stays hlong hq hold hp ?notCarried ?notAssigned,
      fun e hold _ hq hp => ⟨fun he => ⟨State.sensorStepped_lifted hlong hq hold hp he, fun l hl hqueued =>
          ⟨fun hfirst => ?first, fun before f between g after hsecond htx hf hg hothers => ?second⟩⟩,
        State.sensorStepped_carries hlong hq hold hp, State.sensorStepped_completes hlong hq hold hp⟩,
      fun hold hinactive hq hp => State.sensorStepped_frees hlong hq hold hinactive hp⟩⟩
  case unaccounted =>
    rcases h with ⟨hfree, hnone⟩ | h
    · exact .inl ⟨hfree, hold.symm.imp_right fun hfalse => ⟨hfalse, hnone hfalse⟩⟩
    · exact .inr h
  case notCarried => rcases he with he | he | he | he <;> simp [he]
  case notAssigned => rcases he with he | he | he | he <;> simp [he]
  case first =>
    have hsent := State.sensorStepped_tx hlong hold hp he
    rwa [State.withdrawIntent_tx_first ((s.sensorTaken_pocket p p high).trans hp) hl hqueued hfirst] at hsent
  case second =>
    have hsent := State.sensorStepped_tx hlong hold hp he
    rwa [State.withdrawIntent_tx_second ((s.sensorTaken_pocket p p high).trans hp) hl hqueued hsecond htx hf hg
      hothers] at hsent

end Sys2Proof.Machine
end
